-- ==== Sys2Proof/Word.lean ====
section
/-! DEFINITION. Words and bytes, the numbered names of the manual (ports, strings, zones, switches, stages, channels,
terms, stored tables) and records that hold one value for each of them (00_scope.md, Names and typography). -/

namespace Sys2Proof

abbrev Byte := BitVec 8
abbrev Word := BitVec 32

/-- The three ports; Cell is 0, Converter 1, Site 2 (R154). -/
inductive Port where
  | cell | converter | site
  deriving DecidableEq, Repr

/-- The four battery strings, each with its monitor at the link address of the same number. -/
inductive StringId where
  | s0 | s1 | s2 | s3
  deriving DecidableEq, Repr

/-- The five switches: S0 to S3, one per string, and G, the grid breaker (R80). -/
inductive SwitchId where
  | s0 | s1 | s2 | s3 | g
  deriving DecidableEq, Repr

/-- The three fire and gas zones. -/
inductive Zone where
  | z0 | z1 | z2
  deriving DecidableEq, Repr

/-- The two battery zones, which have a gas sensor (R126, R127). -/
inductive BatteryZone where
  | z0 | z1
  deriving DecidableEq, Repr

/-- The three compressor stages, numbered 1 to 3 (R113). -/
inductive Stage where
  | c1 | c2 | c3
  deriving DecidableEq, Repr

/-- The seven supervision channels, numbered 0 to 6 (R19). -/
inductive Channel where
  | ov | uv | ot | spread | oc | tsens | meas
  deriving DecidableEq, Repr

/-- The eight limit terms, numbered 0 to 7 (R40). -/
inductive Term where
  | battery | rack | thermal | fire | grid | siteCap | converter | isolation
  deriving DecidableEq, Repr

/-- The tables that have a stored copy (R174). -/
inductive StoredTable where
  | t2 | t3 | t5 | t8 | t9 | t10 | t11 | t13
  deriving DecidableEq, Repr

/-- The settings tables, which carry an owner lock and a site hold (R165, R168): the stored tables but 13. -/
def StoredTable.lockable : StoredTable → Bool
  | .t13 => false
  | _ => true

def Port.num : Port → Nat
  | .cell => 0 | .converter => 1 | .site => 2

def Port.all : List Port := [.cell, .converter, .site]

def StringId.num : StringId → Nat
  | .s0 => 0 | .s1 => 1 | .s2 => 2 | .s3 => 3

def StringId.all : List StringId := [.s0, .s1, .s2, .s3]

def StringId.ofNum : Nat → Option StringId
  | 0 => some .s0 | 1 => some .s1 | 2 => some .s2 | 3 => some .s3
  | _ => none

/-- The contactor set of a string. -/
def StringId.switch : StringId → SwitchId
  | .s0 => .s0 | .s1 => .s1 | .s2 => .s2 | .s3 => .s3

def SwitchId.num : SwitchId → Nat
  | .s0 => 0 | .s1 => 1 | .s2 => 2 | .s3 => 3 | .g => 4

def SwitchId.all : List SwitchId := [.s0, .s1, .s2, .s3, .g]

def SwitchId.ofNum : Nat → Option SwitchId
  | 0 => some .s0 | 1 => some .s1 | 2 => some .s2 | 3 => some .s3 | 4 => some .g
  | _ => none

/-- The string whose contactor set the switch is; none for the breaker. -/
def SwitchId.string : SwitchId → Option StringId
  | .s0 => some .s0 | .s1 => some .s1 | .s2 => some .s2 | .s3 => some .s3
  | .g => none

def Zone.num : Zone → Nat
  | .z0 => 0 | .z1 => 1 | .z2 => 2

def Zone.all : List Zone := [.z0, .z1, .z2]

def Zone.ofNum : Nat → Option Zone
  | 0 => some .z0 | 1 => some .z1 | 2 => some .z2
  | _ => none

def Zone.battery : Zone → Option BatteryZone
  | .z0 => some .z0 | .z1 => some .z1 | .z2 => none

def BatteryZone.zone : BatteryZone → Zone
  | .z0 => .z0 | .z1 => .z1

def Stage.num : Stage → Nat
  | .c1 => 1 | .c2 => 2 | .c3 => 3

def Stage.all : List Stage := [.c1, .c2, .c3]

def Stage.ofNum : Nat → Option Stage
  | 1 => some .c1 | 2 => some .c2 | 3 => some .c3
  | _ => none

def Channel.num : Channel → Nat
  | .ov => 0 | .uv => 1 | .ot => 2 | .spread => 3 | .oc => 4 | .tsens => 5 | .meas => 6

def Channel.all : List Channel := [.ov, .uv, .ot, .spread, .oc, .tsens, .meas]

def Term.num : Term → Nat
  | .battery => 0 | .rack => 1 | .thermal => 2 | .fire => 3
  | .grid => 4 | .siteCap => 5 | .converter => 6 | .isolation => 7

def Term.all : List Term := [.battery, .rack, .thermal, .fire, .grid, .siteCap, .converter, .isolation]

def StoredTable.num : StoredTable → Nat
  | .t2 => 2 | .t3 => 3 | .t5 => 5 | .t8 => 8 | .t9 => 9 | .t10 => 10 | .t11 => 11 | .t13 => 13

def StoredTable.all : List StoredTable := [.t2, .t3, .t5, .t8, .t9, .t10, .t11, .t13]

def StoredTable.ofNum : Nat → Option StoredTable
  | 2 => some .t2 | 3 => some .t3 | 5 => some .t5 | 8 => some .t8
  | 9 => some .t9 | 10 => some .t10 | 11 => some .t11 | 13 => some .t13
  | _ => none

/-! Records with one value for each name. -/

structure PerPort (α : Type) where
  cell : α
  converter : α
  site : α
  deriving DecidableEq, Repr

structure PerString (α : Type) where
  s0 : α
  s1 : α
  s2 : α
  s3 : α
  deriving DecidableEq, Repr, Inhabited

structure PerSwitch (α : Type) where
  s0 : α
  s1 : α
  s2 : α
  s3 : α
  g : α
  deriving DecidableEq, Repr

structure PerZone (α : Type) where
  z0 : α
  z1 : α
  z2 : α
  deriving DecidableEq, Repr, Inhabited

structure PerBattery (α : Type) where
  z0 : α
  z1 : α
  deriving DecidableEq, Repr

structure PerStage (α : Type) where
  c1 : α
  c2 : α
  c3 : α
  deriving DecidableEq, Repr

structure PerChannel (α : Type) where
  ov : α
  uv : α
  ot : α
  spread : α
  oc : α
  tsens : α
  meas : α
  deriving DecidableEq, Repr

structure PerTerm (α : Type) where
  battery : α
  rack : α
  thermal : α
  fire : α
  grid : α
  siteCap : α
  converter : α
  isolation : α
  deriving DecidableEq, Repr

structure PerTable (α : Type) where
  t2 : α
  t3 : α
  t5 : α
  t8 : α
  t9 : α
  t10 : α
  t11 : α
  t13 : α
  deriving DecidableEq, Repr

section
variable {α β : Type}

def PerPort.get (x : PerPort α) : Port → α
  | .cell => x.cell | .converter => x.converter | .site => x.site

def PerPort.set (x : PerPort α) (p : Port) (v : α) : PerPort α :=
  match p with
  | .cell => { x with cell := v } | .converter => { x with converter := v } | .site => { x with site := v }

def PerPort.map (f : α → β) (x : PerPort α) : PerPort β := ⟨f x.cell, f x.converter, f x.site⟩

def PerPort.ofFn (f : Port → α) : PerPort α := ⟨f .cell, f .converter, f .site⟩

def PerPort.all (v : α) : PerPort α := ⟨v, v, v⟩

def PerString.get (x : PerString α) : StringId → α
  | .s0 => x.s0 | .s1 => x.s1 | .s2 => x.s2 | .s3 => x.s3

def PerString.set (x : PerString α) (s : StringId) (v : α) : PerString α :=
  match s with
  | .s0 => { x with s0 := v } | .s1 => { x with s1 := v } | .s2 => { x with s2 := v } | .s3 => { x with s3 := v }

def PerString.map (f : α → β) (x : PerString α) : PerString β := ⟨f x.s0, f x.s1, f x.s2, f x.s3⟩

def PerString.all (v : α) : PerString α := ⟨v, v, v, v⟩

def PerString.ofFn (f : StringId → α) : PerString α := ⟨f .s0, f .s1, f .s2, f .s3⟩

def PerSwitch.get (x : PerSwitch α) : SwitchId → α
  | .s0 => x.s0 | .s1 => x.s1 | .s2 => x.s2 | .s3 => x.s3 | .g => x.g

def PerSwitch.set (x : PerSwitch α) (n : SwitchId) (v : α) : PerSwitch α :=
  match n with
  | .s0 => { x with s0 := v } | .s1 => { x with s1 := v } | .s2 => { x with s2 := v } | .s3 => { x with s3 := v }
  | .g => { x with g := v }

def PerSwitch.map (f : α → β) (x : PerSwitch α) : PerSwitch β := ⟨f x.s0, f x.s1, f x.s2, f x.s3, f x.g⟩

def PerSwitch.all (v : α) : PerSwitch α := ⟨v, v, v, v, v⟩

def PerSwitch.ofFn (f : SwitchId → α) : PerSwitch α := ⟨f .s0, f .s1, f .s2, f .s3, f .g⟩

def PerZone.get (x : PerZone α) : Zone → α
  | .z0 => x.z0 | .z1 => x.z1 | .z2 => x.z2

def PerZone.set (x : PerZone α) (z : Zone) (v : α) : PerZone α :=
  match z with
  | .z0 => { x with z0 := v } | .z1 => { x with z1 := v } | .z2 => { x with z2 := v }

def PerZone.map (f : α → β) (x : PerZone α) : PerZone β := ⟨f x.z0, f x.z1, f x.z2⟩

def PerZone.all (v : α) : PerZone α := ⟨v, v, v⟩

def PerBattery.get (x : PerBattery α) : BatteryZone → α
  | .z0 => x.z0 | .z1 => x.z1

def PerBattery.set (x : PerBattery α) (z : BatteryZone) (v : α) : PerBattery α :=
  match z with
  | .z0 => { x with z0 := v } | .z1 => { x with z1 := v }

def PerBattery.map (f : α → β) (x : PerBattery α) : PerBattery β := ⟨f x.z0, f x.z1⟩

def PerBattery.all (v : α) : PerBattery α := ⟨v, v⟩

def PerStage.get (x : PerStage α) : Stage → α
  | .c1 => x.c1 | .c2 => x.c2 | .c3 => x.c3

def PerStage.set (x : PerStage α) (c : Stage) (v : α) : PerStage α :=
  match c with
  | .c1 => { x with c1 := v } | .c2 => { x with c2 := v } | .c3 => { x with c3 := v }

def PerStage.map (f : α → β) (x : PerStage α) : PerStage β := ⟨f x.c1, f x.c2, f x.c3⟩

def PerStage.all (v : α) : PerStage α := ⟨v, v, v⟩

def PerChannel.get (x : PerChannel α) : Channel → α
  | .ov => x.ov | .uv => x.uv | .ot => x.ot | .spread => x.spread | .oc => x.oc | .tsens => x.tsens | .meas => x.meas

def PerChannel.set (x : PerChannel α) (k : Channel) (v : α) : PerChannel α :=
  match k with
  | .ov => { x with ov := v } | .uv => { x with uv := v } | .ot => { x with ot := v }
  | .spread => { x with spread := v } | .oc => { x with oc := v } | .tsens => { x with tsens := v }
  | .meas => { x with meas := v }

def PerChannel.ofFn (f : Channel → α) : PerChannel α :=
  ⟨f .ov, f .uv, f .ot, f .spread, f .oc, f .tsens, f .meas⟩

def PerChannel.all (v : α) : PerChannel α := ⟨v, v, v, v, v, v, v⟩

def PerTerm.get (x : PerTerm α) : Term → α
  | .battery => x.battery | .rack => x.rack | .thermal => x.thermal | .fire => x.fire
  | .grid => x.grid | .siteCap => x.siteCap | .converter => x.converter | .isolation => x.isolation

def PerTable.get (x : PerTable α) : StoredTable → α
  | .t2 => x.t2 | .t3 => x.t3 | .t5 => x.t5 | .t8 => x.t8 | .t9 => x.t9 | .t10 => x.t10 | .t11 => x.t11 | .t13 => x.t13

def PerTable.set (x : PerTable α) (t : StoredTable) (v : α) : PerTable α :=
  match t with
  | .t2 => { x with t2 := v } | .t3 => { x with t3 := v } | .t5 => { x with t5 := v } | .t8 => { x with t8 := v }
  | .t9 => { x with t9 := v } | .t10 => { x with t10 := v } | .t11 => { x with t11 := v } | .t13 => { x with t13 := v }

def PerTable.ofFn (f : StoredTable → α) : PerTable α :=
  ⟨f .t2, f .t3, f .t5, f .t8, f .t9, f .t10, f .t11, f .t13⟩

def PerTable.all (v : α) : PerTable α := ⟨v, v, v, v, v, v, v, v⟩

end

end Sys2Proof
end

