-- ==== Sys2Proof/Syntax.lean ====
section
/-! DEFINITION. The commands: one constructor of `Instr` for each row of spec/opcode_table.json, and the data they carry
(frames, link answers, hand-offs). -/

namespace Sys2Proof

/-! ## Names of states -/

/-- SLC's monitor states (R6, R17). -/
inductive MonitorState where
  | absent | interrogating | present | unrecognized
  deriving DecidableEq, Repr

/-- CSU's string healths (R29). -/
inductive Health where
  | available | tripped | absent | interrogating | unrecognized | lockedOut
  deriving DecidableEq, Repr

/-- Switch states (R80); `opened` is OPEN, and PRECHARGING occurs on strings alone. -/
inductive SwitchState where
  | opened | precharging | closing | closed | opening | welded
  deriving DecidableEq, Repr

/-- The station fire stage (R138). -/
inductive FireStage where
  | normal | fault | prealarm | alarm | released
  deriving DecidableEq, Repr

/-- A zone's stage as FGU shows it to CLC (R138): ALARM stands for COUNTDOWN and HELD, TEST for a zone in test mode. -/
inductive ZoneShown where
  | normal | fault | prealarm | alarm | released | test
  deriving DecidableEq, Repr

/-- GWM's window states (R101 to R104). -/
inductive WindowState where
  | holdOff | permitted | inWindow | rideThrough | tripped
  deriving DecidableEq, Repr

/-- A port's standing (R154). -/
inductive Standing where
  | unchecked | inStanding | lapsed | forfeit | barred
  deriving DecidableEq, Repr

/-- The raw and confirmed states of a detector loop (R126). -/
inductive LoopState where
  | normal | active | opened | short
  deriving DecidableEq, Repr

inductive Loop where
  | smoke | heat
  deriving DecidableEq, Repr

inductive Direction where
  | charge | discharge
  deriving DecidableEq, Repr

/-- The 24 event classes, numbered 0 to 23 in this order (R169). -/
inductive EventClass where
  | monitorAppeared | monitorLost | stringUnrecognized | channelTripped | channelCleared | stringLockout
  | bindingSourceChanged | dispatchClamped | converterOverrun | switchDone | switchFailed | gridTrip
  | gridReconnectPermitted | coolingFault | coolingStageChange | firePrealarm | fireAlarm | fireReleased
  | zoneFault | testDetection | balanceEnded | standingChanged | storeDone | storeFailed
  deriving DecidableEq, Repr

def EventClass.all : List EventClass :=
  [.monitorAppeared, .monitorLost, .stringUnrecognized, .channelTripped, .channelCleared, .stringLockout,
   .bindingSourceChanged, .dispatchClamped, .converterOverrun, .switchDone, .switchFailed, .gridTrip,
   .gridReconnectPermitted, .coolingFault, .coolingStageChange, .firePrealarm, .fireAlarm, .fireReleased,
   .zoneFault, .testDetection, .balanceEnded, .standingChanged, .storeDone, .storeFailed]

/-- What an occurrence is about (R169); a table number 15 names the standing record (R174). -/
inductive Subject where
  | string (s : StringId)
  | zone (z : Zone)
  | switch (n : SwitchId)
  | port (p : Port)
  | stage (c : Stage)
  | table (t : Nat)
  deriving DecidableEq, Repr

/-- One occurrence handed to EVR (R169); `forced` marks FORCE_EVENT's, which are never protected (R140). -/
structure Occurrence where
  cls : EventClass
  subject : Subject
  detail : Option Nat
  forced : Bool
  deriving DecidableEq, Repr

/-! ## Link records -/

/-- One module's entry of a scan record; `temp` is none for the marker OPEN (R4). -/
structure ModuleEntry where
  vmax : Int
  vmin : Int
  temp : Option Int
  deriving DecidableEq, Repr

/-- The fields of a scan record (R4); the sequence number counts mod 16 (R6), and position p of the bleed set is bit p. -/
structure ScanRecord where
  sequence : BitVec 4
  modules : List ModuleEntry
  current : Int
  voltage : Int
  bleed : BitVec 16
  selfTestFail : Bool
  deriving DecidableEq, Repr

/-- The fields of a bus record (R5). -/
structure BusRecord where
  dc : Int
  phase1 : Int
  phase2 : Int
  phase3 : Int
  freq : Int
  deriving DecidableEq, Repr

/-- The fields of an identity record (R9), unbounded as a record may carry them (log 41). -/
structure Identity where
  modules : Nat
  chemistry : Nat
  rated : Nat
  deriving DecidableEq, Repr

/-- The exchange an answer belongs to: the request the part sent and the partner addressed (R2). -/
inductive Exchange where
  | busPoll
  | scanPoll (s : StringId)
  | identityRequest (s : StringId)
  deriving DecidableEq, Repr

/-- An answer as received: every byte in the order it came, the two of the check last (R3), and the fields that the bytes before the check
spell. The spec gives the fields no byte positions, so bytes and fields come side by side (log 7). -/
structure LinkAnswer (α : Type) where
  bytes : List Byte
  fields : α
  deriving DecidableEq, Repr

/-! ## Request frames (R163) -/

/-- A whole request frame of eight bytes. -/
structure Frame where
  kind : Byte
  table : Byte
  index : Byte
  value : Word
  check : Byte
  deriving DecidableEq, Repr

/-- A frame of a known kind: item, value and check. -/
structure ItemFrame where
  table : Byte
  index : Byte
  value : Word
  check : Byte
  deriving DecidableEq, Repr

/-- A frame of a known kind and item: value and check. -/
structure ValueFrame where
  value : Word
  check : Byte
  deriving DecidableEq, Repr

/-- A SERVICE frame of a known service: the table byte, which is not examined (R166), the argument and the check. -/
structure ServiceFrame where
  table : Byte
  value : Word
  check : Byte
  deriving DecidableEq, Repr

/-- Which of a string's two expectations a write names (R12, R35). -/
inductive Expectation where
  | moduleCount | chemistry
  deriving DecidableEq, Repr

/-- How a derating item is addressed: in table 3, or through the window of table 2 (R60). -/
inductive DeratingVia where
  | table3 | window
  deriving DecidableEq, Repr

/-! ## Hand-offs -/

/-- What SLC delivers to CSU (R20). -/
inductive CsuDelivery where
  | full (r : ScanRecord) (gap : Bool)
  | hardOnly (r : ScanRecord)
  | staleExpiry
  deriving DecidableEq, Repr

/-- The values of an evaluated record that ENV copies (R42). -/
structure EnvCopy where
  temps : List (Option Int)
  vmax : Int
  vmin : Int
  voltage : Int
  deriving DecidableEq, Repr

/-- One input change at ENV (R41); `settings` is a taken WRITE, whose value stands in the settings when ENV recomputes. -/
inductive EnvInput where
  | evaluation (s : StringId) (copy : Option EnvCopy) (h : Health)
  | health (s : StringId) (h : Health)
  | stringSwitch (s : StringId) (st : SwitchState) (openPending : Bool)
  | breaker (st : SwitchState)
  | isolation (on : Bool)
  | thermal (kw : Nat)
  | fire (st : FireStage) (test : Bool)
  | window (st : WindowState)
  | standing (p : Port) (st : Standing)
  | settings
  deriving DecidableEq, Repr

/-! ## Commands -/

/-- The commands, one for each row of spec/opcode_table.json in its order. -/
inductive Instr where
  -- resets and links
  | powerOnReset
  | warmRestart
  | linkResetAssert (p : Port)
  | portReset (p : Port)
  | incompleteTransfer (p : Port)
  -- port requests
  | nop (p : Port) (f : Frame)
  | read (p : Port) (f : ItemFrame)
  | generationRead (p : Port) (f : ValueFrame)
  | write (p : Port) (f : ItemFrame)
  | siteOrderWrite (p : Port) (f : ValueFrame)
  | rampRateWrite (p : Port) (f : ValueFrame)
  | fallbackOrderWrite (p : Port) (f : ValueFrame)
  | siteCapWrite (p : Port) (dir : Direction) (f : ValueFrame)
  | converterReport (p : Port) (f : ValueFrame)
  | ratingWrite (p : Port) (dir : Direction) (f : ValueFrame)
  | isolationRequestWrite (p : Port) (f : ValueFrame)
  | accessMapWrite (p : Port) (index : Byte) (f : ValueFrame)
  | cursorWrite (p : Port) (f : ValueFrame)
  | maskWrite (p : Port) (f : ValueFrame)
  | expectationRewrite (p : Port) (s : StringId) (e : Expectation) (f : ValueFrame)
  | deratingWrite (p : Port) (via : DeratingVia) (index : Byte) (f : ValueFrame)
  | storeTable (p : Port) (f : ServiceFrame)
  | clearStoreStatus (p : Port) (f : ServiceFrame)
  | lockTable (p : Port) (f : ServiceFrame)
  | siteHold (p : Port) (f : ServiceFrame)
  | siteReleaseHold (p : Port) (f : ServiceFrame)
  | lockMap (p : Port) (f : ServiceFrame)
  | releaseLockout (p : Port) (f : ServiceFrame)
  | clearSwitch (p : Port) (f : ServiceFrame)
  | zoneReset (p : Port) (f : ServiceFrame)
  | zoneRearm (p : Port) (f : ServiceFrame)
  | zoneTestStart (p : Port) (f : ServiceFrame)
  | zoneTestEnd (p : Port) (f : ServiceFrame)
  | forceEvent (p : Port) (f : ServiceFrame)
  | balanceStart (p : Port) (f : ServiceFrame)
  | balanceSuspend (p : Port) (f : ServiceFrame)
  | balanceResume (p : Port) (f : ServiceFrame)
  | balanceCancel (p : Port) (f : ServiceFrame)
  | balanceClear (p : Port) (f : ServiceFrame)
  | coolingFaultClear (p : Port) (f : ServiceFrame)
  | restart (p : Port) (f : ServiceFrame)
  | answer (p : Port) (f : ItemFrame)
  | ackEvents (p : Port) (f : ItemFrame)
  | select (p : Port) (f : ItemFrame)
  | operate (p : Port) (f : ItemFrame)
  | cancel (p : Port) (f : ItemFrame)
  -- the string link and SLC's timers
  | linkSlot
  | scanRecord (x : Exchange) (a : LinkAnswer ScanRecord)
  | busRecord (x : Exchange) (a : LinkAnswer BusRecord)
  | identityRecord (x : Exchange) (a : LinkAnswer Identity)
  | identityTimerExpiry (s : StringId)
  | staleExpiry (s : StringId)
  | monitorLoss (s : StringId)
  | busStaleOnset
  -- CSU
  | csuEvaluation (s : StringId) (d : CsuDelivery)
  | monitorStateReport (s : StringId)
  | weldReport (s : StringId)
  -- ENV and DU
  | envelopeRecomputation (i : EnvInput)
  | rampStep
  | reportStaleExpiry
  | overrunExpiry
  | siteStandingHandoff (st : Standing)
  -- SWC
  | feedbackChange (n : SwitchId) (shut : Bool)
  | prechargeExpiry (s : StringId)
  | closeFeedbackExpiry (n : SwitchId)
  | openFeedbackExpiry (n : SwitchId)
  | openDelayExpiry (s : StringId)
  | selectExpiry (n : SwitchId)
  | isolationTimerExpiry
  | swcScanRecord (s : StringId) (current : Int) (voltage : Int)
  | swcBusRecord (dc : Int)
  | swcMonitorLoss (s : StringId)
  | swcBusStale
  | healthHandoffSwc (s : StringId) (h : Health)
  | fireStageHandoffSwc (st : FireStage)
  | forcedOpen
  | gridWindowHandoffSwc (st : WindowState)
  | isolationConverterReport (kw : Int)
  -- GWM
  | gridRecord (r : BusRecord)
  | gwmBusStale
  | breakerReportGwm (st : SwitchState)
  | holdOffExpiry
  | rideThroughExpiry
  | tripDelayExpiry
  -- CLC
  | coolingSample (supply : Int) (coolantReturn : Int) (ambient : Int)
  | runFeedbackChange (c : Stage) (running : Bool)
  | runFeedbackExpiry (c : Stage)
  | flowSwitchChange (flow : Bool)
  | flowConfirmExpiry
  | flowLossExpiry
  | retryExpiry
  | tryExpiry
  | provingExpiry
  | exhaustFeedbackChange (running : Bool)
  | exhaustFeedbackExpiry
  | zoneStageHandoffClc (zs : PerZone ZoneShown)
  | stringStateReportClc (s : StringId) (st : SwitchState)
  -- FGU
  | loopChange (z : Zone) (l : Loop) (raw : LoopState)
  | loopConfirmation (z : Zone) (l : Loop)
  | callPointChange (operated : Bool)
  | callPointConfirmation
  | holdButtonChange (pressed : Bool)
  | gasSample (z : BatteryZone) (ppm : Nat)
  | releaseTimerExpiry (z : Zone)
  | pulseTimerExpiry (z : Zone)
  | testTimerExpiry (z : Zone)
  -- BAL
  | balanceRecord (s : StringId) (vmax : List Int) (bleed : BitVec 16)
  | thermalHoldHandoff (on : Bool)
  | balFireStageHandoff (st : FireStage)
  | balHealthHandoff (s : StringId) (h : Health)
  | balMonitorLoss (s : StringId)
  | balStandingHandoff (p : Port) (st : Standing)
  | durationExpiry
  -- SDM
  | periodExpiry (p : Port)
  | deadlineExpiry (p : Port)
  -- EVR and STO
  | eventOccurrence (o : Occurrence)
  | updateRequest
  | programmingCompletion (ok : Bool)
  | updateCompletion (ok : Bool)
  | integrityCheck (failing : Bool)
  deriving DecidableEq, Repr

end Sys2Proof
end

