-- ==== Sys2Proof/Decode.lean ====
section
/-! DEFINITION. The commands that words of the table spell. -/

namespace Sys2Proof

/-- spec/opcode_table.json gives no row any bits (98_reader.md counts none), so no word spells a command. -/
def decodeTableWord (_nbits _w : Nat) : Option Instr := none

end Sys2Proof
end

