-- ==== Sys2Proof/Config.lean ====
section
/-! DEFINITION. What the spec leaves open: the free values of the model. -/

namespace Sys2Proof

/-- A string's lockout cause set (R24, coded in R37). -/
structure Causes where
  ovHard : Bool
  uvHard : Bool
  otHard : Bool
  weld : Bool
  recordLost : Bool
  deriving DecidableEq, Repr, Inhabited

def Causes.none : Causes := ⟨false, false, false, false, false⟩

/-- The contents of the standing record: the lockout cause set of each string, the released flag of each zone (R174). -/
structure StandingRecord where
  causes : PerString Causes
  released : PerZone Bool
  deriving DecidableEq, Repr, Inhabited

def StandingRecord.empty : StandingRecord := ⟨.all .none, .all false⟩

/-- FREE VALUE (DESIGN CHOICE, log 20). The contents that the standing record's copy shows after its n-th failed update: the copy "is
left failing its check" (R177) and the spec does not say what table 14 indexes 197 to 201 then read (R180). Nothing constrains it. -/
opaque Config.failedRecord : Nat → StandingRecord

/-- A request sent on the link (R2); a scan poll carries the commanded bleed set. -/
inductive LinkRequest where
  | busPoll
  | scanPoll (s : StringId) (bleed : BitVec 16)
  | identityRequest (s : StringId)
  deriving DecidableEq, Repr

/-- FREE VALUE (DESIGN CHOICE, log 7). The bytes of a link request before its check: R2 gives what a request carries and not its bytes.
Nothing constrains them. -/
opaque Config.requestBytes : LinkRequest → List Byte

/-- FREE VALUE (DESIGN CHOICE, log 22). What sets the programming time of the n-th operation within the 20 to 60 ms of R175. Nothing
constrains it. -/
opaque Config.storeTime : Nat → Nat

/-- FREE VALUE (DESIGN CHOICE, log 22). Whether the n-th operation of the programming engine succeeds when its time has passed. Nothing
constrains it. -/
opaque Config.operationSucceeds : Nat → Bool

/-- FREE VALUE (DESIGN CHOICE, log 28). The value of the n-th reply whose owner states none: an OK without a value, a STATE without a
code. Nothing constrains it. -/
opaque Config.openReply : Nat → Word

end Sys2Proof
end

