-- ==== Sys2Proof/Machine/Factory.lean ====
section
/-! DEFINITION. The factory contents of the stored tables: item i of a table is entry i of its list. -/

namespace Sys2Proof.Machine

/-- R36: class 1 and class 2 thresholds, limit and hold of the seven channel kinds, two empty items, expectations of the strings. -/
def factoryT2 : List Int :=
  [3650, 3750, 2800, 2500, 550, 650, 150, 4400,
   4200, 4300, 3000, 2700, 550, 650, 150, 4400,
   4, 20, 4, 20, 6, 10, 6, 10, 6, 10, 6, 10, 6, 10, 0, 0,
   12, 1, 12, 1, 12, 1, 12, 1]

/-- R59: charge breakpoints and factors, discharge breakpoints and factors, CHG_MAX, DIS_MAX, tapers of class 1 and 2. -/
def factoryT3 : List Int :=
  [-100, 0, 100, 350, 450, 550, 0, 205, 819, 1024, 512, 0,
   -300, -100, 0, 450, 500, 600, 307, 614, 922, 1024, 512, 0,
   2800, 2800, 3400, 3550, 3050, 2900, 4050, 4150, 3250, 3100]

/-- R78, and R178 for the site order: site order, ramp rate, FALLBACK_ORDER, caps, OVR_ABS, OVR_PCT. -/
def factoryT5 : List Int :=
  [0, 50, 0, 9999, 9999, 5, 2]

/-- R123. -/
def factoryT8 : List Int :=
  [50, 100, 250, 280, 320, 30, 20, 420, 520, 2000, 100, 380, 450]

/-- R141. -/
def factoryT9 : List Int :=
  [30, 50, 200, 500]

/-- R105. -/
def factoryT10 : List Int :=
  [2300, 0, 500, 900, 1100, 1200, 150, 1500, 1000, 47500, 49000, 51000, 52000, 200, 10000, 300, 9999]

/-- R154 (0 to 5), R47 (8), R105 (16 to 19); the other indexes read 0. -/
def factoryT11 : List Int :=
  [200, 150, 200, 150, 200, 150, 0, 0, 512, 0, 0, 0, 0, 0, 0, 0, 0, 10, 200, 100]

/-- R165's map as rights 3t + p, then the switching rights of R167. -/
def factoryT13 : List Int :=
  [1, 1, 1, 1, 1, 1, 2, 1, 1, 2, 1, 1, 1, 1, 1, 1, 1, 2, 1, 2, 1, 1, 1, 1,
   2, 1, 1, 0, 1, 2, 1, 1, 2, 1, 1, 2, 1, 1, 1, 1, 1, 2, 1, 1, 1,
   1, 2, 3]

def factory : StoredTable → List Int
  | .t2 => factoryT2 | .t3 => factoryT3 | .t5 => factoryT5 | .t8 => factoryT8
  | .t9 => factoryT9 | .t10 => factoryT10 | .t11 => factoryT11 | .t13 => factoryT13

end Sys2Proof.Machine
end

