-- ==== Sys2Proof/Machine/State.lean ====
section
/-! DEFINITION. The state: the waiting commands and the part, block by block, as plain data; faults, refusals and the state after reset.
Times and timers are in ms; a timer that may be stopped is an Option of the time left. -/

namespace Sys2Proof.Machine

/-- No event of the spec stops the part: every command has a next state, so there is no fault. -/
inductive Fault : Type
  deriving DecidableEq, Repr

/-- Why a command is refused. -/
inductive Refusal : Type where
  /-- Raised by `exec` alone, for a command without a meaning. Safe: the machine stops where the part goes on. -/
  | notModelled (mnemonic : String)
  deriving DecidableEq, Repr

/-! ## Plant inputs -/

/-- The levels of the plant's input lines (00_scope.md, External connections). They lie outside the part, so no reset changes them. -/
structure Pins where
  feedback : PerSwitch Bool
  runFeedback : PerStage Bool
  exhaustFeedback : Bool
  flow : Bool
  supply : Int
  coolantReturn : Int
  ambient : Int
  gas : PerBattery Nat
  deriving DecidableEq, Repr

/-! ## SLC: string link controller -/

/-- The reason of an UNRECOGNIZED state (R8, R9). -/
inductive Reason where
  | none | noIdentity | mismatch
  deriving DecidableEq, Repr

/-- A request as it is sent (R2), and its bytes in the order they go out, the two of the check last (R3). -/
structure SentRequest where
  request : LinkRequest
  bytes : List Byte
  deriving DecidableEq, Repr

/-- One string's monitor record. The sequence number of R6 is that of the held record. -/
structure Monitor where
  state : MonitorState
  reason : Reason
  identity : Option Identity
  learned : Option Nat
  held : Option ScanRecord
  stale : Bool
  /-- Record age (R13); none while stopped. -/
  age : Option Nat
  /-- Time to the next stale expiry (R13); none while the monitor is not PRESENT. -/
  staleIn : Option Nat
  identityTimer : Option Nat
  attempts : Nat
  reinterrogate : Bool
  discarded : Nat
  deriving DecidableEq, Repr

structure Slc where
  monitors : PerString Monitor
  identityList : List StringId
  bus : BusRecord
  busStale : Bool
  busTimer : Option Nat
  busDiscarded : Nat
  slot : Nat
  slotIn : Nat
  /-- The requests sent in the last slot: the link's output (R1, R2). -/
  sent : List SentRequest
  /-- The exchanges in progress: those of the slot under way that have brought no answer yet (R1). -/
  awaiting : List Exchange
  deriving DecidableEq, Repr

/-! ## CSU: cell supervision unit -/

structure ChannelRec where
  counter : Nat
  tripped : Bool
  pinned : Bool
  limit : Nat
  hold : Nat
  deriving DecidableEq, Repr

structure StringSup where
  channels : PerChannel ChannelRec
  causes : Causes
  health : Health
  failing : PerChannel Bool
  deriving DecidableEq, Repr

structure Csu where
  strings : PerString StringSup
  deriving DecidableEq, Repr

/-! ## ENV: envelope unit -/

structure EnvString where
  copy : Option EnvCopy
  health : Health
  switch : SwitchState
  openPending : Bool
  deriving DecidableEq, Repr

/-- A contribution record (R46). -/
structure Contribution where
  counted : Bool
  chgTemp : Int
  chgTaper : Int
  chgCurrent : Int
  disTemp : Int
  disTaper : Int
  disCurrent : Int
  voltage : Int
  deriving DecidableEq, Repr

structure TermValue where
  chg : Int
  dis : Int
  active : Bool
  deriving DecidableEq, Repr

structure Env where
  strings : PerString EnvString
  contributions : PerString Contribution
  terms : PerTerm TermValue
  cellStanding : Standing
  thermal : Nat
  fireStage : FireStage
  fireTest : Bool
  window : WindowState
  breaker : SwitchState
  isolation : Bool
  ratingChg : Int
  ratingDis : Int
  ratingWritten : Bool
  chg : Int
  dis : Int
  generation : BitVec 16
  bindChg : List Term
  bindDis : List Term
  changed : PerPort Bool
  deriving DecidableEq, Repr

/-! ## DU: dispatch unit -/

inductive OrderSource where
  | site | fallback
  deriving DecidableEq, Repr

inductive Judgment where
  | none | within | over
  deriving DecidableEq, Repr

/-- DU's own state. The envelope, the breaker state and the Converter Port's standing, which DU takes in one event with their owners
(R55, R67, R158), are read from the owners; the site order and its settings are items of table 5. -/
structure Du where
  siteStanding : Standing
  order : Int
  source : OrderSource
  target : Int
  granted : Int
  report : Int
  reportStale : Bool
  /-- The converter has made its first report with the breaker CLOSED since the last restart (R79, log 39). -/
  reported : Bool
  rampTimer : Option Nat
  reportTimer : Option Nat
  overrunTimer : Option Nat
  tolerance : Int
  judgment : Judgment
  deriving DecidableEq, Repr

/-! ## SWC: switching controller -/

inductive Action where
  | close | opening
  deriving DecidableEq, Repr

structure Selection where
  holder : Port
  action : Action
  left : Nat
  deriving DecidableEq, Repr

inductive LastResult where
  | none | done | failed | aborted | refused | selectExpired
  deriving DecidableEq, Repr

/-- The close inhibits of R82 and R83. -/
structure Inhibits where
  health : Bool
  fire : Bool
  failed : Bool
  isolation : Bool
  mismatch : Bool
  busStale : Bool
  gridHoldOff : Bool
  noString : Bool
  converterStanding : Bool
  deriving DecidableEq, Repr

/-- A switch record (R80). `timer` is the pre-charge, close feedback or open feedback timer, by state; `openDelay` runs exactly while
the string is open-pending. -/
structure SwitchRec where
  state : SwitchState
  selection : Option Selection
  lastResult : LastResult
  failure : Bool
  interrupted : Bool
  badJoin : Bool
  openDelay : Option Nat
  timer : Option Nat
  inhibits : Inhibits
  deriving DecidableEq, Repr

inductive IsolationStatus where
  | released | isolating | isolated
  deriving DecidableEq, Repr

/-- The current and voltage of the latest record delivered for a string (R95). -/
structure StringSample where
  current : Int
  voltage : Int
  deriving DecidableEq, Repr

structure Swc where
  switches : PerSwitch SwitchRec
  samples : PerString (Option StringSample)
  busVoltage : Int
  busStale : Bool
  isolation : IsolationStatus
  isolationTimer : Option Nat
  health : PerString Health
  fireStage : FireStage
  window : WindowState
  deriving DecidableEq, Repr

/-! ## GWM: grid window monitor -/

inductive VoltBand where
  | normal | lowRide | highRide | lowTrip | highTrip
  deriving DecidableEq, Repr

inductive FreqBand where
  | normal | ride | trip
  deriving DecidableEq, Repr

/-- The classification of a bus record (R100). -/
structure GridClass where
  volt : VoltBand
  ratio : Int
  freq : FreqBand
  deriving DecidableEq, Repr

/-- What set a trip delay (R102, R103). -/
inductive TripCause where
  | lowVoltage | frequency | busStale
  deriving DecidableEq, Repr

/-- The ride-through timer: the time since entry and the least limit seen (R102). -/
structure RideTimer where
  elapsed : Nat
  limit : Option Nat
  deriving DecidableEq, Repr

/-- The trip-delay timer: the time since its start, the shortest delay seen and the band that gave it (R102, R103). -/
structure TripTimer where
  elapsed : Nat
  delay : Nat
  cause : TripCause
  deriving DecidableEq, Repr

structure Gwm where
  window : WindowState
  holdOffLeft : Nat
  holdOffRunning : Bool
  ride : Option RideTimer
  trip : Option TripTimer
  last : Option GridClass
  breaker : SwitchState
  busStale : Bool
  deriving DecidableEq, Repr

/-! ## CLC: cooling loop controller -/

inductive CoolMode where
  | idle | heat | cool | chill | blind
  deriving DecidableEq, Repr

inductive StageState where
  | off | running | failed
  deriving DecidableEq, Repr

/-- A compressor stage; `since` is the time since it was last commanded on or off (R113, R115). -/
structure CoolStage where
  state : StageState
  since : Nat
  timer : Option Nat
  deriving DecidableEq, Repr

inductive FlowState where
  | none | starting | confirmed | fault
  deriving DecidableEq, Repr

/-- The phase of a flow fault (R117); `held` is a fault whose pump is not wanted. -/
inductive FlowPhase where
  | none | waiting | trying | proving | held
  deriving DecidableEq, Repr

/-- `flowTimer` is the confirm, loss, retry, try or proving timer, by flow state and phase (R116, R117). `settings` is table 8 as the last
sample took it: a write takes effect at the next sample (R123). -/
structure Clc where
  mode : CoolMode
  demanded : Nat
  stages : PerStage CoolStage
  sinceStart : Nat
  pump : Bool
  flow : FlowState
  phase : FlowPhase
  flowTimer : Option Nat
  fanAsked : Int
  heaterAsked : Nat
  fan : Int
  heater : Nat
  recirculation : Bool
  exhaust : Bool
  dampersOpen : Bool
  exhaustFault : Bool
  exhaustTimer : Option Nat
  supply : Option Int
  coolantReturn : Option Int
  ambient : Option Int
  tmax : Option Int
  tmin : Option Int
  lastTmax : Option Int
  zones : PerZone ZoneShown
  stringClosed : PerString Bool
  thermal : Int
  tempCap : Int
  stageCap : Int
  flowCap : Int
  thermalHold : Bool
  sampleIn : Nat
  settings : List Int
  deriving DecidableEq, Repr

/-! ## FGU: fire and gas unit -/

/-- The stages a zone rests in (R129: it never rests in ALARM). -/
inductive ZoneStage where
  | normal | fault | prealarm | countdown | held | released
  deriving DecidableEq, Repr

structure LoopRec where
  raw : LoopState
  confirmed : LoopState
  timer : Option Nat
  deriving DecidableEq, Repr

/-- A zone record. `testTimer` runs exactly in test mode, `pulseTimer` exactly while the release output is on; `testGas` is set while
the last sample since the start of the test was at or above GAS_LOW (R136). -/
structure ZoneRec where
  stage : ZoneStage
  testTimer : Option Nat
  testGas : Bool
  faultFlag : Bool
  releaseTimer : Option Nat
  pulseTimer : Option Nat
  smoke : LoopRec
  heat : LoopRec
  deriving DecidableEq, Repr

/-- A battery zone's gas: the held reading and its judgments, which hold from one sample to the next (R127). -/
structure GasRec where
  reading : Option Nat
  low : Bool
  high : Bool
  sampleIn : Nat
  deriving DecidableEq, Repr

structure Fgu where
  zones : PerZone ZoneRec
  gas : PerBattery GasRec
  stationStage : FireStage
  callRaw : Bool
  callConfirmed : Bool
  callTimer : Option Nat
  holdPressed : Bool
  deriving DecidableEq, Repr

/-! ## BAL: balancing controller -/

inductive RunState where
  | idle | running | suspendPending | suspended | ended
  deriving DecidableEq, Repr

/-- The run record (R144). `target`, `maxDuration` (minutes) and `endCode` read 0 where absent. -/
structure Run where
  state : RunState
  string : StringId
  target : Nat
  maxDuration : Nat
  runningTime : Nat
  owner : Option Port
  thermalCause : Bool
  portCause : Bool
  endCode : Nat
  records : Nat
  deriving DecidableEq, Repr

def Run.none : Run := ⟨.idle, .s0, 0, 0, 0, Option.none, false, false, 0, 0⟩

structure Bal where
  run : Run
  commanded : BitVec 16
  history : List (BitVec 16)
  mismatch : Nat
  thermalHold : Bool
  fireStage : FireStage
  standings : PerPort Standing
  health : PerString Health
  deriving DecidableEq, Repr

/-! ## SDM: standing monitor -/

inductive MissKind where
  | none | wrong | stale | unasked | late
  deriving DecidableEq, Repr

structure PortStanding where
  standing : Standing
  token : Option Byte
  outstanding : Bool
  issueGeneration : BitVec 16
  periodIn : Nat
  deadline : Option Nat
  forfeits : Nat
  lastMiss : MissKind
  misses : Nat
  deriving DecidableEq, Repr

structure Sdm where
  ports : PerPort PortStanding
  deriving DecidableEq, Repr

/-! ## PIF: port interface -/

/-- Result codes, numbered 0 to 11 in this order (R163). -/
inductive Result where
  | ok | checkFail | unknownKind | unknownItem | denied | locked | noStanding | range | busy | state | refused | notHeld
  deriving DecidableEq, Repr

/-- An owner's answer: its result, and its value where the spec states one (log 28). -/
structure Answer where
  result : Result
  value : Option Word
  deriving DecidableEq, Repr

structure Reply where
  kind : Byte
  result : Result
  value : Word
  deriving DecidableEq, Repr

/-- A reply frame as clocked out (R163). -/
structure ReplyFrame where
  kind : Byte
  result : Byte
  value : Word
  summary : Byte
  check : Byte
  deriving DecidableEq, Repr

/-- One port's part of PIF: the pending reply, the link state (true while running) and the reply frame last clocked out. -/
structure PortLink where
  pending : Option Reply
  running : Bool
  sent : Option ReplyFrame
  deriving DecidableEq, Repr

structure Pif where
  ports : PerPort PortLink
  mapLock : Bool
  ownerLocks : PerTable Bool
  siteHolds : PerTable Bool
  /-- The model's own: how many replies whose value the spec does not state have been formed; it indexes the free value of log 28. -/
  openReplies : Nat
  deriving DecidableEq, Repr

/-! ## EVR: event recorder -/

structure Incident where
  seq : Nat
  cls : EventClass
  subject : Subject
  detail : Option Nat
  time : Nat
  guarded : Bool
  deriving DecidableEq, Repr

/-- `lastSeq` is the last sequence number issued, 0 before the first; the next number follows from it (R171). `guarded` above is the
protected flag. -/
structure Evr where
  counts : List Nat
  flags : PerPort (BitVec 24)
  masks : PerPort (BitVec 24)
  cursors : PerPort Word
  queue : List Incident
  lastSeq : Nat
  dropped : Nat
  time : Nat
  deriving DecidableEq, Repr

/-! ## STO: setting store -/

inductive Engine where
  | idle
  | storing (t : StoredTable)
  | updating (r : StandingRecord)
  deriving DecidableEq, Repr

inductive RestartCause where
  | service | self
  deriving DecidableEq, Repr

/-- A stored copy and whether it passes its check (R174). -/
structure StoredCopy where
  contents : List Int
  valid : Bool
  deriving DecidableEq, Repr

structure Sto where
  copies : PerTable StoredCopy
  record : StandingRecord
  recordValid : Bool
  errors : PerTable Bool
  recordError : Bool
  engine : Engine
  /-- The time left of the engine's operation (R175, R177); none while it is IDLE. -/
  opTimer : Option Nat
  updatePending : Bool
  restart : Option RestartCause
  reload : PerTable Bool
  /-- The kept check over each table's working contents, as the contents it was taken over (R179, log 21). -/
  kept : PerTable (List Int)
  checkNext : StoredTable
  checkIn : Nat
  /-- The model's own: how many record updates have failed, which indexes the free value of log 20. -/
  failures : Nat
  /-- The model's own: how many operations the engine has begun, which indexes the free values of log 22. -/
  operations : Nat
  deriving DecidableEq, Repr

/-! ## The part and the machine -/

/-- The part: hand-offs made and not yet taken (oldest first, log 1), the working settings, the plant inputs and the thirteen blocks. -/
structure Device where
  handoffs : List Instr
  settings : PerTable (List Int)
  pins : Pins
  slc : Slc
  csu : Csu
  env : Env
  du : Du
  swc : Swc
  gwm : Gwm
  clc : Clc
  fgu : Fgu
  bal : Bal
  sdm : Sdm
  pif : Pif
  evr : Evr
  sto : Sto
  deriving DecidableEq, Repr

structure State where
  /-- The commands that wait, first in, first out. -/
  pending : List Instr
  dev : Device
  deriving DecidableEq, Repr

/-! ## Reset -/

def Monitor.reset : Monitor :=
  { state := .absent, reason := .none, identity := none, learned := none, held := none, stale := false, age := none,
    staleIn := none, identityTimer := none, attempts := 0, reinterrogate := false, discarded := 0 }

/-- R18. -/
def Slc.reset : Slc :=
  { monitors := .all .reset, identityList := [], bus := ⟨0, 0, 0, 0, 0⟩, busStale := true, busTimer := none,
    busDiscarded := 0, slot := 0, slotIn := 0, sent := [], awaiting := [] }

def ChannelRec.reset (limit hold : Nat) : ChannelRec := ⟨0, false, false, limit, hold⟩

def StringSup.reset : StringSup :=
  { channels := ⟨.reset 4 20, .reset 4 20, .reset 6 10, .reset 6 10, .reset 6 10, .reset 6 10, .reset 6 10⟩,
    causes := .none, health := .absent, failing := .all false }

def Contribution.zero : Contribution := ⟨false, 0, 0, 0, 0, 0, 0, 0⟩

/-- R62, with the factory settings and every zone NORMAL. -/
def Env.reset : Env :=
  { strings := .all ⟨none, .absent, .opened, false⟩, contributions := .all .zero,
    terms :=
      { battery := ⟨0, 0, true⟩, rack := ⟨0, 0, true⟩, thermal := ⟨9999, 9999, true⟩, fire := ⟨9999, 9999, false⟩,
        grid := ⟨0, 0, true⟩, siteCap := ⟨9999, 9999, true⟩, converter := ⟨9999, 9999, false⟩,
        isolation := ⟨9999, 9999, false⟩ },
    cellStanding := .unchecked, thermal := 9999, fireStage := .normal, fireTest := false, window := .holdOff,
    breaker := .opened, isolation := false, ratingChg := 9999, ratingDis := 9999, ratingWritten := false,
    chg := 0, dis := 0, generation := 0, bindChg := [.battery, .rack, .grid], bindDis := [.battery, .rack, .grid],
    changed := .all true }

/-- R79. -/
def Du.reset : Du :=
  { siteStanding := .unchecked, order := 0, source := .fallback, target := 0, granted := 0, report := 0,
    reportStale := false, reported := false, rampTimer := none, reportTimer := none, overrunTimer := none, tolerance := 0, judgment := .none }

def Inhibits.none : Inhibits := ⟨false, false, false, false, false, false, false, false, false⟩

def SwitchRec.reset (i : Inhibits) : SwitchRec :=
  { state := .opened, selection := Option.none, lastResult := .none, failure := false, interrupted := false, badJoin := false,
    openDelay := Option.none, timer := Option.none, inhibits := i }

/-- R107, with every feedback open: HEALTH and BUS_STALE stand on the strings, GRID_HOLD_OFF, NO_STRING, CONVERTER_STANDING and
BUS_STALE on the breaker. -/
def Swc.reset : Swc :=
  let str := SwitchRec.reset { Inhibits.none with health := true, busStale := true }
  { switches := ⟨str, str, str, str,
      .reset { Inhibits.none with busStale := true, gridHoldOff := true, noString := true, converterStanding := true }⟩,
    samples := .all none, busVoltage := 0, busStale := true, isolation := .released, isolationTimer := none,
    health := .all .absent, fireStage := .normal, window := .holdOff }

/-- R107, with the factory HOLD_OFF_TIME. -/
def Gwm.reset : Gwm :=
  { window := .holdOff, holdOffLeft := 300000, holdOffRunning := false, ride := none, trip := none, last := none,
    breaker := .opened, busStale := true }

/-- R125. -/
def Clc.reset : Clc :=
  { mode := .idle, demanded := 0, stages := .all ⟨.off, 180000, none⟩, sinceStart := 30000, pump := false, flow := .none,
    phase := .none, flowTimer := none, fanAsked := 0, heaterAsked := 0, fan := 0, heater := 0, recirculation := false,
    exhaust := false, dampersOpen := false, exhaustFault := false, exhaustTimer := none, supply := none,
    coolantReturn := none, ambient := none, tmax := none, tmin := none, lastTmax := none, zones := .all .normal,
    stringClosed := .all false, thermal := 9999, tempCap := 9999, stageCap := 9999, flowCap := 9999,
    thermalHold := false, sampleIn := 1000, settings := factory .t8 }

def LoopRec.reset : LoopRec := ⟨.normal, .normal, none⟩

def ZoneRec.reset : ZoneRec :=
  { stage := .normal, testTimer := none, testGas := false, faultFlag := false, releaseTimer := none, pulseTimer := none,
    smoke := .reset, heat := .reset }

/-- R143, with every input at rest. -/
def Fgu.reset : Fgu :=
  { zones := .all .reset, gas := .all ⟨none, false, false, 1000⟩, stationStage := .normal, callRaw := false,
    callConfirmed := false, callTimer := none, holdPressed := false }

/-- R153. -/
def Bal.reset : Bal :=
  { run := .none, commanded := 0, history := [], mismatch := 0, thermalHold := false, fireStage := .normal,
    standings := .all .unchecked, health := .all .absent }

/-- R161, with the factory PERIOD. -/
def PortStanding.reset : PortStanding :=
  { standing := .unchecked, token := Option.none, outstanding := false, issueGeneration := 0, periodIn := 200,
    deadline := Option.none, forfeits := 0, lastMiss := .none, misses := 0 }

/-- R173. -/
def Pif.reset : Pif :=
  { ports := .all ⟨none, true, none⟩, mapLock := false, ownerLocks := .all false, siteHolds := .all false,
    openReplies := 0 }

/-- R173. -/
def Evr.reset : Evr :=
  { counts := List.replicate 24 0, flags := .all 0, masks := .all 0, cursors := .all 0, queue := [], lastSeq := 0,
    dropped := 0, time := 0 }

/-- R180; the stored copies hold the factory values and pass their checks (log 4). -/
def Sto.reset : Sto :=
  { copies := .ofFn fun t => ⟨factory t, true⟩, record := .empty, recordValid := true, errors := .all false,
    recordError := false, engine := .idle, opTimer := none, updatePending := false, restart := none, reload := .all false,
    kept := .ofFn factory, checkNext := .t2, checkIn := 1000, failures := 0, operations := 0 }

/-- Every input line at rest: contacts open, nothing running, no flow, 0 on the analog lines (log 5). -/
def Pins.rest : Pins :=
  { feedback := .all false, runFeedback := .all false, exhaustFeedback := false, flow := false, supply := 0,
    coolantReturn := 0, ambient := 0, gas := .all 0 }

/-- The part right after a power-on reset with factory contents in the store and every input at rest. -/
def Device.reset : Device :=
  { handoffs := [], settings := .ofFn factory, pins := .rest, slc := .reset, csu := ⟨.all .reset⟩, env := .reset,
    du := .reset, swc := .reset, gwm := .reset, clc := .reset, fgu := .reset, bal := .reset, sdm := ⟨.all .reset⟩,
    pif := .reset, evr := .reset, sto := .reset }

/-- The machine right after reset: nothing waits, and the part stands as Device.reset says. -/
def State.reset : State := ⟨[], .reset⟩

/-- The state with the part changed and the queue kept. -/
def State.on (f : Device → Device) (s : State) : State := { s with dev := f s.dev }

end Sys2Proof.Machine
end

