-- ==== Sys2Proof/Machine/Operands.lean ====
section
/-! DEFINITION. Operands of a request: frames, checks, the numbers they carry, saturation; and the link records' check and saturation. -/

namespace Sys2Proof

/-! ## Checks -/

/-- One bit step of a CRC of width w, most significant bit first. -/
def crcShift {w : Nat} (poly : BitVec w) (reg : BitVec w) : BitVec w :=
  if reg.msb then (reg <<< 1) ^^^ poly else reg <<< 1

def crcShifts {w : Nat} (poly : BitVec w) : Nat → BitVec w → BitVec w
  | 0, reg => reg
  | n + 1, reg => crcShifts poly n (crcShift poly reg)

/-- The check of frames: x^8 + x^2 + x + 1, initial value 0xFF, no final inversion (R163). -/
def crc8 (bytes : List Byte) : Byte :=
  bytes.foldl (fun reg b => crcShifts 0x07#8 8 (reg ^^^ b)) 0xFF#8

/-- The check of link records: x^16 + x^15 + x^2 + 1, initial value 0xFFFF, no final inversion (R3). -/
def crc16 (bytes : List Byte) : BitVec 16 :=
  bytes.foldl (fun reg b => crcShifts 0x8005#16 8 (reg ^^^ (b ++ (0#8 : Byte) : BitVec 16))) 0xFFFF#16

/-! ## Frames (R163) -/

/-- The four bytes of a value, most significant first. -/
def wordBytes (w : Word) : List Byte :=
  [w.extractLsb' 24 8, w.extractLsb' 16 8, w.extractLsb' 8 8, w.extractLsb' 0 8]

/-- Bytes 0 to 6 of a request frame. -/
def Frame.body (f : Frame) : List Byte := [f.kind, f.table, f.index] ++ wordBytes f.value

def Frame.checkOk (f : Frame) : Bool := f.check == crc8 f.body

/-- Bytes 0 to 6 of a reply frame. -/
def replyBody (kind result : Byte) (value : Word) (summary : Byte) : List Byte :=
  [kind, result] ++ wordBytes value ++ [summary]

/-- Kind codes of requests. -/
def kindNop : Byte := 0
def kindRead : Byte := 1
def kindWrite : Byte := 2
def kindService : Byte := 3
def kindAnswer : Byte := 4
def kindAck : Byte := 5
def kindSelect : Byte := 6
def kindOperate : Byte := 7
def kindCancel : Byte := 8

/-- The frame that carries a request of a known kind. -/
def ItemFrame.frame (kind : Byte) (f : ItemFrame) : Frame := ⟨kind, f.table, f.index, f.value, f.check⟩

/-- The frame that carries a request of a known kind and item. -/
def ValueFrame.frame (kind table index : Byte) (f : ValueFrame) : Frame := ⟨kind, table, index, f.value, f.check⟩

/-- The SERVICE frame of service number `n`, which stands in the index byte (R166). -/
def ServiceFrame.frame (n : Byte) (f : ServiceFrame) : Frame := ⟨kindService, f.table, n, f.value, f.check⟩

/-! ## Numbers -/

/-- A value read as 32-bit two's complement. -/
def signed (w : Word) : Int := w.toInt

/-- A number as the 32 bits of a reply. -/
def word (x : Int) : Word := BitVec.ofInt 32 x

/-- Brought to the nearer end of lo..hi (00_scope.md, Numbers and arithmetic). -/
def saturate (lo hi x : Int) : Int := max lo (min hi x)

/-- A counter that saturates at `top`. -/
def countUp (top n : Nat) : Nat := min top (n + 1)

def boolNat (b : Bool) : Nat := if b then 1 else 0

/-! ## Link records -/

/-- R3: the two bytes of a check, sent most significant byte first. -/
def checkBytes (c : BitVec 16) : List Byte := [c.extractLsb' 8 8, c.extractLsb' 0 8]

/-- R3: a record as it is sent: its bytes, and then the check over every one of them. -/
def withCheck (body : List Byte) : List Byte := body ++ checkBytes (crc16 body)

/-- R3: the last two bytes received are the check over every byte before them, most significant byte first. Fewer bytes than the check's
two match nothing. -/
def answerChecks {α : Type} (a : LinkAnswer α) : Bool := a.bytes == withCheck (a.bytes.take (a.bytes.length - 2))

namespace Machine

/-- R2, R3: a request goes out as its bytes and then the check over them (log 7). -/
def SentRequest.of (r : LinkRequest) : SentRequest := ⟨r, withCheck (Config.requestBytes r)⟩

end Machine

/-- R4: one module's entry brought into its ranges; OPEN stays OPEN. -/
def ModuleEntry.saturated (m : ModuleEntry) : ModuleEntry :=
  ⟨saturate 0 5000 m.vmax, saturate 0 5000 m.vmin, m.temp.map (saturate (-400) 1250)⟩

/-- R4: a scan record as it is held: fields saturated, bleed positions at or above the entry count dropped. -/
def ScanRecord.saturated (r : ScanRecord) : ScanRecord :=
  { r with
    modules := r.modules.map ModuleEntry.saturated
    current := saturate (-5000) 5000 r.current
    voltage := saturate 0 15000 r.voltage
    bleed := r.bleed &&& BitVec.ofNat 16 (2 ^ r.modules.length - 1) }

/-- R5: a bus record as it is held. -/
def BusRecord.saturated (r : BusRecord) : BusRecord :=
  ⟨saturate 0 15000 r.dc, saturate 0 15000 r.phase1, saturate 0 15000 r.phase2, saturate 0 15000 r.phase3,
   saturate 40000 70000 r.freq⟩

def maxOf (d : Int) (xs : List Int) : Int :=
  match xs with
  | [] => d
  | x :: rest => rest.foldl max x

def minOf (d : Int) (xs : List Int) : Int :=
  match xs with
  | [] => d
  | x :: rest => rest.foldl min x

/-- The highest vcell_max of a record. -/
def ScanRecord.vmax (r : ScanRecord) : Int := maxOf 0 (r.modules.map (·.vmax))

/-- The lowest vcell_min of a record. -/
def ScanRecord.vmin (r : ScanRecord) : Int := minOf 0 (r.modules.map (·.vmin))

/-- The module temperatures that are not OPEN. -/
def ScanRecord.temps (r : ScanRecord) : List Int := r.modules.filterMap (·.temp)

/-- R42: the values of an evaluated record that ENV copies. -/
def ScanRecord.envCopy (r : ScanRecord) : EnvCopy := ⟨r.modules.map (·.temp), r.vmax, r.vmin, r.voltage⟩

end Sys2Proof
end

