-- ==== Sys2Proof/Machine/Flags.lean ====
section
/-! DEFINITION. How states and sets are coded in items, details and replies: the numbers the manual's tables give them. -/

namespace Sys2Proof

def MonitorState.code : MonitorState → Nat
  | .absent => 0 | .interrogating => 1 | .present => 2 | .unrecognized => 3

def Health.code : Health → Nat
  | .available => 0 | .tripped => 1 | .absent => 2 | .interrogating => 3 | .unrecognized => 4 | .lockedOut => 5

/-- One lockout cause (R24). -/
inductive Cause where
  | ovHard | uvHard | otHard | weld | recordLost
  deriving DecidableEq, Repr

/-- R37: OV_HARD 1, UV_HARD 2, OT_HARD 4, WELD 8, RECORD_LOST 16. -/
def Cause.code : Cause → Nat
  | .ovHard => 1 | .uvHard => 2 | .otHard => 4 | .weld => 8 | .recordLost => 16

def causesHas (x : Causes) : Cause → Bool
  | .ovHard => x.ovHard | .uvHard => x.uvHard | .otHard => x.otHard | .weld => x.weld | .recordLost => x.recordLost

def causesAdd (x : Causes) : Cause → Causes
  | .ovHard => { x with ovHard := true } | .uvHard => { x with uvHard := true } | .otHard => { x with otHard := true }
  | .weld => { x with weld := true } | .recordLost => { x with recordLost := true }

def causesAny (x : Causes) : Bool := x.ovHard || x.uvHard || x.otHard || x.weld || x.recordLost

/-- R37: the sum over the members. -/
def causesCode (x : Causes) : Nat :=
  boolNat x.ovHard + 2 * boolNat x.uvHard + 4 * boolNat x.otHard + 8 * boolNat x.weld + 16 * boolNat x.recordLost

/-- Channel k as 2 to the power k (R37). -/
def channelCode (x : PerChannel Bool) : Nat :=
  (Channel.all.map fun k => boolNat (x.get k) * 2 ^ k.num).sum

/-- Term k as 2 to the power k (R61). -/
def termCode (ts : List Term) : Nat := (ts.map fun t => 2 ^ t.num).sum

def SwitchState.code : SwitchState → Nat
  | .opened => 0 | .precharging => 1 | .closing => 2 | .closed => 3 | .opening => 4 | .welded => 5

def WindowState.code : WindowState → Nat
  | .holdOff => 0 | .permitted => 1 | .inWindow => 2 | .rideThrough => 3 | .tripped => 4

def FireStage.code : FireStage → Nat
  | .normal => 0 | .fault => 1 | .prealarm => 2 | .alarm => 3 | .released => 4

def LoopState.code : LoopState → Nat
  | .normal => 0 | .active => 1 | .opened => 2 | .short => 3

/-- R157, R160. -/
def Standing.code : Standing → Nat
  | .unchecked => 0 | .inStanding => 1 | .lapsed => 2 | .forfeit => 3 | .barred => 4

/-- R169: the class number. -/
def EventClass.num : EventClass → Nat
  | .monitorAppeared => 0 | .monitorLost => 1 | .stringUnrecognized => 2 | .channelTripped => 3 | .channelCleared => 4
  | .stringLockout => 5 | .bindingSourceChanged => 6 | .dispatchClamped => 7 | .converterOverrun => 8 | .switchDone => 9
  | .switchFailed => 10 | .gridTrip => 11 | .gridReconnectPermitted => 12 | .coolingFault => 13
  | .coolingStageChange => 14 | .firePrealarm => 15 | .fireAlarm => 16 | .fireReleased => 17 | .zoneFault => 18
  | .testDetection => 19 | .balanceEnded => 20 | .standingChanged => 21 | .storeDone => 22 | .storeFailed => 23

/-- R169, R172: kind × 256 + index; kinds 1 string, 2 zone, 3 switch, 4 port, 5 cooling stage, 6 table. -/
def Subject.code : Subject → Nat
  | .string s => 256 + s.num
  | .zone z => 2 * 256 + z.num
  | .switch n => 3 * 256 + n.num
  | .port p => 4 * 256 + p.num
  | .stage c => 5 * 256 + c.num
  | .table t => 6 * 256 + t

/-- Tables with their flag set, table t as 2 to the power t (R176). -/
def tableCode (x : PerTable Bool) : Nat :=
  (StoredTable.all.map fun t => boolNat (x.get t) * 2 ^ t.num).sum

/-- The order of the station stages: NORMAL, FAULT, PREALARM, ALARM, RELEASED (R138). -/
def FireStage.higher (a b : FireStage) : FireStage := if a.code < b.code then b else a

/-- PREALARM or higher. -/
def FireStage.grave : FireStage → Bool
  | .normal | .fault => false
  | .prealarm | .alarm | .released => true

/-- ALARM or RELEASED, which force the switches open (R93). -/
def FireStage.forces : FireStage → Bool
  | .alarm | .released => true
  | _ => false

/-- IN_STANDING or LAPSED: the standings that R47, R64 and R165 trust. -/
def Standing.trusted : Standing → Bool
  | .inStanding | .lapsed => true
  | _ => false

/-- R80: the open and close feedback time of a switch. -/
def SwitchId.feedbackTime : SwitchId → Nat
  | .g => 150
  | _ => 200

/-- PRECHARGING, CLOSING or OPENING. -/
def SwitchState.moving : SwitchState → Bool
  | .precharging | .closing | .opening => true
  | _ => false

namespace Machine

def Reason.code : Reason → Nat
  | .none => 0 | .noIdentity => 1 | .mismatch => 2

/-- R106: HEALTH 1, FIRE 2, FAILED 4, ISOLATION 8, MISMATCH 16, BUS_STALE 32, GRID_HOLD_OFF 64, NO_STRING 128,
CONVERTER_STANDING 256. -/
def Inhibits.code (x : Inhibits) : Nat :=
  boolNat x.health + 2 * boolNat x.fire + 4 * boolNat x.failed + 8 * boolNat x.isolation + 16 * boolNat x.mismatch +
    32 * boolNat x.busStale + 64 * boolNat x.gridHoldOff + 128 * boolNat x.noString + 256 * boolNat x.converterStanding

def Inhibits.any (x : Inhibits) : Bool :=
  x.health || x.fire || x.failed || x.isolation || x.mismatch || x.busStale || x.gridHoldOff || x.noString ||
    x.converterStanding

def LastResult.code : LastResult → Nat
  | .none => 0 | .done => 1 | .failed => 2 | .aborted => 3 | .refused => 4 | .selectExpired => 5

def Action.code : Action → Nat
  | .close => 1 | .opening => 2

def IsolationStatus.code : IsolationStatus → Nat
  | .released => 0 | .isolating => 1 | .isolated => 2

def VoltBand.code : VoltBand → Nat
  | .normal => 0 | .lowRide => 1 | .highRide => 2 | .lowTrip => 3 | .highTrip => 4

def FreqBand.code : FreqBand → Nat
  | .normal => 0 | .ride => 1 | .trip => 2

def CoolMode.code : CoolMode → Nat
  | .idle => 0 | .heat => 1 | .cool => 2 | .chill => 3 | .blind => 4

def StageState.code : StageState → Nat
  | .off => 0 | .running => 1 | .failed => 2

def FlowState.code : FlowState → Nat
  | .none => 0 | .starting => 1 | .confirmed => 2 | .fault => 3

def FlowPhase.code : FlowPhase → Nat
  | .none => 0 | .waiting => 1 | .trying => 2 | .proving => 3 | .held => 4

/-- R142; 3 is ALARM, in which no zone rests. -/
def ZoneStage.code : ZoneStage → Nat
  | .normal => 0 | .fault => 1 | .prealarm => 2 | .countdown => 4 | .held => 5 | .released => 6

def RunState.code : RunState → Nat
  | .idle => 0 | .running => 1 | .suspendPending => 2 | .suspended => 3 | .ended => 4

def MissKind.code : MissKind → Nat
  | .none => 0 | .wrong => 1 | .stale => 2 | .unasked => 3 | .late => 4

def Result.code : Result → Nat
  | .ok => 0 | .checkFail => 1 | .unknownKind => 2 | .unknownItem => 3 | .denied => 4 | .locked => 5
  | .noStanding => 6 | .range => 7 | .busy => 8 | .state => 9 | .refused => 10 | .notHeld => 11

end Machine

end Sys2Proof
end

