-- ==== Sys2Proof/Machine/Ops.lean ====
section
/-! DEFINITION. Operations over the part that every block shares: reading a setting, making and taking hand-offs, raising events,
timers, rights. -/

namespace Sys2Proof.Machine

/-- Item i of a settings table, as it stands. -/
def Device.item (d : Device) (t : StoredTable) (i : Nat) : Int := (d.settings.get t).getD i 0

/-- R174: what a stored copy of a table holds; the site order is left out. -/
def storedPart (t : StoredTable) (items : List Int) : List Int :=
  match t with
  | .t5 => items.set 0 0
  | _ => items

/-- R179: the kept check of a table is set afresh over these working contents (log 21). -/
def Sto.keep (t : StoredTable) (items : List Int) (x : Sto) : Sto := { x with kept := x.kept.set t (storedPart t items) }

/-- R179: the kept check of a table is set afresh over its working contents. -/
def Device.keepCheck (t : StoredTable) (d : Device) : Device := { d with sto := d.sto.keep t (d.settings.get t) }

/-- The item is one that its table's stored copy holds (R174). -/
def inCopy (t : StoredTable) (i : Nat) : Bool := t != .t5 || i != 0

/-- A WRITE that is answered OK: the item takes the value, and the kept check of a stored item's table is set afresh (R179). -/
def Device.setItem (t : StoredTable) (i : Nat) (v : Int) (d : Device) : Device :=
  let items := (d.settings.get t).set i v
  { d with settings := d.settings.set t items, sto := if inCopy t i then d.sto.keep t items else d.sto }

/-- A setting that is a duration or a count. -/
def Device.itemNat (d : Device) (t : StoredTable) (i : Nat) : Nat := (d.item t i).toNat

/-- Make a hand-off: it waits, as the newest, until it is taken at its receiver (log 1). -/
def Device.post (i : Instr) (d : Device) : Device := { d with handoffs := d.handoffs ++ [i] }

/-- Make a hand-off where a condition holds. -/
def Device.postIf (b : Bool) (i : Instr) (d : Device) : Device := if b then d.post i else d

/-- A hand-off is taken: its oldest copy in flight, if any, is no longer in flight (log 1). -/
def Device.took (i : Instr) (d : Device) : Device := { d with handoffs := d.handoffs.erase i }

/-- Raise one occurrence of an event class: a hand-off to EVR (R169). -/
def Device.raise (c : EventClass) (sub : Subject) (detail : Option Nat) (d : Device) : Device :=
  d.post (.eventOccurrence ⟨c, sub, detail, false⟩)

/-- Apply f for each member of a list, in order. -/
def Device.each {α : Type} (xs : List α) (f : α → Device → Device) (d : Device) : Device :=
  xs.foldl (fun d x => f x d) d

/-- Apply f where a condition holds. -/
def Device.when (b : Bool) (f : Device → Device) (d : Device) : Device := if b then f d else d

/-- One millisecond less on a timer that runs. -/
def tickDown (t : Option Nat) : Option Nat := t.map (· - 1)

/-- One millisecond more on a timer that counts up. -/
def tickUp (t : Option Nat) : Option Nat := t.map (· + 1)

/-- A timer whose time has run out. -/
def expired (t : Option Nat) : Bool := t == some 0

/-! Rights and standings -/

/-- The right of a port on a table: 0 none, 1 R, 2 RW (R167). -/
def Device.right (d : Device) (p : Port) (table : Nat) : Int := d.item .t13 (3 * table + p.num)

def Device.canWrite (d : Device) (p : Port) (table : Nat) : Bool := d.right p table == 2

def Device.canRead (d : Device) (p : Port) (table : Nat) : Bool := d.right p table == 1 || d.right p table == 2

/-- R167: switching right 1 strings, 2 breaker, 3 both. -/
def Device.mayRight (d : Device) (p : Port) (n : SwitchId) : Bool :=
  let r := d.item .t13 (45 + p.num)
  match n with
  | .g => r == 2 || r == 3
  | _ => r == 1 || r == 3

/-- The standing SDM holds for a port. -/
def Device.standing (d : Device) (p : Port) : Standing := (d.sdm.ports.get p).standing

/-! Answers (R163) -/

def Answer.ok (v : Int) : Answer := ⟨.ok, some (word v)⟩

/-- A refusal that returns 0. -/
def Answer.no (r : Result) : Answer := ⟨r, some 0⟩

/-- STATE with the code its owner gives. -/
def Answer.state (v : Int) : Answer := ⟨.state, some (word v)⟩

/-- OK with no value stated by the owner's chapter (log 28). -/
def Answer.done : Answer := ⟨.ok, none⟩

/-- STATE with no code stated by the owner's chapter (log 28). -/
def Answer.stateOpen : Answer := ⟨.state, none⟩

/-- A command's meaning as a change of the part: the queue is untouched and there is always a next state. -/
def State.next (f : Device → Device) (s : State) : Host.Outcome State Fault Refusal := .next (s.on f)

/-- The answer of a step. -/
abbrev Out := Host.Outcome State Fault Refusal

end Sys2Proof.Machine
end

