-- ==== Sys2Proof/Machine/Evr.lean ====
section
/-! DEFINITION. EVR, the event recorder: occurrences, the incident queue, pending flags, table 12 (R169 to R172). -/

namespace Sys2Proof.Machine

/-- R171: the classes whose incidents are protected, SWITCH_FAILED with detail 3 among them; FORCE_EVENT's never are. -/
def protects (o : Occurrence) : Bool :=
  !o.forced &&
    match o.cls with
    | .stringLockout | .fireAlarm | .fireReleased | .gridTrip => true
    | .switchFailed => o.detail == some 3
    | _ => false

/-- R171: the sequence number after `last`; 0 is not issued. -/
def nextSeq (last : Nat) : Nat := if last < 4294967295 then last + 1 else 1

/-- The queue and the dropped count after an incident comes in (R171, the removal of a reissued number left out). -/
def appendIncident (i : Incident) (queue : List Incident) (dropped : Nat) : List Incident × Nat :=
  if queue.length < 32 then (queue ++ [i], dropped)
  else if queue.any (fun j => !j.guarded) then (queue.eraseP (fun j => !j.guarded) ++ [i], dropped)
  else if i.guarded then (queue.drop 1 ++ [i], dropped)
  else (queue, countUp 65535 dropped)

/-- The set of one class, class c as bit c (R170). -/
def classBit (c : EventClass) : BitVec 24 := 1#24 <<< c.num

/-- R169: an occurrence counts, sets the flags of all ports and brings an incident. -/
def Evr.take (o : Occurrence) (e : Evr) : Evr :=
  let seq := nextSeq e.lastSeq
  let incident : Incident := ⟨seq, o.cls, o.subject, o.detail, e.time, protects o⟩
  let kept := appendIncident incident (e.queue.filter (fun j => j.seq != seq)) e.dropped
  { e with
    counts := e.counts.set o.cls.num (countUp 255 (e.counts.getD o.cls.num 0))
    flags := e.flags.map (· ||| classBit o.cls)
    queue := kept.1
    lastSeq := seq
    dropped := kept.2 }

/-- EVENT_OCCURRENCE (R169). -/
def execEventOccurrence (o : Occurrence) (s : State) : Out :=
  s.next fun d => let d := d.took (.eventOccurrence o); { d with evr := d.evr.take o }

/-- R170: a pending flag is set for a class the mask leaves unmasked. -/
def Device.attention (d : Device) (p : Port) : Bool := d.evr.flags.get p &&& ~~~d.evr.masks.get p != 0

/-- The held incident whose sequence number the port's cursor names. -/
def Evr.atCursor (e : Evr) (p : Port) : Option Incident :=
  e.queue.find? (fun i => i.seq == (e.cursors.get p).toNat)

/-- R172: the reading of table 12. -/
def Evr.read (e : Evr) (p : Port) (i : Nat) : Answer :=
  let cursor (f : Incident → Nat) : Answer :=
    match e.atCursor p with
    | some j => .ok (f j)
    | none => .no .notHeld
  match i with
  | 0 => .ok (e.flags.get p).toNat
  | 1 => .ok (e.masks.get p).toNat
  | 2 => ⟨.ok, some (e.cursors.get p)⟩
  | 3 => .ok e.queue.length
  | 4 => .ok ((e.queue.head?.map (·.seq)).getD 0)
  | 5 => .ok ((e.queue.getLast?.map (·.seq)).getD 0)
  | 6 => .ok e.lastSeq
  | 7 => .ok e.dropped
  | 8 => cursor (·.cls.num)
  | 9 => cursor (·.subject.code)
  | 10 => cursor (fun j => j.detail.getD 65535)
  | 11 => cursor (·.time)
  | 12 => cursor (fun j => boolNat j.guarded)
  | i => if 16 ≤ i then .ok (e.counts.getD (i - 16) 0) else .ok 0

/-- R170: ACK_EVENTS. -/
def evrAck (p : Port) (v : Word) (d : Device) : Device × Answer :=
  if 0xFFFFFF < v.toNat then (d, .no .range)
  else
    let left := d.evr.flags.get p &&& ~~~v.setWidth 24
    ({ d with evr := { d.evr with flags := d.evr.flags.set p left } }, .ok left.toNat)

/-- R172: the write of the port's own cursor. -/
def evrWriteCursor (p : Port) (v : Word) (d : Device) : Device × Answer :=
  ({ d with evr := { d.evr with cursors := d.evr.cursors.set p v } }, ⟨.ok, some v⟩)

/-- R172: the write of the port's own mask. -/
def evrWriteMask (p : Port) (v : Word) (d : Device) : Device × Answer :=
  if 0xFFFFFF < v.toNat then (d, .no .range)
  else ({ d with evr := { d.evr with masks := d.evr.masks.set p (v.setWidth 24) } }, ⟨.ok, some v⟩)

end Sys2Proof.Machine
end

