-- ==== Sys2Proof/Machine/Slc.lean ====
section
/-! DEFINITION. SLC, the string link controller (R1 to R17). -/

namespace Sys2Proof.Machine

/-! ## Access -/

def Device.monitor (d : Device) (s : StringId) : Monitor := d.slc.monitors.get s

def Device.modMonitor (s : StringId) (f : Monitor → Monitor) (d : Device) : Device :=
  { d with slc := { d.slc with monitors := d.slc.monitors.set s (f (d.monitor s)) } }

/-- R8: a string joins the identity list at its end, at most once. -/
def Device.joinList (s : StringId) (d : Device) : Device :=
  if d.slc.identityList.contains s then d
  else { d with slc := { d.slc with identityList := d.slc.identityList ++ [s] } }

def Device.leaveList (s : StringId) (d : Device) : Device :=
  { d with slc := { d.slc with identityList := d.slc.identityList.filter (· != s) } }

/-! ## Discards (R3) -/

def Device.discardString (s : StringId) (d : Device) : Device :=
  d.modMonitor s fun m => { m with discarded := countUp 65535 m.discarded }

def Device.discardBus (d : Device) : Device :=
  { d with slc := { d.slc with busDiscarded := countUp 65535 d.slc.busDiscarded } }

/-- An answer discarded counts on the partner that gave it. -/
def Device.discard (x : Exchange) (d : Device) : Device :=
  match x with
  | .busPoll => d.discardBus
  | .scanPoll s => d.discardString s
  | .identityRequest s => d.discardString s

/-! ## Scan records (R4, R6, R7, R10, R11) -/

/-- R3: the entry count lies in 8..16 and, for a PRESENT monitor, is the learned module count. -/
def Monitor.takes (m : Monitor) (r : ScanRecord) : Bool :=
  let n := r.modules.length
  decide (8 ≤ n ∧ n ≤ 16) && (m.state != .present || m.learned == some n)

/-- R6: not the number after the last one; without a last one there is no gap. -/
def Monitor.gap (m : Monitor) (r : ScanRecord) : Bool :=
  match m.held with
  | none => false
  | some h => r.sequence != h.sequence + 1

/-- Hold a record and restart the record age (R4, R13). -/
def Monitor.hold (m : Monitor) (r : ScanRecord) : Monitor := { m with held := some r, age := some 0 }

/-- R7, R12: the monitor becomes INTERROGATING with a fresh attempt count and joins the identity list; CSU hears of it. -/
def Device.interrogate (s : StringId) (d : Device) : Device :=
  (((d.modMonitor s fun m =>
    { m with state := .interrogating, reason := .none, attempts := 0, reinterrogate := false }).joinList s).post
    (.monitorStateReport s))

/-- R10: the deliveries of a record of a monitor that is not PRESENT. -/
def Device.deliverHard (s : StringId) (r : ScanRecord) (d : Device) : Device :=
  (d.post (.csuEvaluation s (.hardOnly r))).post (.swcScanRecord s r.current r.voltage)

/-- R11: the deliveries of a record of a PRESENT monitor. -/
def Device.deliverFull (s : StringId) (r : ScanRecord) (gap : Bool) (d : Device) : Device :=
  ((d.post (.csuEvaluation s (.full r gap))).post (.swcScanRecord s r.current r.voltage)).post
    (.balanceRecord s (r.modules.map (·.vmax)) r.bleed)

/-- An accepted scan record, already saturated, by the monitor state. -/
def Device.acceptScan (s : StringId) (r : ScanRecord) (d : Device) : Device :=
  let m := d.monitor s
  let held := d.modMonitor s (·.hold r)
  match m.state with
  | .absent => (held.interrogate s).deliverHard s r
  | .interrogating => held.deliverHard s r
  | .unrecognized => (held.when m.reinterrogate (·.interrogate s)).deliverHard s r
  | .present =>
    (held.modMonitor s fun m => { m with stale := false, staleIn := some 400 }).deliverFull s r (m.gap r)

/-- R1: an exchange brings at most one answer, and one that is not in progress (its slot is over, or a restart has abandoned it) none: an
answer is taken by `f` where its exchange is in progress, which it ends (log 8). -/
def Device.answered (x : Exchange) (f : Device → Device) (d : Device) : Device :=
  d.when (d.slc.awaiting.contains x) fun d => f { d with slc := { d.slc with awaiting := d.slc.awaiting.erase x } }

/-- SCAN_RECORD: the answer is checked against the exchange it belongs to (R3) and then accepted. -/
def execScanRecord (x : Exchange) (a : LinkAnswer ScanRecord) (s : State) : Out :=
  s.next <| Device.answered x fun d =>
    match x with
    | .scanPoll n =>
      if answerChecks a && (d.monitor n).takes a.fields then d.acceptScan n a.fields.saturated else d.discardString n
    | x => d.discard x

/-! ## Bus records (R5, R15) -/

def Device.acceptBus (r : BusRecord) (d : Device) : Device :=
  let d := { d with slc := { d.slc with bus := r, busStale := false, busTimer := some 100 } }
  (d.post (.gridRecord r)).post (.swcBusRecord r.dc)

/-- BUS_RECORD (R5). -/
def execBusRecord (x : Exchange) (a : LinkAnswer BusRecord) (s : State) : Out :=
  s.next <| Device.answered x fun d =>
    match x with
    | .busPoll => if answerChecks a then d.acceptBus a.fields.saturated else d.discardBus
    | x => d.discard x

/-- BUS_STALE_ONSET (R15). -/
def execBusStaleOnset (s : State) : Out :=
  s.next fun d => d.when d.slc.busTimer.isSome fun d =>
    let d := { d with slc := { d.slc with busStale := true, busTimer := none } }
    (d.post .gwmBusStale).post .swcBusStale

/-! ## Identity (R8, R9, R12) -/

/-- R9: the expectation of table 2 as it stands. -/
def Device.expects (d : Device) (s : StringId) (i : Identity) : Bool :=
  (i.modules : Int) == d.item .t2 (32 + 2 * s.num) && (i.chemistry : Int) == d.item .t2 (33 + 2 * s.num)

/-- The monitor becomes UNRECOGNIZED for a reason, leaves the identity list, and STRING_UNRECOGNIZED is raised. -/
def Device.unrecognize (s : StringId) (why : Reason) (d : Device) : Device :=
  (((d.modMonitor s fun m =>
    { m with state := .unrecognized, reason := why, identityTimer := none, stale := false, staleIn := none }).leaveList
    s).raise .stringUnrecognized (.string s) (some why.code)).post (.monitorStateReport s)

/-- R9, R13: the monitor becomes PRESENT; a record age at or above 400 ms makes it stale at this entry. -/
def Device.enterPresent (s : StringId) (modules : Nat) (d : Device) : Device :=
  let age := (d.monitor s).age.getD 0
  let old := decide (400 ≤ age)
  (((((d.modMonitor s fun m =>
    { m with
      state := .present
      identityTimer := none
      learned := some modules
      stale := old
      staleIn := some (if old then 100 else 400 - age) }).leaveList s).raise .monitorAppeared (.string s)
    none).post (.monitorStateReport s)).postIf old (.csuEvaluation s .staleExpiry))

/-- An identity record accepted (R9); outside INTERROGATING it is not taken. R9 gives the rated current the range 0 to 65535 and says
neither "as received", as it does of the other two fields, nor that it saturates, as R4 and R5 do of theirs; all three are held as received
(DESIGN CHOICE, log 41). -/
def Device.acceptIdentity (s : StringId) (i : Identity) (d : Device) : Device :=
  d.when ((d.monitor s).state == .interrogating) fun d =>
    let d := d.modMonitor s fun m => { m with identity := some i, identityTimer := none }
    if d.expects s i then d.enterPresent s i.modules else d.unrecognize s .mismatch

/-- IDENTITY_RECORD (R9). -/
def execIdentityRecord (x : Exchange) (a : LinkAnswer Identity) (s : State) : Out :=
  s.next <| Device.answered x fun d =>
    match x with
    | .identityRequest n => if answerChecks a then d.acceptIdentity n a.fields else d.discardString n
    | x => d.discard x

/-- IDENTITY_TIMER_EXPIRY (R8): the first sends the request once more, the second ends in UNRECOGNIZED. -/
def execIdentityTimerExpiry (n : StringId) (s : State) : Out :=
  s.next fun d => d.when (d.monitor n).identityTimer.isSome fun d =>
    let d := d.modMonitor n fun m => { m with identityTimer := none }
    if (d.monitor n).attempts ≤ 1 then d.joinList n else d.unrecognize n .noIdentity

/-- R12: a taken write to a string's expectation. -/
def Device.expectationRewritten (s : StringId) (d : Device) : Device :=
  let m := d.monitor s
  match m.state with
  | .absent | .interrogating => d
  | .present => if m.identity.any (d.expects s) then d else d.unrecognize s .mismatch
  | .unrecognized => d.modMonitor s fun m => { m with reinterrogate := true }

/-! ## Staleness and loss (R13, R14) -/

/-- STALE_EXPIRY (R13): taken while the monitor is PRESENT and the age it falls at is below 2000 ms. -/
def execStaleExpiry (n : StringId) (s : State) : Out :=
  s.next fun d =>
    let m := d.monitor n
    match m.state, m.age, m.staleIn with
    | .present, some age, some left =>
      d.when (decide (age + left < 2000)) fun d =>
        (d.modMonitor n fun m => { m with stale := true, age := some (age + left), staleIn := some 100 }).post
          (.csuEvaluation n .staleExpiry)
    | _, _, _ => d

/-- MONITOR_LOSS (R14). -/
def execMonitorLoss (n : StringId) (s : State) : Out :=
  s.next fun d =>
    let left := (d.monitor n).state
    d.when (left != .absent) fun d =>
      let d := (d.modMonitor n fun m => { Monitor.reset with discarded := m.discarded }).leaveList n
      (((d.raise .monitorLost (.string n) (some left.code)).post (.monitorStateReport n)).post
        (.swcMonitorLoss n)).post (.balMonitorLoss n)

/-! ## The link cycle (R1, R2, R8) -/

/-- R2: the bleed set a scan poll carries, empty for a string without the run. -/
def Device.bleedOf (d : Device) (s : StringId) : BitVec 16 :=
  if d.bal.run.string = s then d.bal.commanded else 0

/-- R8: the oldest string of the identity list is removed and its request goes out. -/
def Device.identitySlot (d : Device) : Device × List LinkRequest :=
  match d.slc.identityList with
  | [] => (d, [])
  | s :: rest =>
    let d := { d with slc := { d.slc with identityList := rest } }
    (d.modMonitor s fun m => { m with attempts := m.attempts + 1, identityTimer := some 200 }, [.identityRequest s])

/-- The exchange that a request opens. -/
def exchangeOf : LinkRequest → Exchange
  | .busPoll => .busPoll
  | .scanPoll s _ => .scanPoll s
  | .identityRequest s => .identityRequest s

/-- LINK_SLOT (R1, R2): the exchanges of the slot before are over; the bus poll goes out, then the slot's own request; the next slot begins
20 ms later. -/
def execLinkSlot (s : State) : Out :=
  s.next fun d =>
    let slot := d.slc.slot
    let (d, own) :=
      match StringId.ofNum slot with
      | some n => (d, [LinkRequest.scanPoll n (d.bleedOf n)])
      | none => d.identitySlot
    let requests := LinkRequest.busPoll :: own
    { d with slc := { d.slc with
      slot := (slot + 1) % 5
      slotIn := 20
      sent := requests.map SentRequest.of
      awaiting := requests.map exchangeOf } }

/-! ## The offer to CLC (R16) and table 1 (R17) -/

/-- The temperatures of the strings whose monitor is PRESENT and not stale. -/
def Slc.temps (c : Slc) : List Int :=
  StringId.all.flatMap fun s =>
    let m := c.monitors.get s
    if m.state == .present && !m.stale then ((m.held.map (·.temps)).getD []) else []

/-- R16: Tmax and Tmin; none is "no valid data". -/
def Slc.tmax (c : Slc) : Option Int := c.temps.max?

def Slc.tmin (c : Slc) : Option Int := c.temps.min?

/-- R17: one item of a string. Where no record is held every item taken from the held record reads 0; the discarded-record count, which
the loss of R14 keeps, is shown all the same (DEDUCED, log 42). -/
def Monitor.read (m : Monitor) (o : Nat) : Int :=
  let held (f : ScanRecord → Int) : Int := (m.held.map f).getD 0
  match o with
  | 0 => m.state.code
  | 1 => m.reason.code
  | 2 => ((m.identity.map (·.modules)).getD 0 : Nat)
  | 3 => ((m.identity.map (·.chemistry)).getD 0 : Nat)
  | 4 => ((m.identity.map (·.rated)).getD 0 : Nat)
  | 5 => held fun r => r.sequence.toNat
  | 6 => held (·.current)
  | 7 => held (·.voltage)
  | 8 => held fun r => r.bleed.toNat
  | 9 => held fun r => boolNat r.selfTestFail
  | 10 => boolNat m.stale
  | 11 => m.discarded
  | 12 => held fun r => r.modules.length
  | o =>
    if o < 16 then 0
    else if o < 32 then held fun r => ((r.modules[o - 16]?).map fun e => e.vmax * 65536 + e.vmin).getD 0
    else held fun r => ((r.modules[o - 32]?).map fun e => e.temp.getD 32767).getD 0

/-- R17: table 1. -/
def Slc.read (c : Slc) (i : Nat) : Int :=
  match StringId.ofNum (i / 48) with
  | some s => (c.monitors.get s).read (i % 48)
  | none =>
    match i with
    | 192 => c.bus.dc
    | 193 => c.bus.phase1
    | 194 => c.bus.phase2
    | 195 => c.bus.phase3
    | 196 => c.bus.freq
    | 197 => boolNat c.busStale
    | 198 => c.busDiscarded
    | 199 => c.tmax.getD 32767
    | _ => c.tmin.getD 32767

end Sys2Proof.Machine
end

