-- ==== Sys2Proof/Machine/Bal.lean ====
section
/-! DEFINITION. BAL, the balancing controller (R144 to R152). -/

namespace Sys2Proof.Machine

def Device.modBal (f : Bal → Bal) (d : Device) : Device := { d with bal := f d.bal }

def Device.modRun (f : Run → Run) (d : Device) : Device := d.modBal fun b => { b with run := f b.run }

/-- R144: RUNNING, SUSPEND_PENDING or SUSPENDED. -/
def RunState.live : RunState → Bool
  | .running | .suspendPending | .suspended => true
  | .idle | .ended => false

def Device.runLive (d : Device) : Bool := d.bal.run.state.live

/-- A live run on string s. -/
def Device.runOn (d : Device) (s : StringId) : Bool := d.runLive && d.bal.run.string == s

/-! ## The end of a run (R150) -/

/-- R150: a live run becomes ENDED with its code. -/
def Device.endRun (code : Nat) (d : Device) : Device :=
  let s := d.bal.run.string
  ((d.modRun fun r => { r with state := .ended, endCode := code, thermalCause := false, portCause := false }).modBal
    fun b => { b with commanded := 0, history := [], mismatch := 0 }).raise .balanceEnded (.string s) (some code)

/-! ## Suspension (R148) -/

def Run.held (r : Run) : Bool := r.thermalCause || r.portCause

/-- R148: the state answers the suspend causes. -/
def Run.answerCauses (r : Run) : Run :=
  match r.state with
  | .running => if r.held then { r with state := .suspendPending } else r
  | .suspendPending => if r.held then r else { r with state := .running }
  | .idle | .suspended | .ended => r

/-- R148: the causes of a live run change. -/
def Device.setCauses (f : Run → Run) (d : Device) : Device := d.modRun fun r => (f r).answerCauses

/-! ## Records (R146, R147) -/

/-- R146: the modules whose vcell_max is above target + 10, from position p on. -/
def bleedFrom (target : Int) (p : Nat) : List Int → BitVec 16
  | [] => 0
  | v :: rest => (if target + 10 < v then 1#16 <<< p else 0) ||| bleedFrom target (p + 1) rest

/-- R147: the mismatch count after a record; the test is made once the history holds two entries. -/
def Bal.mismatchAfter (b : Bal) (reported : BitVec 16) : Nat :=
  match b.history with
  | older :: _ :: _ => if reported = older then 0 else b.mismatch + 1
  | _ => b.mismatch

/-- R146: RUNNING forms the bleed set; an empty one ends the run DONE. -/
def Device.formBleed (vmax : List Int) (d : Device) : Device :=
  let set := bleedFrom d.bal.run.target 0 vmax
  let d := d.modRun fun r => { r with state := .running }
  if set = 0 then d.endRun 1 else d.modBal fun b => { b with commanded := set }

/-- R146: the state step. -/
def Device.bleedStep (vmax : List Int) (d : Device) : Device :=
  match d.bal.run.state with
  | .running => d.formBleed vmax
  | .suspendPending =>
    (d.modBal fun b => { b with commanded := 0 }).modRun fun r => { r with state := .suspended }
  | .suspended => d.when (!d.bal.run.held) (·.formBleed vmax)
  | .idle | .ended => d

/-- R146: the commanded set joins the history, of which the last two are kept. -/
def Bal.remember (b : Bal) : Bal :=
  let h := b.history ++ [b.commanded]
  { b with history := h.drop (h.length - 2) }

/-- BALANCE_RECORD (R146). -/
def execBalanceRecord (n : StringId) (vmax : List Int) (bleed : BitVec 16) (s : State) : Out :=
  s.next fun d =>
    let d := d.took (.balanceRecord n vmax bleed)
    d.when (d.runOn n) fun d =>
      let miss := d.bal.mismatchAfter bleed
      let d := (d.modRun fun r => { r with records := countUp 65535 r.records }).modBal fun b => { b with mismatch := miss }
      if 2 ≤ miss then d.endRun 10
      else
        let d := d.bleedStep vmax
        d.when d.runLive (·.modBal Bal.remember)

/-! ## Hand-offs and the duration (R148 to R150) -/

/-- THERMAL_HOLD_HANDOFF (R148). -/
def execThermalHoldHandoff (on : Bool) (s : State) : Out :=
  s.next fun d =>
    let d := (d.took (.thermalHoldHandoff on)).modBal fun b => { b with thermalHold := on }
    d.when d.runLive (·.setCauses fun r => { r with thermalCause := on })

/-- BAL_FIRE_STAGE_HANDOFF (R150). -/
def execBalFireStageHandoff (st : FireStage) (s : State) : Out :=
  s.next fun d =>
    let d := (d.took (.balFireStageHandoff st)).modBal fun b => { b with fireStage := st }
    d.when (st.grave && d.runLive) (·.endRun 3)

/-- R150: the end code of a health; AVAILABLE and INTERROGATING end no run. -/
def healthEnd : Health → Option Nat
  | .tripped => some 4
  | .lockedOut => some 5
  | .absent => some 6
  | .unrecognized => some 7
  | .available | .interrogating => none

/-- BAL_HEALTH_HANDOFF (R150). -/
def execBalHealthHandoff (n : StringId) (h : Health) (s : State) : Out :=
  s.next fun d =>
    let d := (d.took (.balHealthHandoff n h)).modBal fun b => { b with health := b.health.set n h }
    match healthEnd h with
    | some code => d.when (d.runOn n) (·.endRun code)
    | none => d

/-- BAL_MONITOR_LOSS (R150). -/
def execBalMonitorLoss (n : StringId) (s : State) : Out :=
  s.next fun d =>
    let d := d.took (.balMonitorLoss n)
    d.when (d.runOn n) (·.endRun 6)

/-- BAL_STANDING_HANDOFF (R150). -/
def execBalStandingHandoff (p : Port) (st : Standing) (s : State) : Out :=
  s.next fun d =>
    let d := (d.took (.balStandingHandoff p st)).modBal fun b => { b with standings := b.standings.set p st }
    let lost := st == .forfeit || st == .barred
    d.when (lost && d.runLive && d.bal.run.owner == some p) (·.endRun 9)

/-- DURATION_EXPIRY (R149): it can fall only while the run is RUNNING. -/
def execDurationExpiry (s : State) : Out :=
  s.next fun d => d.when (d.bal.run.state == .running) fun d =>
    (d.modRun fun r => { r with runningTime := 60000 * r.maxDuration }).endRun 2

/-! ## Services (R145, R151) -/

/-- R145: the three numbers of a BALANCE_START value. -/
structure StartValue where
  string : Nat
  duration : Nat
  target : Nat

def StartValue.ofWord (v : Word) : StartValue :=
  ⟨v.toNat / 268435456, v.toNat / 65536 % 4096, v.toNat % 65536⟩

/-- R145: the run starts; a thermal hold that stands suspends it at once. -/
def Device.startRun (p : Port) (s : StringId) (duration target : Nat) (d : Device) : Device :=
  let run : Run :=
    { state := .running
      string := s
      target := target
      maxDuration := if duration = 0 then 120 else duration
      runningTime := 0
      owner := some p
      thermalCause := d.bal.thermalHold
      portCause := false
      endCode := 0
      records := 0 }
  d.modBal fun b => { b with run := run.answerCauses, commanded := 0, history := [], mismatch := 0 }

/-- R145: BALANCE_START. -/
def balStart (p : Port) (v : Word) (d : Device) : Device × Answer :=
  let x := StartValue.ofWord v
  if !d.canWrite p 2 then (d, .no .denied)
  else if !(d.standing p).trusted then (d, .no .noStanding)
  else
    match StringId.ofNum x.string with
    | none => (d, .no .range)
    | some s =>
      if 480 < x.duration ∨ x.target < 2500 ∨ 4300 < x.target then (d, .no .range)
      else if d.runLive then (d, .no .busy)
      else if d.bal.run.state = .ended then (d, .state 1)
      else if (d.monitor s).state ≠ .present then (d, .state 2)
      else if d.bal.health.get s = .tripped ∨ d.bal.health.get s = .lockedOut then (d, .state 3)
      else if d.bal.fireStage.grave then (d, .state 4)
      else (d.startRun p s x.duration x.target, .done)

/-- R151: the checks of SUSPEND, RESUME and CANCEL. -/
def ownerService (f : Device → Device) (p : Port) (d : Device) : Device × Answer :=
  if !(d.standing p).trusted then (d, .no .noStanding)
  else if !d.runLive then (d, .stateOpen)
  else if d.bal.run.owner ≠ some p then (d, .no .denied)
  else (f d, .done)

/-- R151: BALANCE_SUSPEND. -/
def balSuspend (p : Port) (d : Device) : Device × Answer :=
  ownerService (·.setCauses fun r => { r with portCause := true }) p d

/-- R151: BALANCE_RESUME. -/
def balResume (p : Port) (d : Device) : Device × Answer :=
  ownerService (·.setCauses fun r => { r with portCause := false }) p d

/-- R151: BALANCE_CANCEL. -/
def balCancel (p : Port) (d : Device) : Device × Answer := ownerService (·.endRun 8) p d

/-- R151: BALANCE_CLEAR. -/
def balClear (p : Port) (d : Device) : Device × Answer :=
  if !(d.standing p).trusted then (d, .no .noStanding)
  else if !d.canWrite p 2 then (d, .no .denied)
  else if d.bal.run.state ≠ .ended then (d, .stateOpen)
  else (d.modRun fun _ => .none, .done)

/-! ## Table 14, indexes 64 to 95 (R152) -/

/-- The older entry of a history that holds two. -/
def Bal.older (b : Bal) : BitVec 16 :=
  match b.history with
  | older :: _ :: _ => older
  | _ => 0

def Bal.read (b : Bal) (i : Nat) : Int :=
  let r := b.run
  match i with
  | 64 => r.state.code
  | 65 => if r.state = .idle then 0 else (r.string.num : Nat)
  | 66 => r.target
  | 67 => r.maxDuration
  | 68 => (r.runningTime / 1000 : Nat)
  | 69 => ((r.owner.map fun p => p.num + 1).getD 0 : Nat)
  | 70 => boolNat r.thermalCause + 2 * boolNat r.portCause
  | 71 => r.endCode
  | 72 => b.commanded.toNat
  | 73 => b.older.toNat
  | 74 => b.mismatch
  | 75 => r.records
  | 76 => boolNat b.thermalHold
  | _ => 0

end Sys2Proof.Machine
end

