-- ==== Sys2Proof/Machine/Clc.lean ====
section
/-! DEFINITION. CLC, the cooling loop controller (R108 to R124). -/

namespace Sys2Proof.Machine

def Device.modClc (f : Clc → Clc) (d : Device) : Device := { d with clc := f d.clc }

/-- An item of table 8 as it is in effect, which is as the last sample took it (R123). -/
def Device.coolItem (d : Device) (i : Nat) : Int := d.clc.settings.getD i 0

def Device.stage (d : Device) (c : Stage) : CoolStage := d.clc.stages.get c

def Device.modStage (c : Stage) (f : CoolStage → CoolStage) (d : Device) : Device :=
  d.modClc fun x => { x with stages := x.stages.set c (f (x.stages.get c)) }

/-! ## Stages (R112 to R114) -/

/-- R113: the stages that are not FAILED, in order. -/
def Clc.available (x : Clc) : List Stage := Stage.all.filter fun c => (x.stages.get c).state != .failed

/-- R113: a running stage is stopped. -/
def Device.stopStage (c : Stage) (d : Device) : Device :=
  d.when ((d.stage c).state == .running) fun d =>
    (d.modStage c fun _ => ⟨.off, 0, none⟩).raise .coolingStageChange (.stage c) (some 2)

/-- R113: every running stage is stopped at once, in stage order. -/
def Device.stopStages (d : Device) : Device := d.each Stage.all Device.stopStage

/-- R112: the count is raised while Tmax exceeds the next start point. -/
def raiseCount (base step tmax : Int) : Nat → Nat → Nat
  | 0, n => n
  | fuel + 1, n => if n < 3 ∧ base + n * step < tmax then raiseCount base step tmax fuel (n + 1) else n

/-- R112: the count is lowered while Tmax is below the stop point of the highest stage counted. -/
def lowerCount (base step hyst tmax : Int) : Nat → Nat
  | 0 => 0
  | n + 1 => if tmax < base + n * step - hyst then lowerCount base step hyst tmax n else n + 1

/-- R112: the demanded stage count from the previous one. -/
def Device.demandFrom (d : Device) (count : Nat) (tmax : Int) : Nat :=
  let base := d.coolItem 4
  let step := d.coolItem 5
  lowerCount base step (d.coolItem 6) tmax (raiseCount base step tmax 3 count)

/-- Z0 or Z1 in ALARM, COUNTDOWN, HELD or RELEASED. -/
def Clc.batteryFire (x : Clc) : Bool :=
  x.zones.z0 == .alarm || x.zones.z0 == .released || x.zones.z1 == .alarm || x.zones.z1 == .released

/-- R113: a wanted stage that is OFF may start. -/
def Clc.eligible (x : Clc) (c : Stage) : Bool :=
  let st := x.stages.get c
  decide (180000 ≤ st.since) && decide (30000 ≤ x.sinceStart) && x.flow == .confirmed && !x.batteryFire &&
    x.mode != .blind

/-- R113, R114: a stage starts. The run-feedback timer runs while the feedback shows not running (log 25). -/
def Device.startStage (c : Stage) (d : Device) : Device :=
  let timer := if d.pins.runFeedback.get c then none else some 5000
  ((d.modStage c fun _ => ⟨.running, 0, timer⟩).modClc fun x => { x with sinceStart := 0 }).raise .coolingStageChange
    (.stage c) (some 1)

/-- R113: the stages of one sample. A stage that waits holds back the wanted stages above it (log 27). -/
def Device.runStages (d : Device) : Device :=
  let wanted := d.clc.available.take d.clc.demanded
  let d := d.each Stage.all fun c d =>
    d.when (!wanted.contains c && decide (120000 ≤ (d.stage c).since)) (·.stopStage c)
  match wanted.find? fun c => (d.stage c).state == .off with
  | some c => d.when (d.clc.eligible c) (·.startStage c)
  | none => d

/-! ## THERMAL and the thermal hold (R118, R119) -/

/-- R118: the temperature cap at Tmax. -/
def Device.tempCapAt (d : Device) (tmax : Int) : Int :=
  let start := d.coolItem 7
  let stop := d.coolItem 8
  if tmax ≤ start then 9999 else if stop ≤ tmax then 0 else d.coolItem 9 * (stop - tmax) / (stop - start)

/-- R118: the stage cap at Tmax. -/
def Device.stageCapAt (d : Device) (tmax : Int) : Int :=
  if d.coolItem 4 < tmax then d.coolItem 9 * d.clc.available.length / 3 else 9999

/-- R118: the term and its parts are formed, and a changed value goes to ENV. -/
def Device.formThermal (d : Device) : Device :=
  let temp := (d.clc.lastTmax.map d.tempCapAt).getD 9999
  let stage := (d.clc.lastTmax.map d.stageCapAt).getD 9999
  let flow := if d.clc.flow = .fault then d.coolItem 10 else 9999
  let kw := min temp (min stage flow)
  (d.modClc fun x => { x with tempCap := temp, stageCap := stage, flowCap := flow, thermal := kw }).postIf
    (kw != d.clc.thermal) (.envelopeRecomputation (.thermal kw.toNat))

/-- R119: the hold at a sample with valid data, and its hand-off at a change. -/
def Device.setHold (tmax : Int) (d : Device) : Device :=
  let ceiling := d.coolItem 11
  let on := if ceiling ≤ tmax then true else if tmax ≤ ceiling - 20 then false else d.clc.thermalHold
  (d.modClc fun x => { x with thermalHold := on }).postIf (on != d.clc.thermalHold) (.thermalHoldHandoff on)

/-! ## Pump and flow (R116, R117) -/

/-- R116. -/
def Clc.pumpWanted (x : Clc) : Bool :=
  x.mode != .idle || StringId.all.any x.stringClosed.get || x.batteryFire

/-- R116: the pump comes on: STARTING, or CONFIRMED at once where the switch shows flow. -/
def Device.startFlow (d : Device) : Device :=
  if d.pins.flow then d.modClc fun x => { x with pump := true, flow := .confirmed, flowTimer := none }
  else d.modClc fun x => { x with pump := true, flow := .starting, flowTimer := some 10000 }

/-- R117: TRYING, or PROVING at once where the switch shows flow (log 25). -/
def Device.tryFlow (d : Device) : Device :=
  d.modClc fun x =>
    { x with pump := true, phase := if d.pins.flow then FlowPhase.proving else FlowPhase.trying, flowTimer := some 10000 }

/-- R117: WAITING. -/
def Device.waitFlow (d : Device) : Device :=
  d.modClc fun x => { x with pump := false, phase := .waiting, flowTimer := some 60000 }

/-- R116, R117: the pump want is formed afresh and acted on. -/
def Device.formPump (d : Device) : Device :=
  let wanted := d.clc.pumpWanted
  if d.clc.flow = .fault then
    if wanted then d.when (d.clc.phase == .held) (·.tryFlow)
    else d.modClc fun x => { x with pump := false, phase := .held, flowTimer := none }
  else if wanted then d.when (!d.clc.pump) (·.startFlow)
  else d.when d.clc.pump fun d =>
    (d.modClc fun x => { x with pump := false, flow := .none, flowTimer := none }).stopStages

/-! ## Outputs (R111, R120, R121) -/

/-- R111: the fan speed of COOL and CHILL. -/
def fanSpeed (tmax coolOff chillBase : Int) : Int :=
  min 100 (max 20 ((tmax - coolOff) * 100 / (chillBase - coolOff)))

/-- Z0 or Z1 in PREALARM. -/
def Clc.batteryPrealarm (x : Clc) : Bool := x.zones.z0 == .prealarm || x.zones.z1 == .prealarm

/-- Z2 in ALARM or RELEASED. -/
def Clc.roomFire (x : Clc) : Bool := x.zones.z2 == .alarm || x.zones.z2 == .released

/-- R121: each output from the first row that gives it a value. -/
def Device.outputs (d : Device) (x : Clc) : Clc :=
  { x with
    exhaust := !x.batteryFire && x.batteryPrealarm
    dampersOpen := !x.batteryFire && !x.roomFire && x.batteryPrealarm
    recirculation := !x.batteryFire && (x.batteryPrealarm || x.mode == .heat)
    fan := if x.batteryFire then 0 else if x.mode = .blind then 50 else x.fanAsked
    heater :=
      if x.batteryFire ∨ x.mode = .blind ∨ x.flow ≠ .confirmed ∨ x.supply.any (fun t => d.coolItem 12 ≤ t) then 0
      else x.heaterAsked }

/-- R120: the exhaust feedback timer after the fan's command. -/
def exhaustTimerAfter (was on running : Bool) (t : Option Nat) : Option Nat :=
  if !on || running then none else if was then t else some 5000

/-- R121, R120: the outputs are derived, and the exhaust feedback timer follows the fan. -/
def Device.deriveOutputs (d : Device) : Device :=
  d.modClc fun x =>
    let y := d.outputs x
    { y with exhaustTimer := exhaustTimerAfter x.exhaust y.exhaust d.pins.exhaustFeedback x.exhaustTimer }

/-! ## The cooling sample (R108 to R111) -/

/-- R110: the mode from the previous one. -/
def Device.modeFrom (d : Device) (prev : CoolMode) (tmax tmin : Int) : CoolMode :=
  let cooling := prev = .cool ∨ prev = .chill
  if 0 < d.clc.demanded ∨ Stage.all.any (fun c => (d.stage c).state == .running) then .chill
  else if cooling ∧ d.coolItem 2 ≤ tmax then .cool
  else if ¬cooling ∧ d.coolItem 3 < tmax then .cool
  else if prev = .heat ∧ tmin ≤ d.coolItem 1 then .heat
  else if prev ≠ .heat ∧ tmin < d.coolItem 0 then .heat
  else .idle

/-- R111: the heater stages the mode asks for; stage 2 keeps its state between its points within one stay in HEAT. -/
def Device.heaterFrom (d : Device) (prev : CoolMode) (tmin : Int) : Nat :=
  if d.clc.mode ≠ .heat then 0
  else if tmin < d.coolItem 0 - 100 then 2
  else if d.coolItem 0 - 50 < tmin then 1
  else if prev = .heat ∧ d.clc.heaterAsked = 2 then 2
  else 1

/-- R111: the fan speed the mode asks for. -/
def Device.fanFrom (d : Device) (tmax : Int) : Int :=
  match d.clc.mode with
  | .cool | .chill => fanSpeed tmax (d.coolItem 2) (d.coolItem 4)
  | .idle | .heat | .blind => 0

/-- R109: a sample without valid data. -/
def Device.sampleBlind (d : Device) : Device :=
  d.when (d.clc.mode != .blind) fun d =>
    ((d.modClc fun x => { x with mode := .blind, demanded := 0, fanAsked := 50, heaterAsked := 0 }).stopStages).raise
      .coolingFault (.table 8) (some 1)

/-- R108: steps 1 to 4 of a sample with valid data. -/
def Device.sampleValid (tmax tmin : Int) (d : Device) : Device :=
  let blind := d.clc.mode = .blind
  let prev := if blind then CoolMode.idle else d.clc.mode
  let count := if blind then 0 else d.clc.demanded
  let d := d.modClc fun x => { x with lastTmax := some tmax, demanded := d.demandFrom count tmax }
  let d := d.modClc fun x => { x with mode := d.modeFrom prev tmax tmin }
  (d.modClc fun x => { x with fanAsked := d.fanFrom tmax, heaterAsked := d.heaterFrom prev tmin }).runStages

/-- R108: the analog inputs of a sample, and SLC's offer as it stands; the sample takes table 8 as it stands (R123). -/
def Device.sampleInputs (supply ret ambient : Int) (d : Device) : Device :=
  { d with pins := { d.pins with supply := supply, coolantReturn := ret, ambient := ambient } }.modClc fun x =>
    { x with
      supply := some (saturate (-400) 1250 supply)
      coolantReturn := some (saturate (-400) 1250 ret)
      ambient := some (saturate (-400) 1250 ambient)
      tmax := d.slc.tmax
      tmin := d.slc.tmin
      sampleIn := 1000
      settings := d.settings.get .t8 }

/-- COOLING_SAMPLE (R108). -/
def execCoolingSample (supply ret ambient : Int) (s : State) : Out :=
  s.next fun d =>
    let d := d.sampleInputs supply ret ambient
    let d :=
      match d.clc.tmax, d.clc.tmin with
      | some hi, some lo => ((d.sampleValid hi lo).formThermal).setHold hi
      | _, _ => d.sampleBlind.formThermal
    d.formPump.deriveOutputs

/-! ## Feedback and flow events (R114, R116, R117, R120) -/

/-- RUN_FEEDBACK_CHANGE (R114). A level already held is no change. -/
def execRunFeedbackChange (c : Stage) (running : Bool) (s : State) : Out :=
  s.next fun d => d.when (d.pins.runFeedback.get c != running) fun d =>
    let d := { d with pins := { d.pins with runFeedback := d.pins.runFeedback.set c running } }
    d.when ((d.stage c).state == .running) (·.modStage c fun x =>
      { x with timer := if running then none else some 5000 })

/-- RUN_FEEDBACK_EXPIRY (R114): the stage fails. -/
def execRunFeedbackExpiry (c : Stage) (s : State) : Out :=
  s.next fun d => d.when (d.stage c).timer.isSome fun d =>
    ((((d.modStage c fun _ => ⟨.failed, 0, none⟩).raise .coolingStageChange (.stage c) (some 2)).raise .coolingFault
      (.stage c) (some 2)).formThermal).deriveOutputs

/-- R117: the onset of a flow fault. -/
def Device.flowFault (detail : Nat) (d : Device) : Device :=
  (((((d.modClc fun x => { x with flow := .fault }).stopStages).waitFlow).raise .coolingFault (.table 8)
    (some detail)).formThermal).deriveOutputs

/-- FLOW_SWITCH_CHANGE (R116, R117). A level already held is no change. -/
def execFlowSwitchChange (flow : Bool) (s : State) : Out :=
  s.next fun d => d.when (d.pins.flow != flow) fun d =>
    let d := { d with pins := { d.pins with flow := flow } }
    let d :=
      match d.clc.flow, flow with
      | .starting, true => d.modClc fun x => { x with flow := .confirmed, flowTimer := none }
      | .confirmed, false => d.modClc fun x => { x with flowTimer := some 5000 }
      | .confirmed, true => d.modClc fun x => { x with flowTimer := none }
      | .fault, true => d.when (d.clc.phase == FlowPhase.trying) (·.tryFlow)
      | .fault, false => d.when (d.clc.phase == FlowPhase.proving) (·.waitFlow)
      | _, _ => d
    d.deriveOutputs

/-- FLOW_CONFIRM_EXPIRY (R116). -/
def execFlowConfirmExpiry (s : State) : Out :=
  s.next fun d => d.when (d.clc.flow == .starting) (·.flowFault 3)

/-- FLOW_LOSS_EXPIRY (R117). -/
def execFlowLossExpiry (s : State) : Out :=
  s.next fun d => d.when (d.clc.flow == .confirmed && d.clc.flowTimer.isSome) (·.flowFault 4)

/-- RETRY_EXPIRY (R117). -/
def execRetryExpiry (s : State) : Out :=
  s.next fun d => d.when (d.clc.phase == .waiting) (·.tryFlow.deriveOutputs)

/-- TRY_EXPIRY (R117). -/
def execTryExpiry (s : State) : Out :=
  s.next fun d => d.when (d.clc.phase == FlowPhase.trying) (·.waitFlow.deriveOutputs)

/-- PROVING_EXPIRY (R117): the fault ends. -/
def execProvingExpiry (s : State) : Out :=
  s.next fun d => d.when (d.clc.phase == FlowPhase.proving) fun d =>
    ((d.modClc fun x => { x with flow := .confirmed, phase := .none, flowTimer := none }).formThermal).deriveOutputs

/-- EXHAUST_FEEDBACK_CHANGE (R120). A level already held is no change. -/
def execExhaustFeedbackChange (running : Bool) (s : State) : Out :=
  s.next fun d => d.when (d.pins.exhaustFeedback != running) fun d =>
    let d := { d with pins := { d.pins with exhaustFeedback := running } }
    d.modClc fun x => { x with exhaustTimer := exhaustTimerAfter false x.exhaust running x.exhaustTimer }

/-- EXHAUST_FEEDBACK_EXPIRY (R120). A flag already set is not raised again. -/
def execExhaustFeedbackExpiry (s : State) : Out :=
  s.next fun d => d.when d.clc.exhaustTimer.isSome fun d =>
    (d.modClc fun x => { x with exhaustTimer := none, exhaustFault := true }).when (!d.clc.exhaustFault)
      (·.raise .coolingFault (.table 8) (some 5))

/-! ## Hand-offs (R113, R116, R121) -/

/-- ZONE_STAGE_HANDOFF_CLC (R121). -/
def execZoneStageHandoffClc (zs : PerZone ZoneShown) (s : State) : Out :=
  s.next fun d =>
    let d := (d.took (.zoneStageHandoffClc zs)).modClc fun x => { x with zones := zs }
    ((d.when d.clc.batteryFire (·.stopStages)).formPump).deriveOutputs

/-- STRING_STATE_REPORT_CLC (R116). -/
def execStringStateReportClc (n : StringId) (st : SwitchState) (s : State) : Out :=
  s.next fun d =>
    (((d.took (.stringStateReportClc n st)).modClc fun x =>
      { x with stringClosed := x.stringClosed.set n (st == .closed) }).formPump).deriveOutputs

/-! ## COOLING_FAULT_CLEAR (R115) -/

/-- R115: a FAILED stage becomes OFF, its time running on. -/
def Device.clearStage (c : Stage) (d : Device) : Device :=
  d.when ((d.stage c).state == .failed) (·.modStage c fun x => { x with state := .off })

/-- R115: the clear; the THERMAL term is formed where the available count changes. -/
def Device.clearCooling (which : List Stage) (exhaust : Bool) (d : Device) : Device :=
  let e := (d.each which Device.clearStage).when exhaust (·.modClc fun x => { x with exhaustFault := false })
  e.when (decide (e.clc.available.length ≠ d.clc.available.length)) (·.formThermal)

/-- R115: the checks in order. -/
def clcFaultClear (p : Port) (v : Word) (d : Device) : Device × Answer :=
  if p = .converter then (d, .no .denied)
  else if !(d.standing p).trusted then (d, .no .noStanding)
  else if 3 < v.toNat then (d, .no .range)
  else
    match Stage.ofNum v.toNat with
    | some c => (d.clearCooling [c] false, .done)
    | none => (d.clearCooling Stage.all true, .done)

/-! ## Table 14, indexes 96 to 127 (R124) -/

def seconds (ms : Nat) : Nat := min 65535 (ms / 1000)

def Device.clcRead (d : Device) (i : Nat) : Int :=
  let x := d.clc
  let r := d.pins.runFeedback
  match i with
  | 96 => x.mode.code
  | 97 => x.demanded
  | 98 => x.stages.c1.state.code
  | 99 => x.stages.c2.state.code
  | 100 => x.stages.c3.state.code
  | 101 => seconds x.stages.c1.since
  | 102 => seconds x.stages.c2.since
  | 103 => seconds x.stages.c3.since
  | 104 => boolNat r.c1 + 2 * boolNat r.c2 + 4 * boolNat r.c3 + 8 * boolNat d.pins.exhaustFeedback
  | 105 => x.available.length
  | 106 => boolNat x.pump
  | 107 => x.flow.code
  | 108 => x.phase.code
  | 109 => boolNat d.pins.flow
  | 110 => x.fan
  | 111 => x.heaterAsked
  | 112 => x.heater
  | 113 => boolNat x.exhaust + 2 * boolNat x.dampersOpen + 4 * boolNat x.recirculation
  | 114 => boolNat x.exhaustFault
  | 115 => x.thermal
  | 116 => x.tempCap
  | 117 => x.stageCap
  | 118 => x.flowCap
  | 119 => boolNat x.thermalHold
  | 120 => x.supply.getD 0
  | 121 => x.coolantReturn.getD 0
  | 122 => x.ambient.getD 0
  | 123 => x.tmax.getD 32767
  | 124 => x.tmin.getD 32767
  | 125 => x.lastTmax.getD 32767
  | _ => 0

/-- R124 states no value of indexes 120 to 122 before the first sample (log 28). -/
def Clc.readStated (x : Clc) (i : Nat) : Bool := !(120 ≤ i && i ≤ 122 && x.supply.isNone)

end Sys2Proof.Machine
end

