-- ==== Sys2Proof/Machine/Csu.lean ====
section
/-! DEFINITION. CSU, the cell supervision unit (R19 to R39). -/

namespace Sys2Proof.Machine

/-! ## Access -/

def Device.sup (d : Device) (s : StringId) : StringSup := d.csu.strings.get s

def Device.modSup (s : StringId) (f : StringSup → StringSup) (d : Device) : Device :=
  { d with csu := { d.csu with strings := d.csu.strings.set s (f (d.sup s)) } }

def Device.modChannel (s : StringId) (k : Channel) (f : ChannelRec → ChannelRec) (d : Device) : Device :=
  d.modSup s fun u => { u with channels := u.channels.set k (f (u.channels.get k)) }

/-! ## Settings (R19, R22, R35) -/

/-- R19: a threshold of the string's expected chemistry class; i is its place among the eight of the class. -/
def Device.threshold (d : Device) (s : StringId) (i : Nat) : Int :=
  d.item .t2 ((if d.item .t2 (33 + 2 * s.num) == 2 then 8 else 0) + i)

/-- The limit L of a channel kind as table 2 holds it. -/
def Device.limitOf (d : Device) (k : Channel) : Nat := d.itemNat .t2 (16 + 2 * k.num)

/-- The hold H of a channel kind as table 2 holds it. -/
def Device.holdOf (d : Device) (k : Channel) : Nat := d.itemNat .t2 (17 + 2 * k.num)

/-! ## Tests (R19, R23) -/

/-- R19: the failure condition of a channel on a record; MEAS fails on a gap or a failed self-test. -/
def Device.fails (d : Device) (s : StringId) (r : ScanRecord) (gap : Bool) : Channel → Bool
  | .ov => r.modules.any fun m => decide (d.threshold s 0 < m.vmax)
  | .uv => r.modules.any fun m => decide (m.vmin < d.threshold s 2)
  | .ot => r.temps.any fun t => decide (d.threshold s 4 < t)
  | .spread => decide (d.threshold s 6 < r.vmax - r.vmin)
  | .oc => decide (d.threshold s 7 < (r.current.natAbs : Int))
  | .tsens => r.modules.any (·.temp.isNone)
  | .meas => gap || r.selfTestFail

/-- A hard check: its cause and the channel it pins (R23). -/
structure HardCheck where
  cause : Cause
  channel : Channel

def hardChecks : List HardCheck := [⟨.ovHard, .ov⟩, ⟨.uvHard, .uv⟩, ⟨.otHard, .ot⟩]

/-- R23: the hard check of a cause is met. -/
def Device.hardMet (d : Device) (s : StringId) (r : ScanRecord) : Cause → Bool
  | .ovHard => r.modules.any fun m => decide (d.threshold s 1 < m.vmax)
  | .uvHard => r.modules.any fun m => decide (m.vmin < d.threshold s 3)
  | .otHard => r.temps.any fun t => decide (d.threshold s 5 < t)
  | _ => false

/-! ## Debounce (R21, R22, R26) -/

/-- R22: the settings come into the channel record and adjust its counter and trip flag; a pinned channel takes the values alone. -/
def ChannelRec.adjust (limit hold : Nat) (c : ChannelRec) : ChannelRec :=
  if c.limit = limit ∧ c.hold = hold then c
  else if c.pinned then { c with limit := limit, hold := hold }
  else
    let n := min c.counter (limit + hold)
    { c with counter := n, tripped := decide (limit ≤ n), limit := limit, hold := hold }

/-- R21: one evaluation of an unpinned channel under the values in its record; a pinned one stays (R26). -/
def ChannelRec.debounce (fails : Bool) (c : ChannelRec) : ChannelRec :=
  if c.pinned then c
  else if fails then
    if c.tripped || decide (c.limit ≤ c.counter + 2) then { c with counter := c.limit + c.hold, tripped := true }
    else { c with counter := c.counter + 2 }
  else { c with counter := c.counter - 1, tripped := c.tripped && decide (c.limit ≤ c.counter - 1) }

/-- R23: the channel is pinned, its counter at 255 and its trip flag set. -/
def ChannelRec.pin (c : ChannelRec) : ChannelRec := { c with counter := 255, tripped := true, pinned := true }

/-- R28: a pinned channel is released at L + H of table 2, still tripped. -/
def ChannelRec.unpin (limit hold : Nat) (c : ChannelRec) : ChannelRec :=
  if c.pinned then ⟨limit + hold, true, false, limit, hold⟩ else c

/-- CHANNEL_TRIPPED or CHANNEL_CLEARED where a trip flag moved. -/
def Device.raiseEdge (s : StringId) (k : Channel) (before after : Bool) (d : Device) : Device :=
  if before == after then d
  else d.raise (if after then .channelTripped else .channelCleared) (.string s) (some k.num)

/-- One channel of an evaluation: R22, then R21, with their events in that order (R34). -/
def Device.evaluateChannel (s : StringId) (fails : Bool) (k : Channel) (d : Device) : Device :=
  let c := (d.sup s).channels.get k
  let adjusted := c.adjust (d.limitOf k) (d.holdOf k)
  let after := adjusted.debounce fails
  ((d.modChannel s k fun _ => after).raiseEdge s k c.tripped adjusted.tripped).raiseEdge s k adjusted.tripped
    after.tripped

/-! ## Lockout (R23 to R25) -/

/-- R24: a cause not yet in the set joins it, with STRING_LOCKOUT and a standing record update request. -/
def Device.addCause (s : StringId) (c : Cause) (d : Device) : Device :=
  d.when (!causesHas (d.sup s).causes c) fun d =>
    ((d.modSup s fun u => { u with causes := causesAdd u.causes c }).raise .stringLockout (.string s)
      (some c.code)).post .updateRequest

/-- R23: one hard check that is met. -/
def Device.hardHit (s : StringId) (h : HardCheck) (d : Device) : Device :=
  let before := ((d.sup s).channels.get h.channel).tripped
  (((d.modChannel s h.channel (·.pin)).raiseEdge s h.channel before true).addCause s h.cause)

def Device.applyHard (s : StringId) (r : ScanRecord) (d : Device) : Device :=
  d.each hardChecks fun h d => d.when (d.hardMet s r h.cause) (·.hardHit s h)

/-! ## Health (R29, R30) -/

/-- R29: the first row that applies. -/
def healthOf (causes : Causes) (m : MonitorState) (channels : PerChannel ChannelRec) : Health :=
  if causesAny causes then .lockedOut
  else
    match m with
    | .absent => .absent
    | .interrogating => .interrogating
    | .unrecognized => .unrecognized
    | .present => if Channel.all.any fun k => (channels.get k).tripped then .tripped else .available

/-- The health as it comes out now, from SLC's monitor state as it stands (log 10). -/
def Device.healthNow (d : Device) (s : StringId) : Health :=
  healthOf (d.sup s).causes (d.monitor s).state (d.sup s).channels

/-- R30: the derived health is held, and a change goes to SWC and BAL. -/
def Device.deriveHealth (s : StringId) (d : Device) : Device :=
  let h := d.healthNow s
  if h = (d.sup s).health then d
  else ((d.modSup s fun u => { u with health := h }).post (.healthHandoffSwc s h)).post (.balHealthHandoff s h)

/-- R30: a derivation outside an evaluation, where ENV hears of a change alone. -/
def Device.deriveHealthAlone (s : StringId) (d : Device) : Device :=
  let h := d.healthNow s
  (d.deriveHealth s).postIf (decide (h ≠ (d.sup s).health)) (.envelopeRecomputation (.health s h))

/-- R30: the end of an evaluation: the health, and ENV's one hand-off with the values of the record just evaluated. -/
def Device.endEvaluation (s : StringId) (copy : Option EnvCopy) (d : Device) : Device :=
  let h := d.healthNow s
  (d.deriveHealth s).post (.envelopeRecomputation (.evaluation s copy h))

/-! ## Evaluations (R20) -/

/-- The full evaluation of a PRESENT string's record. -/
def Device.evaluateFull (s : StringId) (r : ScanRecord) (gap : Bool) (d : Device) : Device :=
  let failing := PerChannel.ofFn (d.fails s r gap)
  (((d.applyHard s r).each Channel.all fun k => Device.evaluateChannel s (failing.get k) k).modSup s
    fun u => { u with failing := failing }).endEvaluation s (some r.envCopy)

/-- The hard checks alone. -/
def Device.evaluateHard (s : StringId) (r : ScanRecord) (d : Device) : Device :=
  (d.applyHard s r).endEvaluation s (some r.envCopy)

/-- A stale expiry: MEAS alone, failing. -/
def Device.evaluateStale (s : StringId) (d : Device) : Device :=
  ((d.evaluateChannel s true .meas).modSup s fun u =>
    { u with failing := { PerChannel.all false with meas := true } }).endEvaluation s none

/-- CSU_EVALUATION (R20). -/
def execCsuEvaluation (n : StringId) (c : CsuDelivery) (s : State) : Out :=
  s.next fun d =>
    let d := d.took (.csuEvaluation n c)
    match c with
    | .full r gap => d.evaluateFull n r gap
    | .hardOnly r => d.evaluateHard n r
    | .staleExpiry => d.evaluateStale n

/-- MONITOR_STATE_REPORT (R33). -/
def execMonitorStateReport (n : StringId) (s : State) : Out :=
  s.next fun d => (d.took (.monitorStateReport n)).deriveHealthAlone n

/-- WELD_REPORT (R25). -/
def execWeldReport (n : StringId) (s : State) : Out :=
  s.next fun d => ((d.took (.weldReport n)).addCause n .weld).deriveHealthAlone n

/-! ## RELEASE_LOCKOUT (R27, R28) -/

/-- R27: a record within the soft thresholds; MEAS is not part of the test. -/
def Device.withinSoft (d : Device) (s : StringId) (r : ScanRecord) : Bool :=
  [Channel.ov, .uv, .ot, .spread, .oc, .tsens].all fun k => !d.fails s r false k

/-- R28: the release. -/
def Device.releaseLockout (s : StringId) (d : Device) : Device :=
  let unpin (k : Channel) (d : Device) := d.modChannel s k (·.unpin (d.limitOf k) (d.holdOf k))
  (((d.modSup s fun u => { u with causes := .none }).post .updateRequest).each Channel.all unpin).deriveHealthAlone s

/-- R27: the checks in order. -/
def csuRelease (p : Port) (v : Word) (d : Device) : Device × Answer :=
  if p ≠ .site then (d, .no .denied)
  else if !(d.standing .site).trusted then (d, .no .noStanding)
  else
    match StringId.ofNum v.toNat with
    | none => (d, .no .range)
    | some s =>
      let m := d.monitor s
      if !causesAny (d.sup s).causes then (d, .state 1)
      else if (d.swc.switches.get s.switch).state ≠ .opened then (d, .state 2)
      else if m.state ≠ .present || m.stale then (d, .state 3)
      else if !(m.held.any (d.withinSoft s)) then (d, .state 4)
      else (d.releaseLockout s, .ok 0)

/-! ## Table 14, indexes 0 to 63 (R37) -/

def StringSup.read (u : StringSup) (o : Nat) : Int :=
  match o with
  | 0 => u.health.code
  | 1 => causesCode u.causes
  | 2 => channelCode (.ofFn fun k => (u.channels.get k).tripped)
  | 3 => channelCode (.ofFn fun k => (u.channels.get k).pinned)
  | 4 => u.channels.ov.counter
  | 5 => u.channels.uv.counter
  | 6 => u.channels.ot.counter
  | 7 => u.channels.spread.counter
  | 8 => u.channels.oc.counter
  | 9 => u.channels.tsens.counter
  | 10 => u.channels.meas.counter
  | 11 => channelCode u.failing
  | _ => 0

def Csu.read (c : Csu) (i : Nat) : Int :=
  match StringId.ofNum (i / 16) with
  | some s => (c.strings.get s).read (i % 16)
  | none => 0

end Sys2Proof.Machine
end

