-- ==== Sys2Proof/Machine/Du.lean ====
section
/-! DEFINITION. DU, the dispatch unit (R63 to R77). -/

namespace Sys2Proof.Machine

def Device.modDu (f : Du → Du) (d : Device) : Device := { d with du := f d.du }

/-! ## Mode and forcing causes (R66) -/

inductive DispatchMode where
  | run | hold | forced
  deriving DecidableEq, Repr

def DispatchMode.code : DispatchMode → Nat
  | .run => 0 | .hold => 1 | .forced => 2

def Device.breakerClosed (d : Device) : Bool := d.swc.switches.g.state == .closed

/-- CONVERTER_STANDING: the Converter Port is UNCHECKED, FORFEIT or BARRED. -/
def Device.causeStanding (d : Device) : Bool := !(d.standing .converter).trusted

/-- At least one forcing cause is present. -/
def Device.forced (d : Device) : Bool := d.causeStanding || !d.breakerClosed || d.du.reportStale

def Device.dispatchMode (d : Device) : DispatchMode :=
  if d.forced then .forced else if d.standing .converter = .lapsed then .hold else .run

/-- The forcing causes as table 5 shows them (R76). -/
def Device.forcingCode (d : Device) : Nat :=
  boolNat d.causeStanding + 2 * boolNat (!d.breakerClosed) + 4 * boolNat d.du.reportStale

/-! ## Order, target, grant (R64, R65, R67, R68) -/

/-- R64: the effective order and its source are set afresh. -/
def Device.duOrder (d : Device) : Device :=
  if d.du.siteStanding.trusted then d.modDu fun u => { u with order := d.item .t5 0, source := .site }
  else d.modDu fun u => { u with order := d.item .t5 2, source := .fallback }

/-- R65: the target that belongs to the order, the envelope and the mode. -/
def Device.duTarget (d : Device) : Int :=
  if d.forced then 0 else saturate (-d.env.chg) d.env.dis d.du.order

/-- The grant may ramp: the mode is RUN (R68), and the converter has made its first report since the restart with the breaker CLOSED, up to
which R79 keeps the grant at 0 (DEDUCED, log 39). -/
def Device.duRamps (d : Device) : Bool := d.dispatchMode == .run && d.du.reported

/-- The target is set afresh (R65), a forced mode sets the grant to 0 (R67), and the ramp-step timer runs exactly while the grant may ramp
and differs from the target, a running one keeping its time (R68, R79). -/
def Device.duRefresh (d : Device) : Device :=
  let target := d.duTarget
  let granted := if d.forced then 0 else d.du.granted
  let ramps := d.duRamps ∧ granted ≠ target
  d.modDu fun u =>
    { u with target := target, granted := granted, rampTimer := if ramps then some (u.rampTimer.getD 100) else none }

/-- R69: at an envelope event the grant is brought to the nearer bound, and the target is set afresh. -/
def Device.duEnvelopeEvent (d : Device) : Device :=
  let lo := -d.env.chg
  let hi := d.env.dis
  let clamped : Device :=
    if d.du.granted < lo then
      (d.modDu fun u => { u with granted := lo }).raise .dispatchClamped (.table 5) (some 1)
    else if hi < d.du.granted then
      (d.modDu fun u => { u with granted := hi }).raise .dispatchClamped (.table 5) (some 2)
    else d
  clamped.duRefresh

/-- R71, R73: SWC has changed the breaker state: CLOSED starts a stopped report-stale timer, any other stops the overrun timer. -/
def Device.duBreakerChanged (d : Device) : Device :=
  (if d.breakerClosed then d.modDu fun u => { u with reportTimer := some (u.reportTimer.getD 1000) }
   else d.modDu fun u => { u with overrunTimer := none }).duRefresh

/-- R68: one ramp step from the grant toward the target. -/
def rampToward (rate granted target : Int) : Int :=
  let step := min (max 1 (rate / 10)) ((target - granted).natAbs : Int)
  if granted < target then granted + step else granted - step

/-- RAMP_STEP (R68). -/
def execRampStep (s : State) : Out :=
  s.next fun d => d.when d.du.rampTimer.isSome fun d =>
    (d.modDu fun u =>
      { u with granted := rampToward (d.item .t5 1) u.granted u.target, rampTimer := none }).duRefresh

/-! ## The converter report (R70 to R74) -/

/-- R72: the tolerance around a grant. -/
def Device.duTolerance (d : Device) : Int :=
  max (d.item .t5 5) ((d.du.granted.natAbs : Int) * d.item .t5 6 / 100)

/-- R72: the report lies outside the band around the grant. -/
def overTolerance (granted tol report : Int) : Bool :=
  decide (report < min 0 granted - tol) || decide (max 0 granted + tol < report)

/-- R72, R73: the judgment of the held report, which the overrun timer follows. -/
def Device.duJudge (d : Device) : Device :=
  let tol := d.duTolerance
  if overTolerance d.du.granted tol d.du.report then
    d.modDu fun u => { u with tolerance := tol, judgment := .over, overrunTimer := some (u.overrunTimer.getD 1000) }
  else d.modDu fun u => { u with tolerance := tol, judgment := .within, overrunTimer := none }

/-- R70: a report, in its four steps. With the breaker CLOSED it is, or follows, the first report of R79 (log 39). -/
def Device.duReport (v : Int) (d : Device) : Device :=
  let d := (d.modDu fun u =>
    { u with report := v, reportStale := false, reported := u.reported || d.breakerClosed }).duRefresh
  let d := d.modDu fun u => { u with reportTimer := some 1000 }
  d.when d.breakerClosed (·.duJudge)

/-- REPORT_STALE_EXPIRY (R71). -/
def execReportStaleExpiry (s : State) : Out :=
  s.next fun d => d.when d.du.reportTimer.isSome fun d =>
    let fresh := !d.du.reportStale
    let d := d.modDu fun u => { u with reportTimer := none }
    d.when (d.breakerClosed && fresh) fun d =>
      ((d.modDu fun u => { u with reportStale := true, overrunTimer := none }).duRefresh).raise .converterOverrun
        (.port .converter) (some 2)

/-- OVERRUN_EXPIRY (R74). -/
def execOverrunExpiry (s : State) : Out :=
  s.next fun d => d.when d.du.overrunTimer.isSome fun d =>
    ((d.modDu fun u => { u with overrunTimer := none }).raise .converterOverrun (.port .converter) (some 1)).post
      .forcedOpen

/-- SITE_STANDING_HANDOFF (R64). -/
def execSiteStandingHandoff (st : Standing) (s : State) : Out :=
  s.next fun d =>
    (((d.took (.siteStandingHandoff st)).modDu fun u => { u with siteStanding := st }).duOrder).duRefresh

/-! ## Tables 5 and 6 (R76, R77) -/

/-- Items 8 to 13 of table 5. -/
def Device.duRead5 (d : Device) (i : Nat) : Int :=
  match i with
  | 8 => d.du.order
  | 9 => match d.du.source with | .site => 0 | .fallback => 1
  | 10 => d.du.target
  | 11 => d.du.granted
  | 12 => d.dispatchMode.code
  | 13 => d.forcingCode
  | _ => 0

def Judgment.code : Judgment → Nat
  | .none => 0 | .within => 1 | .over => 2

/-- Table 6. -/
def Device.read6 (d : Device) (i : Nat) : Int :=
  match i with
  | 0 => d.du.report
  | 1 => d.env.ratingChg
  | 2 => d.env.ratingDis
  | 3 => boolNat d.du.reportStale
  | 4 => boolNat d.du.overrunTimer.isSome
  | 5 => d.du.tolerance
  | _ => d.du.judgment.code

end Sys2Proof.Machine
end

