-- ==== Sys2Proof/Machine/Env.lean ====
section
/-! DEFINITION. ENV, the envelope unit (R40 to R61). -/

namespace Sys2Proof.Machine

def Device.modEnv (f : Env → Env) (d : Device) : Device := { d with env := f d.env }

def Env.modString (s : StringId) (f : EnvString → EnvString) (e : Env) : Env :=
  { e with strings := e.strings.set s (f (e.strings.get s)) }

/-! ## Inputs (R41, R42) -/

/-- R42: the health of a string; ABSENT clears the copied values. -/
def EnvString.withHealth (h : Health) (x : EnvString) : EnvString :=
  { x with health := h, copy := if h = .absent then none else x.copy }

/-- R42: an evaluation hand-off; one without a record (a stale expiry) leaves the copied values. -/
def EnvString.evaluated (copy : Option EnvCopy) (h : Health) (x : EnvString) : EnvString :=
  { x with copy := copy.or x.copy }.withHealth h

/-- R41: the input that an event carries is updated. -/
def Env.input (i : EnvInput) (e : Env) : Env :=
  match i with
  | .evaluation s copy h => e.modString s (·.evaluated copy h)
  | .health s h => e.modString s (·.withHealth h)
  | .stringSwitch s st p => e.modString s fun x => { x with switch := st, openPending := p }
  | .breaker st => { e with breaker := st }
  | .isolation on => { e with isolation := on }
  | .thermal kw => { e with thermal := kw }
  | .fire st test => { e with fireStage := st, fireTest := test }
  | .window st => { e with window := st }
  | .standing p st => if p = .cell then { e with cellStanding := st } else e
  | .settings => e

/-! ## The BATTERY term (R42 to R46) -/

/-- R43: the factor of one temperature in a derating table with breakpoints T 0 to T 5 and factors F 0 to F 5. The division truncates
toward zero. -/
def derateFactor (T F : Nat → Int) (t : Int) : Int :=
  if t ≤ T 0 then F 0
  else if T 5 ≤ t then F 5
  else
    match [0, 1, 2, 3, 4].find? fun k => decide (T k ≤ t ∧ t < T (k + 1)) with
    | some k => F k + ((F (k + 1) - F k) * (t - T k)).tdiv (T (k + 1) - T k)
    | none => 0

/-- R43: the least factor over the readable modules; 0 when every module reads OPEN. `base` is the table's first index in table 3. -/
def Device.tempFactor (d : Device) (base : Nat) (temps : List (Option Int)) : Int :=
  minOf 0 ((temps.filterMap id).map
    (derateFactor (fun k => d.item .t3 (base + k)) (fun k => d.item .t3 (base + 6 + k))))

/-- R44: the first taper item of the string's expected class. -/
def Device.taperBase (d : Device) (s : StringId) : Nat := if d.item .t2 (33 + 2 * s.num) == 2 then 30 else 26

/-- R44: the charge taper. -/
def chargeTaper (start ceil v : Int) : Int :=
  if v ≤ start then 1024 else if ceil ≤ v then 0 else 1024 * (ceil - v) / (ceil - start)

/-- R44: the discharge taper. -/
def dischargeTaper (start floor v : Int) : Int :=
  if start ≤ v then 1024 else if v ≤ floor then 0 else 1024 * (v - floor) / (start - floor)

/-- R45: a current limit, floored once. -/
def currentLimit (top ft fv : Int) : Int := top * ft * fv / 1048576

/-- R42: the string is CLOSED, not open-pending, and AVAILABLE. -/
def EnvString.counted (x : EnvString) : Bool := x.switch == .closed && !x.openPending && x.health == .available

/-- R46: a string's contribution record; 0 throughout without an input copy. -/
def Device.contribution (d : Device) (s : StringId) : Contribution :=
  let x := d.env.strings.get s
  match x.copy with
  | none => .zero
  | some c =>
    let t := d.taperBase s
    let chgTemp := d.tempFactor 0 c.temps
    let disTemp := d.tempFactor 12 c.temps
    let chgTaper := chargeTaper (d.item .t3 t) (d.item .t3 (t + 1)) c.vmax
    let disTaper := dischargeTaper (d.item .t3 (t + 2)) (d.item .t3 (t + 3)) c.vmin
    { counted := x.counted
      chgTemp := chgTemp
      chgTaper := chgTaper
      chgCurrent := currentLimit (d.item .t3 24) chgTemp chgTaper
      disTemp := disTemp
      disTaper := disTaper
      disCurrent := currentLimit (d.item .t3 25) disTemp disTaper
      voltage := c.voltage }

/-- R46: the sum of the counted strings' products, floored once and saturated. -/
def batteryOf (cs : PerString Contribution) (current : Contribution → Int) : Int :=
  let product (s : StringId) : Int :=
    let c := cs.get s
    if c.counted then current c * c.voltage else 0
  saturate 0 9999 ((product .s0 + product .s1 + product .s2 + product .s3) / 100000)

/-! ## The other terms (R47 to R53) -/

def TermValue.both (v : Int) : TermValue := ⟨v, v, true⟩

def TermValue.inactive : TermValue := ⟨9999, 9999, false⟩

/-- R47. -/
def Device.rackTerm (d : Device) (battery : TermValue) : TermValue :=
  if d.env.cellStanding.trusted then .inactive
  else
    let f := d.item .t11 8
    ⟨battery.chg * f / 1024, battery.dis * f / 1024, true⟩

/-- R49. -/
def Device.fireTerm (d : Device) : TermValue :=
  match d.env.fireStage, d.env.fireTest with
  | .normal, false => .inactive
  | .normal, true => .both (d.item .t9 3)
  | .fault, _ => .both (d.item .t9 3)
  | _, _ => .both 0

/-- R50. -/
def Device.gridTerm (d : Device) : TermValue :=
  match d.env.breaker, d.env.window with
  | .closed, .inWindow => .both 9999
  | .closed, .rideThrough => .both (d.item .t10 16)
  | _, _ => .both 0

/-- The eight terms from the inputs as they stand, with the contributions of this recomputation. -/
def Device.terms (d : Device) (cs : PerString Contribution) : PerTerm TermValue :=
  let battery : TermValue := ⟨batteryOf cs (·.chgCurrent), batteryOf cs (·.disCurrent), true⟩
  { battery := battery
    rack := d.rackTerm battery
    thermal := .both d.env.thermal
    fire := d.fireTerm
    grid := d.gridTerm
    siteCap := ⟨d.item .t5 3, d.item .t5 4, true⟩
    converter := if d.env.ratingWritten then ⟨d.env.ratingChg, d.env.ratingDis, true⟩ else .inactive
    isolation := if d.env.isolation then .both 0 else .inactive }

/-! ## The envelope (R40, R54 to R56) -/

/-- R40: the least value over the active terms. -/
def leastTerm (ts : PerTerm TermValue) (f : TermValue → Int) : Int :=
  (Term.all.filter fun k => (ts.get k).active).foldl (fun m k => min m (f (ts.get k))) 9999

/-- R56: the active terms whose value is the envelope value. -/
def bindingSet (ts : PerTerm TermValue) (f : TermValue → Int) : List Term :=
  Term.all.filter fun k => (ts.get k).active && f (ts.get k) == leastTerm ts f

/-- Contributions, terms, envelope and binding sets formed from the inputs as they stand, with no effect beyond ENV. -/
def Device.envForm (d : Device) : Device :=
  let cs := PerString.ofFn d.contribution
  let ts := d.terms cs
  d.modEnv fun e =>
    { e with
      contributions := cs
      terms := ts
      chg := leastTerm ts (·.chg)
      dis := leastTerm ts (·.dis)
      bindChg := bindingSet ts (·.chg)
      bindDis := bindingSet ts (·.dis) }

/-- R54, R57: one step of the generation sets every port's flag. -/
def Env.step (e : Env) : Env := { e with generation := e.generation + 1, changed := .all true }

/-- R41, R54 to R56: a recomputation. The binding event is raised before the envelope event in which it ends (log 36). -/
def Device.envRecompute (d : Device) : Device :=
  let e := d.envForm
  let moved := decide (e.env.chg ≠ d.env.chg ∨ e.env.dis ≠ d.env.dis)
  let which := boolNat (decide (e.env.bindChg ≠ d.env.bindChg)) + 2 * boolNat (decide (e.env.bindDis ≠ d.env.bindDis))
  ((e.when moved (·.modEnv (·.step))).when (which != 0)
    (·.raise .bindingSourceChanged (.table 4) (some which))).when moved (·.duEnvelopeEvent)

/-- ENVELOPE_RECOMPUTATION (R41). -/
def execEnvelopeRecomputation (i : EnvInput) (s : State) : Out :=
  s.next fun d => ((d.took (.envelopeRecomputation i)).modEnv (·.input i)).envRecompute

/-! ## Table 4 (R61) and the generation flag (R57) -/

def Contribution.read (c : Contribution) (o : Nat) : Int :=
  match o with
  | 0 => boolNat c.counted
  | 1 => c.chgTemp
  | 2 => c.chgTaper
  | 3 => c.chgCurrent
  | 4 => c.disTemp
  | 5 => c.disTaper
  | 6 => c.disCurrent
  | _ => c.voltage

def Env.read (e : Env) (i : Nat) : Int :=
  match i with
  | 0 => e.chg
  | 1 => e.dis
  | 2 => e.generation.toNat
  | 3 => termCode e.bindChg
  | 4 => termCode e.bindDis
  | 5 => termCode (Term.all.filter fun k => (e.terms.get k).active)
  | i =>
    if 8 ≤ i ∧ i < 24 then
      match Term.all[(i - 8) / 2]? with
      | some k => if i % 2 = 0 then (e.terms.get k).chg else (e.terms.get k).dis
      | none => 0
    else if 32 ≤ i then
      match StringId.ofNum ((i - 32) / 8) with
      | some s => (e.contributions.get s).read (i % 8)
      | none => 0
    else 0

/-- R57: a READ of the generation by a port clears its flag. -/
def Device.clearGenerationFlag (p : Port) (d : Device) : Device :=
  d.modEnv fun e => { e with changed := e.changed.set p false }

end Sys2Proof.Machine
end

