-- ==== Sys2Proof/Machine/Fgu.lean ====
section
/-! DEFINITION. FGU, the fire and gas unit (R126 to R142). -/

namespace Sys2Proof.Machine

/-! ## Access -/

def Device.modFgu (f : Fgu → Fgu) (d : Device) : Device := { d with fgu := f d.fgu }

def Device.zone (d : Device) (z : Zone) : ZoneRec := d.fgu.zones.get z

def Device.modZone (z : Zone) (f : ZoneRec → ZoneRec) (d : Device) : Device :=
  d.modFgu fun g => { g with zones := g.zones.set z (f (g.zones.get z)) }

def ZoneRec.loop (r : ZoneRec) : Loop → LoopRec
  | .smoke => r.smoke | .heat => r.heat

def ZoneRec.setLoop (r : ZoneRec) (l : Loop) (x : LoopRec) : ZoneRec :=
  match l with
  | .smoke => { r with smoke := x } | .heat => { r with heat := x }

def ZoneRec.inTest (r : ZoneRec) : Bool := r.testTimer.isSome

/-! ## Detections (R127, and Zone stages) -/

/-- The gas judgments of a zone; Z2 has no sensor. -/
def Fgu.gasLow (g : Fgu) : Zone → Bool
  | .z0 => g.gas.z0.low | .z1 => g.gas.z1.low | .z2 => false

def Fgu.gasHigh (g : Fgu) : Zone → Bool
  | .z0 => g.gas.z0.high | .z1 => g.gas.z1.high | .z2 => false

/-- The kinds present, as the details of R129: 1 smoke, 2 heat, 3 gas. -/
def Fgu.kinds (g : Fgu) (z : Zone) : List Nat :=
  let r := g.zones.get z
  (if r.smoke.confirmed = .active then [1] else []) ++ (if r.heat.confirmed = .active then [2] else []) ++
    (if g.gasLow z then [3] else [])

/-! ## Stages (R128 to R131) -/

/-- RELEASE_DELAY in ms. -/
def Device.releaseDelay (d : Device) : Nat := 1000 * d.itemNat .t9 0

/-- NORMAL or FAULT by the fault flag. -/
def ZoneRec.byFlag (r : ZoneRec) : ZoneStage := if r.faultFlag then .fault else .normal

/-- R131: COUNTDOWN with the timer full, or HELD while the hold button is pressed. -/
def Device.countdown (z : Zone) (d : Device) : Device :=
  if d.fgu.holdPressed then d.modZone z fun r => { r with stage := .held, releaseTimer := none }
  else d.modZone z fun r => { r with stage := .countdown, releaseTimer := some d.releaseDelay }

/-- R129: the passage through ALARM, which ends a test mode (R130, R136). -/
def Device.alarm (z : Zone) (detail : Nat) (d : Device) : Device :=
  ((d.modZone z fun r => { r with testTimer := none, testGas := false }).raise .fireAlarm (.zone z)
    (some detail)).countdown z

/-- R129: two or more kinds, or gas high. -/
def Fgu.alarming (g : Fgu) (z : Zone) : Bool := g.gasHigh z || decide (2 ≤ (g.kinds z).length)

/-- R129: the detail of an alarm from detections. -/
def Fgu.alarmDetail (g : Fgu) (z : Zone) : Nat := if g.gasHigh z then 2 else 1

/-- R129: the judgment of a zone that is not in test mode. -/
def Device.judgeZone (z : Zone) (d : Device) : Device :=
  match (d.zone z).stage with
  | .normal | .fault =>
    if d.fgu.alarming z then d.alarm z (d.fgu.alarmDetail z)
    else
      match d.fgu.kinds z with
      | k :: _ => (d.modZone z fun r => { r with stage := .prealarm }).raise .firePrealarm (.zone z) (some k)
      | [] => d.modZone z fun r => { r with stage := r.byFlag }
  | .prealarm => d.when (d.fgu.alarming z) (·.alarm z (d.fgu.alarmDetail z))
  | .countdown | .held | .released => d

/-- R137: the end of a test: test mode off, and the stage derived as if each detection had just arrived. -/
def Device.endTest (z : Zone) (d : Device) : Device :=
  (d.modZone z fun r => { r with testTimer := none, testGas := false }).judgeZone z

/-! ## The station stage and the hand-offs (R138) -/

/-- R138: what a zone contributes. -/
def ZoneRec.contributes (r : ZoneRec) : FireStage :=
  match r.stage with
  | .normal => if r.inTest then .fault else .normal
  | .fault => .fault
  | .prealarm => .prealarm
  | .countdown | .held => .alarm
  | .released => .released

def Fgu.formStage (g : Fgu) : FireStage :=
  (g.zones.z0.contributes.higher g.zones.z1.contributes).higher g.zones.z2.contributes

/-- R138: the test condition. -/
def Fgu.testing (g : Fgu) : Bool := Zone.all.any fun z => (g.zones.get z).inTest

/-- R138: a zone's stage as it is shown to CLC. -/
def ZoneRec.shown (r : ZoneRec) : ZoneShown :=
  if r.inTest then .test
  else
    match r.stage with
    | .normal => .normal
    | .fault => .fault
    | .prealarm => .prealarm
    | .countdown | .held => .alarm
    | .released => .released

def Fgu.shown (g : Fgu) : PerZone ZoneShown := g.zones.map (·.shown)

/-- A zone's stage and test mode. -/
def ZoneRec.posture (r : ZoneRec) : ZoneStage × Bool := (r.stage, r.inTest)

/-- R138: an event at FGU with what follows it: the station stage is formed, and changes are handed on. -/
def Device.fguEvent (f : Device → Device) (d : Device) : Device :=
  let e := f d
  let st := e.fgu.formStage
  let e := e.modFgu fun g => { g with stationStage := st }
  let moved := decide (st ≠ d.fgu.stationStage) || e.fgu.testing != d.fgu.testing
  let e := e.when moved fun e =>
    ((e.post (.envelopeRecomputation (.fire st e.fgu.testing))).post (.fireStageHandoffSwc st)).post
      (.balFireStageHandoff st)
  e.postIf (decide (e.fgu.zones.map (·.posture) ≠ d.fgu.zones.map (·.posture))) (.zoneStageHandoffClc e.fgu.shown)

/-! ## Loops (R126, R128) -/

/-- R126: the confirmation time of a raw state. -/
def confirmTime : LoopState → Nat
  | .normal | .active => 2000
  | .opened | .short => 10000

/-- LOOP_CHANGE (R126). A state already read is no change. -/
def execLoopChange (z : Zone) (l : Loop) (raw : LoopState) (s : State) : Out :=
  s.next fun d =>
    let x := (d.zone z).loop l
    d.when (x.raw != raw) fun d =>
      d.modZone z fun r => r.setLoop l
        { x with raw := raw, timer := if raw = x.confirmed then none else some (confirmTime raw) }

def LoopState.faulty : LoopState → Bool
  | .opened | .short => true
  | _ => false

/-- R128: 1 smoke open, 2 smoke short, 3 heat open, 4 heat short. -/
def faultDetail (l : Loop) (st : LoopState) : Nat :=
  (match l with | .smoke => 1 | .heat => 3) + boolNat (st == .short)

/-- R128: the fault flag afresh after a confirmation of loop l that left the state `old`, and ZONE_FAULT. -/
def Device.formFault (z : Zone) (l : Loop) (old : LoopState) (d : Device) : Device :=
  let r := d.zone z
  let now := (r.loop l).confirmed
  let raises := LoopState.faulty now && (!r.faultFlag || (LoopState.faulty old && old != now))
  (d.modZone z fun r => { r with faultFlag := LoopState.faulty r.smoke.confirmed || LoopState.faulty r.heat.confirmed }).when
    raises (·.raise .zoneFault (.zone z) (some (faultDetail l now)))

/-- The kind of a loop's detection. -/
def Loop.kind : Loop → Nat
  | .smoke => 1 | .heat => 2

/-- R136: in test mode the stage follows the fault flag, and an ACTIVE confirmation is a TEST_DETECTION. -/
def Device.testLoop (z : Zone) (l : Loop) (d : Device) : Device :=
  (d.modZone z fun r => { r with stage := r.byFlag }).when (((d.zone z).loop l).confirmed == .active)
    (·.raise .testDetection (.zone z) (some (Loop.kind l)))

/-- LOOP_CONFIRMATION (R126, R128, R129). -/
def execLoopConfirmation (z : Zone) (l : Loop) (s : State) : Out :=
  s.next fun d =>
    let x := (d.zone z).loop l
    d.when x.timer.isSome (·.fguEvent fun d =>
      let d := (d.modZone z fun r => r.setLoop l ⟨x.raw, x.raw, none⟩).formFault z l x.confirmed
      if (d.zone z).inTest then d.testLoop z l else d.judgeZone z)

/-! ## Gas (R127, R136) -/

/-- R127: the sample is held and judged. -/
def Device.readGas (z : BatteryZone) (ppm : Nat) (d : Device) : Device :=
  let reading := min 2000 ppm
  let low := decide (d.item .t9 1 ≤ reading)
  let high := decide (d.item .t9 2 ≤ reading)
  { d with pins := { d.pins with gas := d.pins.gas.set z ppm } }.modFgu fun g =>
    { g with gas := g.gas.set z ⟨some reading, low, high, 1000⟩ }

/-- R136: a gas sample in test mode. -/
def Device.testSample (z : Zone) (d : Device) : Device :=
  if d.fgu.gasHigh z then d.alarm z 2
  else
    let low := d.fgu.gasLow z
    let fresh := low && !(d.zone z).testGas
    (d.modZone z fun r => { r with testGas := low }).when fresh (·.raise .testDetection (.zone z) (some 3))

/-- GAS_SAMPLE (R127, R129). -/
def execGasSample (z : BatteryZone) (ppm : Nat) (s : State) : Out :=
  s.next fun d => d.fguEvent fun d =>
    let d := d.readGas z ppm
    if (d.zone z.zone).inTest then d.testSample z.zone else d.judgeZone z.zone

/-! ## Call point and hold button (R126, R130, R132) -/

/-- CALL_POINT_CHANGE (R126). A level already read is no change. -/
def execCallPointChange (operated : Bool) (s : State) : Out :=
  s.next fun d => d.when (d.fgu.callRaw != operated) fun d => d.modFgu fun g =>
    { g with callRaw := operated, callTimer := if operated = g.callConfirmed then none else some 2000 }

/-- R130: the call point at one zone. -/
def Device.callZone (z : Zone) (d : Device) : Device :=
  match (d.zone z).stage with
  | .normal | .fault | .prealarm => d.alarm z 3
  | .countdown | .held | .released => d

/-- CALL_POINT_CONFIRMATION (R126, R130). -/
def execCallPointConfirmation (s : State) : Out :=
  s.next fun d => d.when d.fgu.callTimer.isSome (·.fguEvent fun d =>
    let d := d.modFgu fun g => { g with callConfirmed := g.callRaw, callTimer := none }
    d.when d.fgu.callConfirmed (·.each Zone.all Device.callZone))

/-- R132: the hold button at one zone. -/
def Device.holdZone (pressed : Bool) (z : Zone) (d : Device) : Device :=
  match (d.zone z).stage, pressed with
  | .countdown, true => d.countdown z
  | .held, false => d.countdown z
  | _, _ => d

/-- HOLD_BUTTON_CHANGE (R132). A level already read is no change. -/
def execHoldButtonChange (pressed : Bool) (s : State) : Out :=
  s.next fun d => d.when (d.fgu.holdPressed != pressed) (·.fguEvent fun d =>
    (d.modFgu fun g => { g with holdPressed := pressed }).each Zone.all (Device.holdZone pressed))

/-! ## Timers (R131, R137) -/

/-- RELEASE_TIMER_EXPIRY (R131). -/
def execReleaseTimerExpiry (z : Zone) (s : State) : Out :=
  s.next fun d => d.when (d.zone z).releaseTimer.isSome (·.fguEvent fun d =>
    ((d.modZone z fun r => { r with stage := .released, releaseTimer := none, pulseTimer := some 2000 }).raise
      .fireReleased (.zone z) none).post .updateRequest)

/-- PULSE_TIMER_EXPIRY (R131): the release output is driven off. -/
def execPulseTimerExpiry (z : Zone) (s : State) : Out :=
  s.next fun d => d.when (d.zone z).pulseTimer.isSome (·.modZone z fun r => { r with pulseTimer := none })

/-- TEST_TIMER_EXPIRY (R137). -/
def execTestTimerExpiry (z : Zone) (s : State) : Out :=
  s.next fun d => d.when (d.zone z).testTimer.isSome (·.fguEvent (Device.endTest z))

/-! ## Services (R133, R134, R136, R140) -/

/-- The checks that open the services of a zone: the Site Port, its standing, the zone number. -/
def zoneService (k : Zone → Device → Device × Answer) (p : Port) (v : Word) (d : Device) : Device × Answer :=
  if p ≠ .site then (d, .no .denied)
  else if !(d.standing .site).trusted then (d, .no .noStanding)
  else
    match Zone.ofNum v.toNat with
    | none => (d, .no .range)
    | some z => k z d

/-- R133: the reset of a zone. -/
def Device.resetZone (z : Zone) (d : Device) : Device × Answer :=
  let r := d.zone z
  let standing := r.stage = .prealarm ∨ r.stage = .countdown ∨ r.stage = .held
  if ¬standing ∨ r.inTest then (d, .state 1)
  else if !(d.fgu.kinds z).isEmpty || d.fgu.callConfirmed then (d, .state 2)
  else (d.fguEvent (·.modZone z fun r => { r with stage := r.byFlag, releaseTimer := none }), .done)

/-- R134: the rearm of a zone. -/
def Device.rearmZone (z : Zone) (d : Device) : Device × Answer :=
  let r := d.zone z
  if r.stage ≠ .released then (d, .state 1)
  else if r.smoke.confirmed ≠ .normal ∨ r.heat.confirmed ≠ .normal ∨ d.fgu.gasLow z ∨ d.fgu.callConfirmed then
    (d, .state 2)
  else (d.fguEvent (fun d => (d.modZone z fun r => { r with stage := .normal }).post .updateRequest), .done)

/-- R136: the start of a test, 30 minutes. -/
def Device.startTest (z : Zone) (d : Device) : Device × Answer :=
  let r := d.zone z
  if r.inTest ∨ ¬(r.stage = .normal ∨ r.stage = .fault) then (d, .stateOpen)
  else (d.fguEvent (·.modZone z fun r =>
    { r with testTimer := some 1800000, testGas := false, stage := r.byFlag }), .done)

/-- R136: the end of a test by the site. -/
def Device.stopTest (z : Zone) (d : Device) : Device × Answer :=
  if !(d.zone z).inTest then (d, .stateOpen) else (d.fguEvent (Device.endTest z), .done)

/-- R140: FORCE_EVENT. -/
def fguForceEvent (p : Port) (v : Word) (d : Device) : Device × Answer :=
  if p ≠ .site then (d, .no .denied)
  else if !(d.standing .site).trusted then (d, .no .noStanding)
  else
    match EventClass.all[v.toNat]? with
    | none => (d, .no .range)
    | some c => (d.post (.eventOccurrence ⟨c, .port .site, some 255, true⟩), .done)

/-! ## Table 14, indexes 128 to 159 (R142) -/

def LoopRec.code (x : LoopRec) : Nat := 16 * x.confirmed.code + x.raw.code

def Fgu.zoneRead (g : Fgu) (z : Zone) (o : Nat) : Int :=
  let r := g.zones.get z
  match o with
  | 0 => r.stage.code
  | 1 => boolNat r.inTest
  | 2 => boolNat r.faultFlag
  | 3 => r.smoke.code
  | 4 => r.heat.code
  | 5 => (((z.battery.map g.gas.get).bind (·.reading)).getD 0 : Nat)
  | 6 => (r.releaseTimer.getD 0 : Nat)
  | _ => (r.testTimer.getD 0 / 1000 + 65536 * boolNat r.pulseTimer.isSome : Nat)

def Fgu.read (g : Fgu) (i : Nat) : Int :=
  match Zone.ofNum ((i - 128) / 8) with
  | some z => g.zoneRead z (i % 8)
  | none =>
    match i with
    | 152 => g.stationStage.code
    | 153 => 2 * boolNat g.callConfirmed + boolNat g.callRaw
    | 154 => boolNat g.holdPressed
    | _ => 0

end Sys2Proof.Machine
end

