-- ==== Sys2Proof/Machine/Gwm.lean ====
section
/-! DEFINITION. GWM, the grid window monitor (R100 to R106). -/

namespace Sys2Proof.Machine

def Device.modGwm (f : Gwm → Gwm) (d : Device) : Device := { d with gwm := f d.gwm }

/-! ## Classification (R100) -/

/-- R100: the ratio of a phase voltage to V_NOM, in per-mille. -/
def phaseRatio (nom v : Int) : Int := 1000 * v / nom

/-- R100: the voltage band of a ratio. -/
def Device.voltBand (d : Device) (r : Int) : VoltBand :=
  if r < d.item .t10 2 then .lowTrip
  else if r < d.item .t10 3 then .lowRide
  else if r ≤ d.item .t10 4 then .normal
  else if r ≤ d.item .t10 5 then .highRide
  else .highTrip

/-- A phase's band and ratio. -/
structure PhaseClass where
  band : VoltBand
  ratio : Int

/-- R100: the worse of two phases: the more severe band, then the ratio farther from 1000, then the lower ratio. -/
def PhaseClass.worse (a b : PhaseClass) : PhaseClass :=
  let da := (a.ratio - 1000).natAbs
  let db := (b.ratio - 1000).natAbs
  if a.band.code ≠ b.band.code then (if a.band.code < b.band.code then b else a)
  else if da ≠ db then (if da < db then b else a)
  else if b.ratio < a.ratio then b else a

/-- R100: the frequency band, the settings raised by 10000 at 60 Hz. -/
def Device.freqBand (d : Device) (f : Int) : FreqBand :=
  let at60 := if d.item .t10 1 = 1 then 10000 else 0
  let set (i : Nat) : Int := d.item .t10 i + at60
  if f < set 9 ∨ set 12 < f then .trip
  else if f < set 10 ∨ set 11 < f then .ride
  else .normal

/-- R100: the classification of a bus record. -/
def Device.classify (d : Device) (r : BusRecord) : GridClass :=
  let phase (v : Int) : PhaseClass :=
    let ratio := phaseRatio (d.item .t10 0) v
    ⟨d.voltBand ratio, ratio⟩
  let w := ((phase r.phase1).worse (phase r.phase2)).worse (phase r.phase3)
  ⟨w.band, w.ratio, d.freqBand r.freq⟩

def GridClass.isNormal (c : GridClass) : Bool := c.volt == .normal && c.freq == .normal

/-! ## Entries into states -/

/-- R101: a change of state goes to ENV and SWC. -/
def Device.setWindow (w : WindowState) (d : Device) : Device :=
  ((d.modGwm fun g => { g with window := w }).post (.envelopeRecomputation (.window w))).post (.gridWindowHandoffSwc w)

/-- HOLD_OFF_TIME in ms. -/
def Device.holdOffTime (d : Device) : Nat := 1000 * d.itemNat .t10 15

/-- The hold-off timer at its full time, running or held. -/
def Device.fullHoldOff (running : Bool) (d : Device) : Device :=
  d.modGwm fun g => { g with holdOffLeft := d.holdOffTime, holdOffRunning := running }

def Device.stopGridTimers (d : Device) : Device := d.modGwm fun g => { g with ride := none, trip := none }

/-- R104: HOLD_OFF, its timer running where the last record was normal and the bus record is fresh. -/
def Device.enterHoldOff (d : Device) : Device :=
  ((d.stopGridTimers).fullHoldOff (d.gwm.last.any (·.isNormal) && !d.gwm.busStale)).setWindow .holdOff

/-- R101: PERMITTED is lost: HOLD_OFF with the timer held, and a breaker in CLOSING is forced open. -/
def Device.losePermission (d : Device) : Device :=
  ((d.fullHoldOff false).setWindow .holdOff).postIf (d.gwm.breaker == .closing) .forcedOpen

/-- R103: a trip. -/
def Device.gridTrip (detail : Nat) (d : Device) : Device :=
  (((d.stopGridTimers).raise .gridTrip (.switch .g) (some detail)).post .forcedOpen).setWindow .tripped

/-! ## Ride-through (R102) -/

/-- The least of a limit that may be absent and another. -/
def leastLimit (a : Option Nat) (b : Nat) : Option Nat := some (match a with | none => b | some x => min x b)

/-- R102: the limits of the ride-through bands a record is in. -/
def Device.rideLimits (d : Device) (c : GridClass) : List Nat :=
  (match c.volt with
    | .lowRide => [d.itemNat .t10 7]
    | .highRide => [d.itemNat .t10 8]
    | _ => []) ++ (if c.freq = .ride then [d.itemNat .t10 14] else [])

/-- A delay and the band that gives it. -/
structure TripBand where
  delay : Nat
  cause : TripCause

/-- R102, R103: the delayed trip band of a record with the shorter delay; the low voltage band of two with the same. -/
def Device.tripBand (d : Device) (c : GridClass) : Option TripBand :=
  let volt := d.itemNat .t10 6
  let freq := d.itemNat .t10 13
  if c.volt = .lowTrip then
    if c.freq = .trip ∧ freq < volt then some ⟨freq, .frequency⟩ else some ⟨volt, .lowVoltage⟩
  else if c.freq = .trip then some ⟨freq, .frequency⟩
  else none

/-- R102: the trip-delay timer after a record. Between bands of one delay the low voltage band is reported before the frequency band, and
a later band whose shorter delay has passed already takes its trip at the timer's expiry, which is due at once (DEDUCED, log 26): R102
says "trips at that record" of the ride-through limit alone. -/
def nextTrip (t : Option TripTimer) (b : Option TripBand) : Option TripTimer :=
  match b, t with
  | none, _ => none
  | some b, none => some ⟨0, b.delay, b.cause⟩
  | some b, some t =>
    if b.delay < t.delay ∨ (b.delay = t.delay ∧ b.cause = .lowVoltage ∧ t.cause = .frequency) then
      some { t with delay := b.delay, cause := b.cause }
    else some t

/-- R102: a record outside the normal band and below the high trip, in RIDE_THROUGH: both timers follow it. -/
def Device.rideRecord (c : GridClass) (d : Device) : Device :=
  let t := d.gwm.ride.getD ⟨0, none⟩
  let limit := (d.rideLimits c).foldl leastLimit t.limit
  if limit.any (· < t.elapsed) then d.gridTrip 3
  else
    let band := d.tripBand c
    d.modGwm fun g => { g with ride := some { t with limit := limit }, trip := nextTrip g.trip band }

/-- R101, R102: a classified record, by the window state. -/
def Device.windowRecord (c : GridClass) (d : Device) : Device :=
  match d.gwm.window with
  | .holdOff =>
    if c.isNormal then d.modGwm fun g => { g with holdOffRunning := true } else d.fullHoldOff false
  | .permitted => if c.isNormal then d else d.losePermission
  | .inWindow =>
    if c.isNormal then d
    else if c.volt = .highTrip then d.gridTrip 1
    else ((d.stopGridTimers).setWindow .rideThrough).rideRecord c
  | .rideThrough =>
    if c.isNormal then (d.stopGridTimers).setWindow .inWindow
    else if c.volt = .highTrip then d.gridTrip 1
    else d.rideRecord c
  | .tripped => d

/-- GRID_RECORD (R100). -/
def execGridRecord (r : BusRecord) (s : State) : Out :=
  s.next fun d =>
    let d := d.took (.gridRecord r)
    let c := d.classify r
    (d.modGwm fun g => { g with last := some c, busStale := false }).windowRecord c

/-- R102: a stopped trip-delay timer starts at 200 ms at the onset of staleness. -/
def Device.staleDelay (d : Device) : Device :=
  d.modGwm fun g =>
    { g with ride := some (g.ride.getD ⟨0, none⟩), trip := some (g.trip.getD ⟨0, 200, .busStale⟩) }

/-- GWM_BUS_STALE (R101, R102). -/
def execGwmBusStale (s : State) : Out :=
  s.next fun d =>
    let d := (d.took .gwmBusStale).modGwm fun g => { g with busStale := true }
    match d.gwm.window with
    | .holdOff => d.fullHoldOff false
    | .permitted => d.losePermission
    | .inWindow => ((d.stopGridTimers).setWindow .rideThrough).staleDelay
    | .rideThrough => d.staleDelay
    | .tripped => d

/-- BREAKER_REPORT_GWM (R104). -/
def execBreakerReportGwm (st : SwitchState) (s : State) : Out :=
  s.next fun d =>
    let d := (d.took (.breakerReportGwm st)).modGwm fun g => { g with breaker := st }
    match d.gwm.window with
    | .holdOff => d.postIf (st == .closed) .forcedOpen
    | .permitted => d.when (st == .closed) (·.setWindow .inWindow)
    | .inWindow | .rideThrough | .tripped => d.when (st != .closed) (·.enterHoldOff)

/-- HOLD_OFF_EXPIRY (R101). -/
def execHoldOffExpiry (s : State) : Out :=
  s.next fun d => d.when (d.gwm.window == .holdOff && d.gwm.holdOffRunning) fun d =>
    ((d.modGwm fun g => { g with holdOffLeft := 0, holdOffRunning := false }).raise .gridReconnectPermitted
      (.switch .g) none).setWindow .permitted

/-- RIDE_THROUGH_EXPIRY (R102). -/
def execRideThroughExpiry (s : State) : Out :=
  s.next fun d => d.when (d.gwm.window == .rideThrough && d.gwm.ride.any (·.limit.isSome)) (·.gridTrip 3)

/-- R103: the detail of a trip-delay expiry. -/
def TripCause.detail : TripCause → Nat
  | .lowVoltage => 2 | .frequency => 4 | .busStale => 5

/-- TRIP_DELAY_EXPIRY (R102, R103). -/
def execTripDelayExpiry (s : State) : Out :=
  s.next fun d =>
    match d.gwm.trip with
    | some t => d.when (d.gwm.window == .rideThrough) (·.gridTrip t.cause.detail)
    | none => d

/-! ## Table 7, indexes 42 to 49 (R106) -/

/-- The time left in RIDE_THROUGH. A timer that runs and has no limit yet reads 0: R106 gives 0 only for one that does not run (DEDUCED,
log 38). -/
def RideTimer.left (t : RideTimer) : Nat := (t.limit.map (· - t.elapsed)).getD 0

def TripTimer.left (t : TripTimer) : Nat := t.delay - t.elapsed

def Gwm.read (g : Gwm) (i : Nat) : Int :=
  match i with
  | 42 => g.window.code
  | 43 => ((g.last.map (·.volt.code)).getD 0 : Nat)
  | 44 => (g.last.map (·.ratio)).getD 0
  | 45 => ((g.last.map (·.freq.code)).getD 0 : Nat)
  | 46 => g.holdOffLeft
  | 47 => boolNat g.holdOffRunning
  | 48 => ((g.ride.map (·.left)).getD 0 : Nat)
  | _ => ((g.trip.map (·.left)).getD 0 : Nat)

end Sys2Proof.Machine
end

