-- ==== Sys2Proof/Machine/Swc.lean ====
section
/-! DEFINITION. SWC, the switching controller (R80 to R99). -/

namespace Sys2Proof.Machine

/-! ## Access -/

def Device.sw (d : Device) (n : SwitchId) : SwitchRec := d.swc.switches.get n

def Device.modSwc (f : Swc → Swc) (d : Device) : Device := { d with swc := f d.swc }

def Device.modSw (n : SwitchId) (f : SwitchRec → SwitchRec) (d : Device) : Device :=
  d.modSwc fun c => { c with switches := c.switches.set n (f (c.switches.get n)) }

/-- The drives commanded in a switch state (R80): pre-charge contactor, and main contactor or breaker. -/
structure Drives where
  precharge : Bool
  main : Bool
  deriving DecidableEq, Repr

/-- R80. -/
def drivesOf (n : SwitchId) (st : SwitchState) : Drives :=
  match st with
  | .precharging => ⟨true, false⟩
  | .closing => ⟨n != .g, true⟩
  | .closed => ⟨false, true⟩
  | .opened | .opening | .welded => ⟨false, false⟩

/-- OPEN or WELDED. -/
def Device.atRest (d : Device) (n : SwitchId) : Bool :=
  (d.sw n).state == .opened || (d.sw n).state == .welded

def Device.isolationOn (d : Device) : Bool := d.item .t11 16 == 1

/-! ## Close inhibits (R82, R83) -/

/-- The string voltage of R82: 0 without a delivered record. -/
def Device.stringVoltage (d : Device) (s : StringId) : Int := ((d.swc.samples.get s).map (·.voltage)).getD 0

/-- MISMATCH: another string is CLOSED and the voltages differ by more than JOIN_WINDOW. -/
def Device.mismatched (d : Device) (s : StringId) : Bool :=
  StringId.all.any (fun o => o != s && (d.sw o.switch).state == .closed) &&
    decide (d.item .t11 18 < ((d.stringVoltage s - d.swc.busVoltage).natAbs : Int))

/-- R82, R83: the inhibits present now. -/
def Device.inhibitsNow (d : Device) (n : SwitchId) : Inhibits :=
  let common : Inhibits :=
    { Inhibits.none with
      fire := d.swc.fireStage.grave
      failed := (d.sw n).failure
      isolation := d.isolationOn
      busStale := d.swc.busStale }
  match n.string with
  | some s => { common with health := d.swc.health.get s != .available, mismatch := d.mismatched s }
  | none =>
    { common with
      gridHoldOff := d.swc.window != .permitted
      noString := !StringId.all.any fun s => (d.sw s.switch).state == .closed
      converterStanding := d.standing .converter != .inStanding }

/-- R83: the inhibit sets of all five switches derived afresh. -/
def Device.deriveInhibits (d : Device) : Device :=
  d.modSwc fun c =>
    { c with switches := .ofFn fun n => { c.switches.get n with inhibits := d.inhibitsNow n } }

/-! ## Changes of state and their reports (R97) -/

/-- The report of a string's state and open-pending condition to ENV. -/
def Device.reportString (s : StringId) (d : Device) : Device :=
  let r := d.sw s.switch
  d.post (.envelopeRecomputation (.stringSwitch s r.state r.openDelay.isSome))

/-- R97: the reports of a change of state. DU takes the breaker's in this event. -/
def Device.reportState (n : SwitchId) (d : Device) : Device :=
  let st := (d.sw n).state
  match n.string with
  | some s => (d.reportString s).post (.stringStateReportClc s st)
  | none => ((d.post (.envelopeRecomputation (.breaker st))).post (.breakerReportGwm st)).duBreakerChanged

/-- A change of state: the selection goes (R85), open-pending ends (R94), the operation timer is that of the new state, a breaker's
change ends the isolation timer (log 15), and the reports go out. -/
def Device.changeState (n : SwitchId) (st : SwitchState) (timer : Option Nat) (d : Device) : Device :=
  let d := d.modSw n fun r => { r with state := st, selection := none, openDelay := none, timer := timer }
  (d.when (n == .g) (·.modSwc fun c => { c with isolationTimer := none })).reportState n

def Device.setResult (n : SwitchId) (r : LastResult) (d : Device) : Device :=
  d.modSw n fun x => { x with lastResult := r }

/-- R88, R89, R90, R81: an operation that failed, or a dropout: OPEN, the failure flag, the last result failed, SWITCH_FAILED. -/
def Device.failOpen (n : SwitchId) (detail : Nat) (d : Device) : Device :=
  (((d.changeState n .opened none).modSw n fun r => { r with failure := true, lastResult := .failed }).raise
    .switchFailed (.switch n) (some detail))

/-- R91: the end of an opening. R91 keeps the last result aborted after an abort; where a warm restart has meanwhile cleared it to none
(R107), the opening ends with done (DEDUCED, log 45). -/
def Device.finishOpen (n : SwitchId) (d : Device) : Device :=
  ((d.changeState n .opened none).modSw n fun r =>
    { r with lastResult := if r.lastResult = .aborted then .aborted else .done }).raise .switchDone (.switch n) (some 2)

/-- R91: OPENING, or OPEN at once where the feedback already shows open (log 17). -/
def Device.enterOpening (n : SwitchId) (d : Device) : Device :=
  if d.pins.feedback.get n then d.changeState n .opening (some n.feedbackTime) else d.finishOpen n

/-- R91, R92: a weld: WELDED, SWITCH_FAILED, and the report to CSU or the breaker's failure flag (log 16). -/
def Device.weld (n : SwitchId) (d : Device) : Device :=
  let d := ((d.changeState n .welded none).setResult n .failed).raise .switchFailed (.switch n) (some 3)
  match n.string with
  | some s => d.post (.weldReport s)
  | none => d.modSw n fun r => { r with failure := true }

/-! ## Forced operations (R93) and the isolation sequence (R99) -/

def Device.dropSelection (n : SwitchId) (d : Device) : Device := d.modSw n fun r => { r with selection := none }

/-- R93: a forced open, by the switch's state. -/
def Device.forceOpen (n : SwitchId) (d : Device) : Device :=
  match (d.sw n).state with
  | .closed => d.enterOpening n
  | .precharging | .closing => (d.setResult n .aborted).enterOpening n
  | .opened | .opening | .welded => d.dropSelection n

/-- R99, steps 3 and 4, while ISOLATING. -/
def Device.isolationStep (d : Device) : Device :=
  d.when (d.swc.isolation == .isolating) fun d =>
    let d := d.when (d.atRest .g) fun d => d.each StringId.all fun s d =>
      d.when ((d.sw s.switch).state == .closed) (·.forceOpen s.switch)
    d.when (SwitchId.all.all d.atRest) fun d => d.modSwc fun c => { c with isolation := .isolated }

/-- The end of each event at SWC: the isolation sequence follows, and the inhibit sets are derived. -/
def Device.swcEnd (d : Device) : Device := d.isolationStep.deriveInhibits

/-- R99, steps 1 and 2, and what follows at the start. -/
def Device.isolationStart (d : Device) : Device :=
  let d := d.modSwc fun c => { c with isolation := .isolating }
  let d := d.each SwitchId.all fun n d =>
    d.when ((d.sw n).state == .precharging || (d.sw n).state == .closing) (·.forceOpen n)
  (d.when d.breakerClosed (·.modSwc fun c => { c with isolationTimer := some 2000 })).swcEnd

/-- R98: the write of the isolation request, its value in 0..1. -/
def swcIsolationWrite (v : Int) (d : Device) : Device × Answer :=
  let on := v == 1
  let taken (d : Device) : Device := (d.setItem .t11 16 v).post (.envelopeRecomputation (.isolation on))
  match d.swc.isolation with
  | .isolating => (d, .stateOpen)
  | .released => if on then ((taken d).isolationStart, .ok v) else ((taken d).swcEnd, .ok v)
  | .isolated =>
    if on then (taken d, .ok v)
    else (((taken d).modSwc fun c => { c with isolation := .released }).swcEnd, .ok v)

/-! ## Feedback and operation timers (R81, R88 to R92) -/

/-- FEEDBACK_CHANGE (R81). A level already held is no change. A weld that clears leaves the last result as it stands (R92), none where a
reset has cleared it (DEDUCED, log 45). -/
def execFeedbackChange (n : SwitchId) (shut : Bool) (s : State) : Out :=
  s.next fun d => d.when (d.pins.feedback.get n != shut) fun d =>
    let d := { d with pins := { d.pins with feedback := d.pins.feedback.set n shut } }
    let d :=
      match (d.sw n).state, shut with
      | .opened, true | .precharging, true => d.weld n
      | .closing, true =>
        ((d.changeState n .closed none).modSw n fun r => { r with badJoin := false, lastResult := .done }).raise
          .switchDone (.switch n) (some 1)
      | .closed, false => d.failOpen n 4
      | .opening, false => d.finishOpen n
      | .welded, false => (d.changeState n .opened none).raise .switchDone (.switch n) (some 3)
      | _, _ => d
    d.swcEnd

/-- PRECHARGE_EXPIRY (R88). -/
def execPrechargeExpiry (n : StringId) (s : State) : Out :=
  s.next fun d => d.when ((d.sw n.switch).state == .precharging) fun d => (d.failOpen n.switch 1).swcEnd

/-- CLOSE_FEEDBACK_EXPIRY (R89, R90). -/
def execCloseFeedbackExpiry (n : SwitchId) (s : State) : Out :=
  s.next fun d => d.when ((d.sw n).state == .closing) fun d => (d.failOpen n 2).swcEnd

/-- OPEN_FEEDBACK_EXPIRY (R91). -/
def execOpenFeedbackExpiry (n : SwitchId) (s : State) : Out :=
  s.next fun d => d.when ((d.sw n).state == .opening) fun d => (d.weld n).swcEnd

/-- OPEN_DELAY_EXPIRY (R94). -/
def execOpenDelayExpiry (n : StringId) (s : State) : Out :=
  s.next fun d => d.when (d.sw n.switch).openDelay.isSome fun d => (d.forceOpen n.switch).swcEnd

/-- SELECT_EXPIRY (R86). -/
def execSelectExpiry (n : SwitchId) (s : State) : Out :=
  s.next fun d => d.when (d.sw n).selection.isSome fun d => (d.dropSelection n).setResult n .selectExpired

/-- ISOLATION_TIMER_EXPIRY (R99). -/
def execIsolationTimerExpiry (s : State) : Out :=
  s.next fun d => d.when d.swc.isolationTimer.isSome fun d =>
    ((d.modSwc fun c => { c with isolationTimer := none }).forceOpen .g).swcEnd

/-- ISOLATION_CONVERTER_REPORT (R99): the first report of at most OVR_ABS opens the breaker. -/
def execIsolationConverterReport (kw : Int) (s : State) : Out :=
  s.next fun d =>
    let d := d.took (.isolationConverterReport kw)
    d.when (d.swc.isolationTimer.isSome && decide ((kw.natAbs : Int) ≤ d.item .t5 5)) fun d =>
      ((d.modSwc fun c => { c with isolationTimer := none }).forceOpen .g).swcEnd

/-! ## Records (R82, R88, R94, R95) -/

/-- SWC_SCAN_RECORD: the sample is held, and a low current ends an open-pending wait. -/
def execSwcScanRecord (n : StringId) (current voltage : Int) (s : State) : Out :=
  s.next fun d =>
    let d := (d.took (.swcScanRecord n current voltage)).modSwc fun c =>
      { c with samples := c.samples.set n (some ⟨current, voltage⟩) }
    (d.when ((d.sw n.switch).openDelay.isSome && decide (current.natAbs ≤ 20)) (·.forceOpen n.switch)).swcEnd

/-- R88: a bus record judged for a string in PRECHARGING. -/
def Device.judgeMatch (s : StringId) (d : Device) : Device :=
  d.when ((d.sw s.switch).state == .precharging &&
      decide (((d.swc.busVoltage - d.stringVoltage s).natAbs : Int) ≤ d.item .t11 19)) fun d =>
    d.changeState s.switch .closing (some 200)

/-- SWC_BUS_RECORD (R82, R88). -/
def execSwcBusRecord (dc : Int) (s : State) : Out :=
  s.next fun d =>
    let d := (d.took (.swcBusRecord dc)).modSwc fun c => { c with busVoltage := dc, busStale := false }
    (d.each StringId.all Device.judgeMatch).swcEnd

/-- SWC_MONITOR_LOSS (R95). -/
def execSwcMonitorLoss (n : StringId) (s : State) : Out :=
  s.next fun d =>
    let d := (d.took (.swcMonitorLoss n)).modSwc fun c => { c with samples := c.samples.set n none }
    let st := (d.sw n.switch).state
    (d.when (st == .precharging || st == .closing) (·.modSw n.switch fun r => { r with interrupted := true })).swcEnd

/-- SWC_BUS_STALE (R15). -/
def execSwcBusStale (s : State) : Out :=
  s.next fun d => ((d.took .swcBusStale).modSwc fun c => { c with busStale := true }).swcEnd

/-! ## Hand-offs (R30 to R32, R93, R94) -/

/-- R94, R95: a soft trip that comes with health h. -/
def Device.softTrip (s : StringId) (h : Health) (d : Device) : Device :=
  let r := d.sw s.switch
  match r.state with
  | .closed =>
    d.when r.openDelay.isNone fun d =>
      (d.modSw s.switch fun r => { r with openDelay := some 500 }).reportString s
  | .precharging | .closing =>
    (d.when (h == .absent) (·.modSw s.switch fun r => { r with interrupted := true })).forceOpen s.switch
  | .opened | .opening | .welded => d

/-- HEALTH_HANDOFF_SWC: a change to LOCKED_OUT forces the string open (R32), a fall from AVAILABLE is a soft trip (R31). -/
def execHealthHandoffSwc (n : StringId) (h : Health) (s : State) : Out :=
  s.next fun d =>
    let d := d.took (.healthHandoffSwc n h)
    let old := d.swc.health.get n
    let d := d.modSwc fun c => { c with health := c.health.set n h }
    let d :=
      if h = .lockedOut ∧ old ≠ .lockedOut then d.forceOpen n.switch
      else if old = .available ∧ h ≠ .available then d.softTrip n h
      else d
    d.swcEnd

/-- FIRE_STAGE_HANDOFF_SWC: entry into ALARM or RELEASED forces all five open (R93). -/
def execFireStageHandoffSwc (st : FireStage) (s : State) : Out :=
  s.next fun d =>
    let d := d.took (.fireStageHandoffSwc st)
    let entered := st.forces && d.swc.fireStage != st
    let d := d.modSwc fun c => { c with fireStage := st }
    (d.when entered (·.each SwitchId.all Device.forceOpen)).swcEnd

/-- FORCED_OPEN: the breaker is forced open for GWM or DU (R74, R93). -/
def execForcedOpen (s : State) : Out :=
  s.next fun d => ((d.took .forcedOpen).forceOpen .g).swcEnd

/-- GRID_WINDOW_HANDOFF_SWC (R83). -/
def execGridWindowHandoffSwc (st : WindowState) (s : State) : Out :=
  s.next fun d => ((d.took (.gridWindowHandoffSwc st)).modSwc fun c => { c with window := st }).swcEnd

/-- R85, R83: a change of a port's standing at SWC, taken in the event of the change (R158). -/
def Device.swcStandingChanged (p : Port) (d : Device) : Device :=
  (d.when (d.standing p != .inStanding) fun d => d.each SwitchId.all fun n d =>
    d.when ((d.sw n).selection.any (·.holder == p)) (·.dropSelection n)).swcEnd

/-! ## Select before operate (R84 to R87) -/

def Action.ofValue (v : Word) : Option Action :=
  if v = 1 then some .close else if v = 2 then some .opening else none

def Device.holds (d : Device) (p : Port) (n : SwitchId) : Bool := (d.sw n).selection.any (·.holder == p)

/-- R84, R87: the REFUSED answer, its marks on the switch, and the set in its value. -/
def Device.refuse (n : SwitchId) (d : Device) : Device × Answer :=
  let set := (d.sw n).inhibits
  (d.modSw n fun r => { r with lastResult := .refused, badJoin := r.badJoin || set.mismatch },
    ⟨.refused, some (word set.code)⟩)

/-- The action's end state. -/
def Action.endState : Action → SwitchState
  | .close => .closed | .opening => .opened

/-- R84: the checks of SELECT on a known switch and action, in order. -/
def Device.selectOn (p : Port) (n : SwitchId) (a : Action) (d : Device) : Device × Answer :=
  let r := d.sw n
  if !d.mayRight p n then (d, .no .denied)
  else if d.standing p ≠ .inStanding then (d, .no .noStanding)
  else if SwitchId.all.any (d.holds p) then (d, .stateOpen)
  else if r.selection.isSome || r.state.moving then (d, .no .busy)
  else if r.state = a.endState ∨ r.state = .welded then (d, .stateOpen)
  else if a = .close ∧ r.inhibits.any then d.refuse n
  else (d.modSw n fun r => { r with selection := some ⟨p, a, 1000 * d.itemNat .t11 17⟩ }, .done)

/-- R84: SELECT. -/
def swcSelect (p : Port) (index : Byte) (v : Word) (d : Device) : Device × Answer :=
  match SwitchId.ofNum index.toNat with
  | none => (d, .no .unknownItem)
  | some n =>
    match Action.ofValue v with
    | none => (d, .no .range)
    | some a => d.selectOn p n a

/-- R87: the operation starts from the switch's present state. -/
def Device.startOperation (n : SwitchId) (a : Action) (d : Device) : Device :=
  match a with
  | .close =>
    let d := d.modSw n fun r => { r with interrupted := false }
    match n with
    | .g => d.changeState n .closing (some 150)
    | n => d.changeState n .precharging (some 5000)
  | .opening => d.enterOpening n

/-- R87: the checks of OPERATE on a known switch and action, in order. -/
def Device.operateOn (p : Port) (n : SwitchId) (a : Action) (d : Device) : Device × Answer :=
  let held := (d.sw n).selection
  if d.standing p ≠ .inStanding then (d, .no .noStanding)
  else if !held.any (fun x => x.holder == p && x.action == a) then
    (d.when (d.holds p n) (·.dropSelection n), .stateOpen)
  else if a = .close ∧ (d.sw n).inhibits.any then (d.dropSelection n).refuse n
  else ((d.startOperation n a).swcEnd, .done)

/-- R87: OPERATE. -/
def swcOperate (p : Port) (index : Byte) (v : Word) (d : Device) : Device × Answer :=
  match SwitchId.ofNum index.toNat with
  | none => (d, .no .unknownItem)
  | some n =>
    match Action.ofValue v with
    | none => (d, .no .range)
    | some a => d.operateOn p n a

/-- R85: CANCEL. -/
def swcCancel (p : Port) (d : Device) : Device × Answer :=
  match SwitchId.all.find? (d.holds p) with
  | some n => (d.dropSelection n, .done)
  | none => (d, .stateOpen)

/-- R96: CLEAR_SWITCH. -/
def swcClear (p : Port) (v : Word) (d : Device) : Device × Answer :=
  match SwitchId.ofNum v.toNat with
  | none => (d, .no .range)
  | some n =>
    if !d.mayRight p n then (d, .no .denied)
    else if d.standing p ≠ .inStanding then (d, .no .noStanding)
    else if (d.sw n).state = .welded then (d, .stateOpen)
    else ((d.modSw n fun r => { r with failure := false, interrupted := false }).swcEnd, .done)

/-! ## Table 7, indexes 0 to 41 and 50 (R106) -/

def SwitchRec.read (r : SwitchRec) (o : Nat) : Int :=
  match o with
  | 0 => r.state.code
  | 1 => ((r.selection.map fun x => x.holder.num + 1).getD 0 : Nat)
  | 2 => ((r.selection.map (·.action.code)).getD 0 : Nat)
  | 3 => ((r.selection.map (·.left)).getD 0 : Nat)
  | 4 => r.lastResult.code
  | 5 => boolNat r.failure + 2 * boolNat r.interrupted + 4 * boolNat r.badJoin + 8 * boolNat r.openDelay.isSome
  | 6 => r.inhibits.code
  | _ => 0

def Device.swcRead (d : Device) (i : Nat) : Int :=
  match SwitchId.ofNum (i / 8) with
  | some n => (d.sw n).read (i % 8)
  | none =>
    match i with
    | 40 => d.swc.isolation.code
    | 41 => d.item .t11 16
    | _ => (d.swc.isolationTimer.getD 0 : Nat)

end Sys2Proof.Machine
end

