-- ==== Sys2Proof/Machine/Sdm.lean ====
section
/-! DEFINITION. SDM, the standing monitor (R154 to R160). -/

namespace Sys2Proof.Machine

def Device.port (d : Device) (p : Port) : PortStanding := d.sdm.ports.get p

def Device.modPort (p : Port) (f : PortStanding → PortStanding) (d : Device) : Device :=
  { d with sdm := { d.sdm with ports := d.sdm.ports.set p (f (d.port p)) } }

/-- PERIOD of a port (R154). -/
def Device.periodOf (d : Device) (p : Port) : Nat := d.itemNat .t11 (2 * p.num)

/-- WINDOW of a port (R154). -/
def Device.windowOf (d : Device) (p : Port) : Nat := d.itemNat .t11 (2 * p.num + 1)

/-- R157, R158: the standing of a port; a change raises STANDING_CHANGED, is taken by SWC and DU in this event, and goes to ENV, BAL
and, for the Site Port, DU's effective order. -/
def Device.setStanding (p : Port) (st : Standing) (d : Device) : Device :=
  d.when (d.standing p != st) fun d =>
    let d := (d.modPort p fun r => { r with standing := st }).raise .standingChanged (.port p) (some st.code)
    let d := (d.swcStandingChanged p).when (p == .converter) (·.duRefresh)
    ((d.post (.envelopeRecomputation (.standing p st))).post (.balStandingHandoff p st)).postIf (p == .site)
      (.siteStandingHandoff st)

/-- The forfeit count after one more fall, 0..3. -/
def nextForfeits (n : Nat) : Nat := min 3 (n + 1)

/-- R157: the standing after a miss; the count is the forfeit count before it. -/
def standingAfterMiss (st : Standing) (forfeits : Nat) : Standing :=
  match st with
  | .inStanding => .lapsed
  | .lapsed => if nextForfeits forfeits = 3 then .barred else .forfeit
  | st => st

/-- R157: a miss of a kind: the challenge is closed, the miss counted, and the standing falls. -/
def Device.miss (p : Port) (kind : MissKind) (d : Device) : Device :=
  let r := d.port p
  let st := standingAfterMiss r.standing r.forfeits
  (d.modPort p fun r =>
    { r with
      outstanding := false
      deadline := none
      lastMiss := kind
      misses := countUp 65535 r.misses
      forfeits := if r.standing = .lapsed then nextForfeits r.forfeits else r.forfeits }).setStanding p st

/-- R155: the token after another. -/
def nextToken (t : Option Byte) : Byte :=
  match t with
  | none => 0x3C#8
  | some t => t * 5#8 + 1#8

/-- R155: a challenge is issued. -/
def Device.challenge (p : Port) (d : Device) : Device :=
  d.modPort p fun r =>
    { r with
      token := some (nextToken r.token)
      outstanding := true
      issueGeneration := d.env.generation
      deadline := some (d.windowOf p) }

/-- PERIOD_EXPIRY (R155). A port that the late miss has BARRED is issued nothing (log 12). -/
def execPeriodExpiry (p : Port) (s : State) : Out :=
  s.next fun d =>
    let d := d.modPort p fun r => { r with periodIn := d.periodOf p }
    d.when (d.standing p != .barred) fun d =>
      let d := d.when (d.port p).outstanding (·.miss p .late)
      d.when (d.standing p != .barred) (·.challenge p)

/-- DEADLINE_EXPIRY (R155). -/
def execDeadlineExpiry (p : Port) (s : State) : Out :=
  s.next fun d => d.when ((d.port p).outstanding && (d.port p).deadline.isSome) (·.miss p .late)

/-- Port number as a byte. -/
def portByte (p : Port) : Byte := BitVec.ofNat 8 p.num

/-- R156: the correct answer byte. -/
def answerByte (p : Port) (token : Byte) : Byte := 255#8 - token + portByte p

/-- R156: the acknowledged generation is in step, counted back from the generation now. -/
def inStep (now issue ack : BitVec 16) : Bool := (now - ack).toNat ≤ (now - issue).toNat

/-- R156: the standing after a correct, in-step answer. -/
def standingAfterAnswer : Standing → Standing
  | .unchecked | .inStanding | .lapsed => .inStanding
  | st => st

/-- R156: ANSWER. -/
def sdmAnswer (p : Port) (v : Word) (d : Device) : Device × Answer :=
  if 0xFFFFFF < v.toNat then (d, .no .range)
  else
    let r := d.port p
    if !r.outstanding then (d.miss p .unasked, .state 3)
    else if v.extractLsb' 16 8 ≠ answerByte p (r.token.getD 0) then (d.miss p .wrong, .state 1)
    else if !inStep d.env.generation r.issueGeneration (v.extractLsb' 0 16) then (d.miss p .stale, .state 2)
    else
      let st := standingAfterAnswer r.standing
      ((d.modPort p fun r => { r with outstanding := false, deadline := none }).setStanding p st, .ok st.code)

/-- R159: the link reset of a port reaches its standing record. -/
def Device.readmit (p : Port) (d : Device) : Device :=
  (d.modPort p fun r =>
    { r with token := none, outstanding := false, deadline := none, periodIn := d.periodOf p }).setStanding p
    (if d.standing p = .barred then .barred else .unchecked)

/-! ## Table 14, indexes 160 to 191 (R160) -/

def PortStanding.read (r : PortStanding) (o : Nat) : Int :=
  match o with
  | 0 => r.standing.code
  | 1 => boolNat r.outstanding
  | 2 => ((r.token.map (·.toNat)).getD 256 : Nat)
  | 3 => r.issueGeneration.toNat
  | 4 => (r.deadline.getD 0 : Nat)
  | 5 => r.forfeits
  | 6 => r.lastMiss.code
  | _ => r.misses

def Sdm.read (m : Sdm) (i : Nat) : Int :=
  match (i - 160) / 8 with
  | 0 => m.ports.cell.read (i % 8)
  | 1 => m.ports.converter.read (i % 8)
  | 2 => m.ports.site.read (i % 8)
  | _ => 0

end Sys2Proof.Machine
end

