-- ==== Sys2Proof/Machine/Sto.lean ====
section
/-! DEFINITION. STO, the setting store (R174 to R177, R180), and the parts of its integrity check (R179); restarts are in Reset.lean. -/

namespace Sys2Proof.Machine

def Device.modSto (f : Sto → Sto) (d : Device) : Device := { d with sto := f d.sto }

/-! ## The engine (R174, R177) -/

def Engine.idles : Engine → Bool
  | .idle => true
  | _ => false

/-- R177: the lockout cause sets and released flags as CSU and FGU hold them. -/
def Device.recordNow (d : Device) : StandingRecord :=
  ⟨d.csu.strings.map (·.causes), d.fgu.zones.map fun z => z.stage == .released⟩

/-- R175, R177: the engine begins an operation that takes a time in ms. -/
def Sto.begin (e : Engine) (time : Nat) (x : Sto) : Sto :=
  { x with engine := e, opTimer := some time, operations := x.operations + 1 }

/-- R177: the engine becomes UPDATING with the state as it stands, for 20 ms, and the update-pending flag is cleared. -/
def Device.startUpdate (d : Device) : Device :=
  d.modSto fun x => { x.begin (.updating d.recordNow) 20 with updatePending := false }

/-- R175: the time that programming a table takes, 20 to 60 ms (log 22). -/
def Sto.storeTime (x : Sto) : Nat := 20 + Config.storeTime x.operations % 41

/-- R175, R177: after an operation the engine goes to a pending update, or else to IDLE. -/
def Device.proceed (d : Device) : Device :=
  if d.sto.updatePending then d.startUpdate else d.modSto fun x => { x with engine := .idle, opTimer := none }

/-- UPDATE_REQUEST (R177). -/
def execUpdateRequest (s : State) : Out :=
  s.next fun d =>
    let d := d.took .updateRequest
    if d.sto.engine.idles then d.startUpdate else d.modSto fun x => { x with updatePending := true }

/-- R175: the outcome of a table store. -/
def Device.storeEnds (t : StoredTable) (ok : Bool) (d : Device) : Device :=
  if ok then
    (d.modSto fun x => { x with copies := x.copies.set t ⟨storedPart t (d.settings.get t), true⟩ }).raise .storeDone
      (.table t.num) none
  else
    (d.modSto fun x =>
      { x with
        copies := x.copies.set t { x.copies.get t with valid := false }
        errors := x.errors.set t true }).raise .storeFailed (.table t.num) (some 1)

/-- R177: the outcome of a standing record update; a failed copy holds a free value (log 20). -/
def Device.updateEnds (r : StandingRecord) (ok : Bool) (d : Device) : Device :=
  if ok then d.modSto fun x => { x with record := r, recordValid := true, recordError := false }
  else
    (d.modSto fun x =>
      { x with
        record := Config.failedRecord x.failures
        recordValid := false
        recordError := true
        failures := x.failures + 1 }).raise .storeFailed (.table 15) (some 3)

/-! ## The integrity check (R179) -/

/-- R179: the working contents of a table, over the items that its copy holds, do not pass the kept check. -/
def Device.checkFails (t : StoredTable) (d : Device) : Bool := d.sto.kept.get t != storedPart t (d.settings.get t)

/-- R179: the order of the checks. -/
def StoredTable.next : StoredTable → StoredTable
  | .t2 => .t3 | .t3 => .t5 | .t5 => .t8 | .t8 => .t9 | .t9 => .t10 | .t10 => .t11 | .t11 => .t13 | .t13 => .t2

/-- R179: a table found failing. -/
def Device.selfFailed (t : StoredTable) (d : Device) : Device :=
  (d.modSto fun x =>
    { x with restart := x.restart.or (some .self), reload := x.reload.set t true }).raise .storeFailed (.table t.num)
    (some 5)

/-! ## Services (R175, R176, R179) -/

/-- R175: STORE_TABLE. -/
def stoStore (p : Port) (v : Word) (d : Device) : Device × Answer :=
  match StoredTable.ofNum v.toNat with
  | none => (d, .no .range)
  | some t =>
    if !d.canWrite p t.num then (d, .no .denied)
    else if !(d.standing p).trusted then (d, .no .noStanding)
    else if d.sto.errors.get t then (d, .state 1)
    else if !d.sto.engine.idles || d.sto.updatePending || d.sto.restart.isSome then (d, .no .busy)
    else (d.modSto fun x => x.begin (.storing t) x.storeTime, .done)

/-- R176: CLEAR_STORE_STATUS. -/
def stoClear (p : Port) (v : Word) (d : Device) : Device × Answer :=
  if v.toNat = 15 then
    if p ≠ .site then (d, .no .denied)
    else if !(d.standing p).trusted then (d, .no .noStanding)
    else (d.modSto fun x => { x with recordError := false }, .done)
  else
    match StoredTable.ofNum v.toNat with
    | none => (d, .no .range)
    | some t =>
      if !d.canWrite p t.num then (d, .no .denied)
      else if !(d.standing p).trusted then (d, .no .noStanding)
      else (d.modSto fun x => { x with errors := x.errors.set t false }, .done)

/-! ## Table 14, indexes 192 to 202 (R180) -/

def Engine.code : Engine → Nat
  | .idle => 0 | .storing _ => 1 | .updating _ => 2

def Engine.storingNum : Engine → Nat
  | .storing t => t.num
  | _ => 0

def restartCode : Option RestartCause → Nat
  | none => 0
  | some .service => 1
  | some .self => 2

def Sto.read (x : Sto) (i : Nat) : Int :=
  match i with
  | 192 => x.engine.code
  | 193 => x.engine.storingNum
  | 194 => boolNat x.updatePending
  | 195 => restartCode x.restart
  | 196 => tableCode x.errors + 32768 * boolNat x.recordError
  | 197 => causesCode x.record.causes.s0
  | 198 => causesCode x.record.causes.s1
  | 199 => causesCode x.record.causes.s2
  | 200 => causesCode x.record.causes.s3
  | 201 => boolNat x.record.released.z0 + 2 * boolNat x.record.released.z1 + 4 * boolNat x.record.released.z2
  | _ => boolNat x.recordValid

end Sys2Proof.Machine
end

