-- ==== Sys2Proof/Machine/Reset.lean ====
section
/-! DEFINITION. Power-on reset and warm restart (R178, R179, and the reset tables R18, R38, R62, R79, R107, R125, R143, R153, R161, R173,
R180), and what sets a restart pending or lets it take effect: RESTART, the completions of the engine, the integrity check. -/

namespace Sys2Proof.Machine

/-! ## What both resets share -/

/-- R38: a channel record takes limit and hold from table 2. -/
def Device.freshChannel (d : Device) (k : Channel) (pinned : Bool) : ChannelRec :=
  ⟨if pinned then 255 else 0, pinned, pinned, d.limitOf k, d.holdOf k⟩

/-- R62: ENV's inputs as the source blocks hold them, and the initial computation, which steps no generation and raises nothing. -/
def Device.startEnv (d : Device) : Device :=
  (d.modEnv fun _ =>
    { Env.reset with
      strings := .ofFn fun s => ⟨none, (d.sup s).health, (d.sw s.switch).state, false⟩
      cellStanding := d.standing .cell
      fireStage := d.fgu.stationStage
      fireTest := d.fgu.testing
      breaker := d.swc.switches.g.state
      isolation := d.isolationOn }).envForm

/-- R79. -/
def Device.startDu (d : Device) : Device :=
  (d.modDu fun _ => { Du.reset with siteStanding := d.standing .site }).duOrder.duRefresh

/-- R107: SWC's inputs, and the isolation sequence where the request stands on. The fire stage is the one that FGU hands over at the start
(R143). R107 has no row for the string healths and the grid window state that SWC holds; they start as CSU and GWM hold them (DEDUCED,
log 43). -/
def Device.startSwc (d : Device) : Device :=
  let d := d.modSwc fun c =>
    { c with
      samples := .all none
      busVoltage := 0
      busStale := true
      isolation := .released
      isolationTimer := none
      health := d.csu.strings.map (·.health)
      fireStage := d.fgu.stationStage
      window := .holdOff }
  if d.isolationOn then d.isolationStart else d.deriveInhibits

/-- R107: HOLD_OFF with the timer full and held. R107 has no row for the breaker state that GWM holds as last reported; it starts as the
state SWC holds for the breaker at the end of the reset (DEDUCED, log 43). -/
def Device.startGwm (d : Device) : Device :=
  d.modGwm fun _ => { Gwm.reset with holdOffLeft := d.holdOffTime, breaker := d.swc.switches.g.state }

/-- R125: the zone stages and switch states that FGU and SWC hold, table 8 as it stands, the pump want and the outputs. -/
def Device.startClc (d : Device) : Device :=
  (d.modClc fun x =>
    { x with
      zones := d.fgu.shown
      stringClosed := .ofFn fun s => (d.sw s.switch).state == .closed
      settings := d.settings.get .t8 }).formPump.deriveOutputs

/-- R153: the fire stage and the standings as their owners hold them. R153 has no row for the string healths that BAL holds (R145); BAL
starts with CSU's, as SWC does by log 43 (DEDUCED, log 40). -/
def Device.startBal (d : Device) : Device :=
  d.modBal fun b =>
    { b with
      thermalHold := false
      fireStage := d.fgu.stationStage
      standings := d.sdm.ports.map (·.standing)
      health := d.csu.strings.map (·.health) }

/-- R38: every health derived, with all monitors ABSENT. -/
def Device.startCsu (d : Device) : Device :=
  { d with csu := ⟨.ofFn fun s => { d.sup s with health := d.healthNow s }⟩ }

/-- The blocks that depend on others take their starting inputs; CSU, SWC's states, FGU and SDM stand already. -/
def Device.startBlocks (d : Device) : Device :=
  d.startCsu.startSwc.startBal.startGwm.startEnv.startDu.startClc

/-! ## Power-on (R178) -/

/-- R178: a table takes its stored copy, or its factory defaults where the copy fails; the site order is 0. -/
def loadTable (t : StoredTable) (c : StoredCopy) : List Int :=
  storedPart t (if c.valid then c.contents else factory t)

/-- R39: the causes that pin a channel. -/
def Causes.pins (x : Causes) : Channel → Bool
  | .ov => x.ovHard
  | .uv => x.uvHard
  | .ot => x.otHard
  | _ => false

/-- R38, R39: a string's channels from its loaded cause set. -/
def Device.loadString (d : Device) (causes : Causes) : StringSup :=
  ⟨.ofFn fun k => d.freshChannel k (Causes.pins causes k), causes, .absent, .all false⟩

/-- R107: a switch at power-on; one whose feedback shows closed is WELDED. -/
def loadSwitch (n : SwitchId) (closed : Bool) : SwitchRec :=
  let r := SwitchRec.reset .none
  if closed then { r with state := .welded, failure := n == .g } else r

/-- R143: a loop at power-on. -/
def loadLoop (raw : LoopState) : LoopRec :=
  ⟨raw, .normal, if raw = .normal then none else some (confirmTime raw)⟩

/-- R143: a zone at power-on. -/
def loadZone (r : ZoneRec) (released : Bool) : ZoneRec :=
  { ZoneRec.reset with
    stage := if released then .released else .normal
    smoke := loadLoop r.smoke.raw
    heat := loadLoop r.heat.raw }

/-- R143: FGU at power-on. -/
def loadFgu (g : Fgu) (released : PerZone Bool) : Fgu :=
  let zones : PerZone ZoneRec :=
    ⟨loadZone g.zones.z0 released.z0, loadZone g.zones.z1 released.z1, loadZone g.zones.z2 released.z2⟩
  let h : Fgu :=
    { Fgu.reset with
      zones := zones
      callRaw := g.callRaw
      callTimer := if g.callRaw then some 2000 else none
      holdPressed := g.holdPressed }
  { h with stationStage := h.formStage }

/-- R178, R180: STO at power-on, the kept checks set afresh at the load of the tables (R179). -/
def loadSto (tables : PerTable (List Int)) (x : Sto) : Sto :=
  { x with
    errors := .ofFn fun t => !(x.copies.get t).valid
    recordError := !x.recordValid
    engine := .idle
    opTimer := none
    updatePending := false
    restart := none
    reload := .all false
    kept := .ofFn fun t => storedPart t (tables.get t)
    checkNext := .t2
    checkIn := 1000 }

/-- R178, steps 1 and 2: the loaded tables and standing record, and every block at its power-on values; inputs and links are kept. -/
def Device.load (d : Device) : Device :=
  let r := if d.sto.recordValid then d.sto.record else StandingRecord.empty
  let tables := PerTable.ofFn fun t => loadTable t (d.sto.copies.get t)
  let e : Device :=
    { Device.reset with
      settings := tables
      pins := d.pins
      fgu := loadFgu d.fgu r.released
      sto := loadSto tables d.sto
      pif := { Pif.reset with
        ports := d.pif.ports.map fun l => ⟨none, l.running, none⟩
        openReplies := d.pif.openReplies } }
  let e := { e with csu := ⟨r.causes.map e.loadString⟩ }
  let e := e.modSwc fun c => { c with switches := .ofFn fun n => loadSwitch n (d.pins.feedback.get n) }
  { e with sdm := ⟨.ofFn fun p => { PortStanding.reset with periodIn := e.periodOf p }⟩ }

/-- R178: STORE_FAILED for each failed copy, tables first, then the record. -/
def Device.reportLoads (d : Device) : Device :=
  (d.each StoredTable.all fun t d =>
    d.when (d.sto.errors.get t) (·.raise .storeFailed (.table t.num) (some 2))).when d.sto.recordError
    (·.raise .storeFailed (.table 15) (some 4))

/-- R39: the record loss locks out every string, with one update request (log 11). -/
def Device.recordLoss (d : Device) : Device :=
  (d.each StringId.all fun s d =>
    (d.modSup s fun u => { u with causes := { u.causes with recordLost := true } }).raise .stringLockout (.string s)
      (some Cause.recordLost.code)).post .updateRequest

/-- R107: a switch found WELDED at power-on is reported. -/
def Device.reportWeld (n : SwitchId) (d : Device) : Device :=
  d.when ((d.sw n).state == .welded) fun d =>
    let d := d.raise .switchFailed (.switch n) (some 3)
    match n.string with
    | some s => d.post (.weldReport s)
    | none => d

/-- The part after a power-on reset. -/
def Device.powerOn (d : Device) : Device :=
  ((d.load.reportLoads.when (!d.sto.recordValid) (·.recordLoss)).each SwitchId.all Device.reportWeld).startBlocks

/-- POWER_ON_RESET (R178). -/
def execPowerOnReset (s : State) : Out := s.next (·.powerOn)

/-! ## Warm restart (R179) -/

/-- R179: the restart may take effect. A request on its way to STO holds it back (log 19). -/
def Device.restartReady (d : Device) : Bool :=
  d.sto.restart.isSome && d.sto.engine.idles && !d.sto.updatePending && !d.handoffs.contains .updateRequest

/-- Hand-offs that outlast the restart: occurrences, update requests and weld reports (log 18). -/
def outlasts : Instr → Bool
  | .eventOccurrence _ => true
  | .updateRequest => true
  | .weldReport _ => true
  | _ => false

/-- R179, R79: a table marked for reload, with its kept check set afresh; the site order is kept. -/
def Device.reloadTable (t : StoredTable) (d : Device) : Device :=
  d.when (d.sto.reload.get t) fun d =>
    let c := d.sto.copies.get t
    let items := if c.valid then c.contents else factory t
    let items := match t with
      | .t5 => items.set 0 (d.item .t5 0)
      | _ => items
    (({ d with settings := d.settings.set t items }).keepCheck t).when (!c.valid) (·.modSto fun x =>
      { x with errors := x.errors.set t true })

/-- R38: a string's supervision at a warm restart. -/
def Device.restartString (d : Device) (u : StringSup) : StringSup :=
  ⟨.ofFn fun k => d.freshChannel k (u.channels.get k).pinned, u.causes, u.health, .all false⟩

/-- CLOSED, PRECHARGING or CLOSING. -/
def SwitchState.opensAtRestart : SwitchState → Bool
  | .closed | .precharging | .closing => true
  | .opened | .opening | .welded => false

/-- R107: a switch at a warm restart; an opening whose feedback shows open ends at once, with no event (log 17). The last result is none,
also of an opening that an abort began (log 45). -/
def restartSwitch (n : SwitchId) (closed : Bool) (r : SwitchRec) : SwitchRec :=
  let base := { SwitchRec.reset .none with failure := r.failure }
  if SwitchState.opensAtRestart r.state then
    if closed then { base with state := .opening, timer := some n.feedbackTime } else base
  else { base with state := r.state, timer := if r.state = .opening then r.timer else none }

/-- R143: a zone that is not kept and not under test takes the stage its confirmed inputs give, with no event. -/
def Device.rederiveZone (z : Zone) (d : Device) : Device :=
  match (d.zone z).stage with
  | .countdown | .held | .released => d
  | .normal | .fault | .prealarm =>
    if (d.fgu.kinds z).isEmpty then d.modZone z fun r => { r with stage := r.byFlag }
    else d.modZone z fun r => { r with stage := .prealarm }

/-- R137, R143: one zone at a warm restart; the hold button is read after it. -/
def Device.restartZone (z : Zone) (d : Device) : Device :=
  (if (d.zone z).inTest then d.endTest z else d.rederiveZone z).holdZone d.fgu.holdPressed z

/-- R143: FGU at a warm restart. -/
def Device.restartFgu (d : Device) : Device :=
  let d := d.each Zone.all Device.restartZone
  d.modFgu fun g =>
    { g with
      stationStage := g.formStage
      gas := g.gas.map fun x => { x with sampleIn := 1000 } }

/-- R161: a port's standing record at a warm restart. -/
def Device.restartPort (d : Device) (p : Port) : PortStanding :=
  let r := d.port p
  { r with
    standing := if r.standing = .barred then .barred else .unchecked
    token := none
    outstanding := false
    deadline := none
    issueGeneration := 0
    periodIn := d.periodOf p }

/-- R125: CLC at a warm restart; a FAILED stage stays FAILED. -/
def restartClc (x : Clc) : Clc :=
  { Clc.reset with
    stages := x.stages.map fun c => { CoolStage.mk .off 180000 none with
      state := if c.state = .failed then .failed else .off } }

/-- R179: STO keeps its state but for the pending flag, the marks and the order of the checks. -/
def Sto.restarted (x : Sto) : Sto :=
  { x with restart := none, reload := .all false, checkNext := .t2, checkIn := 1000 }

/-- The part after a warm restart. R169 orders the occurrences of one block and R179 says nothing of several blocks': those that FGU raises
as a test ends (R137, R143) go before BAL's BALANCE_ENDED (R153) (DESIGN CHOICE, log 44). -/
def Device.restart (d : Device) : Device :=
  let d := { d with handoffs := d.handoffs.filter outlasts }
  let d := d.each StoredTable.all Device.reloadTable
  let d := { d with slc := .reset, clc := restartClc d.clc, sto := d.sto.restarted }
  let d := { d with csu := ⟨d.csu.strings.map d.restartString⟩ }
  let d := d.modSwc fun c =>
    { c with switches := .ofFn fun n => restartSwitch n (d.pins.feedback.get n) (c.switches.get n) }
  let d := { d with sdm := ⟨.ofFn d.restartPort⟩ }
  (d.restartFgu.when d.runLive (·.endRun 11)).startBlocks

/-- R179: a restart that is pending takes effect at once where the engine is IDLE with no update pending (log 19). -/
def Device.settle (d : Device) : Device := d.when d.restartReady (·.restart)

/-- WARM_RESTART (R179). One that is not pending or not ready changes nothing. -/
def execWarmRestart (s : State) : Out := s.next (·.settle)

/-! ## What sets a restart pending, and what lets it take effect (R175, R177, R179) -/

/-- R179: RESTART, which takes effect at once where nothing holds it back. -/
def stoRestart (p : Port) (d : Device) : Device × Answer :=
  if p ≠ .site then (d, .no .denied)
  else if !(d.standing .site).trusted then (d, .no .noStanding)
  else ((d.modSto fun x => { x with restart := x.restart.or (some .service) }).settle, .done)

/-- PROGRAMMING_COMPLETION (R175). It finds an operation only while the engine is STORING. -/
def execProgrammingCompletion (ok : Bool) (s : State) : Out :=
  s.next fun d =>
    match d.sto.engine with
    | .storing t => ((d.storeEnds t ok).proceed).settle
    | _ => d

/-- UPDATE_COMPLETION (R177). It finds an operation only while the engine is UPDATING. -/
def execUpdateCompletion (ok : Bool) (s : State) : Out :=
  s.next fun d =>
    match d.sto.engine with
    | .updating r => ((d.updateEnds r ok).proceed).settle
    | _ => d

/-- INTEGRITY_CHECK (R179). The table whose turn it is fails where its working contents do not pass the kept check, or where the command's
operand says that they were upset (log 21). -/
def execIntegrityCheck (upset : Bool) (s : State) : Out :=
  s.next fun d =>
    let t := d.sto.checkNext
    let fails := upset || d.checkFails t
    ((d.modSto fun x => { x with checkNext := StoredTable.next t, checkIn := 1000 }).when fails (·.selfFailed t)).settle

end Sys2Proof.Machine
end

