-- ==== Sys2Proof/Machine/Tables.lean ====
section
/-! DEFINITION. The fifteen tables: items, ranges, orders, what a taken READ answers and what a taken WRITE does (R165, R167, and the
settings rules R35, R58, R76, R77, R105, R123, R141, R154). -/

namespace Sys2Proof.Machine

/-! ## Items -/

/-- How many items a table has; its items are the indexes below that number. Tables above 14 have none. -/
def itemCount : Nat → Nat
  | 0 => 8 | 1 => 201 | 2 => 64 | 3 => 34 | 4 => 64 | 5 => 14 | 6 => 7 | 7 => 51 | 8 => 13 | 9 => 4 | 10 => 17
  | 11 => 20 | 12 => 40 | 13 => 49 | 14 => 203
  | _ => 0

/-- A table and an index. -/
structure ItemRef where
  table : Nat
  index : Nat
  deriving DecidableEq, Repr

/-- R60: table 2 indexes 40 to 63 are table 3 indexes 0 to 23. -/
def ItemRef.resolve (r : ItemRef) : ItemRef :=
  if r.table = 2 ∧ 40 ≤ r.index ∧ r.index ≤ 63 then ⟨3, r.index - 40⟩ else r

/-- The item exists (R165). -/
def ItemRef.known (r : ItemRef) : Bool := r.index < itemCount r.table

/-- The item can be written in some map: the settings and the items of tables 5, 6, 11 and 13 that their chapters give a write. An item
that its chapter shows to read 0 and gives no write, without calling it read-only (table 5 index 7, R76; table 11 indexes 6, 7 and 9 to
15, R154), is answered DENIED, as a read-only item is (DEDUCED, log 24). -/
def ItemRef.writable (r : ItemRef) : Bool :=
  match r.table with
  | 2 => r.index != 30 && r.index != 31
  | 3 | 8 | 9 | 10 | 13 => true
  | 5 => r.index ≤ 6
  | 6 => r.index ≤ 2
  | 11 => r.index ≤ 5 || r.index == 8 || 16 ≤ r.index
  | _ => false

/-- R165: the control items. -/
def ItemRef.control (r : ItemRef) : Bool :=
  if r.table = 6 then r.index == 0 else r.writable

/-! ## Ranges and orders -/

/-- A range of values, both ends included. -/
structure Range where
  lo : Int
  hi : Int

def Range.has (r : Range) (v : Int) : Bool := r.lo ≤ v && v ≤ r.hi

/-- R35. -/
def range2 (i : Nat) : Range :=
  if i < 16 then if i % 8 = 4 ∨ i % 8 = 5 then ⟨-400, 1250⟩ else ⟨0, 5000⟩
  else if i < 30 then if i % 2 = 0 then ⟨1, 200⟩ else ⟨0, 55⟩
  else if i % 2 = 0 then ⟨8, 16⟩ else ⟨1, 2⟩

/-- R58. -/
def range3 (i : Nat) : Range :=
  if i < 24 then if i % 12 < 6 then ⟨-400, 1250⟩ else ⟨0, 1024⟩
  else if i < 26 then ⟨0, 4000⟩ else ⟨0, 5000⟩

/-- R76; items 0 and 1 saturate. -/
def range5 : Nat → Range
  | 0 => ⟨-9999, 9999⟩ | 1 => ⟨1, 1000⟩ | 2 => ⟨-9999, 9999⟩ | 3 => ⟨0, 9999⟩ | 4 => ⟨0, 9999⟩ | 5 => ⟨1, 500⟩
  | _ => ⟨0, 50⟩

/-- R77; every item saturates. -/
def range6 : Nat → Range
  | 0 => ⟨-9999, 9999⟩
  | _ => ⟨0, 9999⟩

/-- R123. -/
def range8 : Nat → Range
  | 5 => ⟨5, 200⟩ | 6 => ⟨1, 199⟩ | 9 => ⟨0, 9999⟩ | 10 => ⟨0, 9999⟩
  | _ => ⟨-400, 1250⟩

/-- R141. -/
def range9 : Nat → Range
  | 0 => ⟨10, 60⟩ | 1 => ⟨1, 2000⟩ | 2 => ⟨1, 2000⟩
  | _ => ⟨0, 9999⟩

/-- R105. -/
def range10 : Nat → Range
  | 0 => ⟨500, 15000⟩ | 1 => ⟨0, 1⟩ | 2 => ⟨100, 999⟩ | 3 => ⟨100, 999⟩ | 4 => ⟨1000, 1500⟩ | 5 => ⟨1000, 1500⟩
  | 6 => ⟨20, 2000⟩ | 7 => ⟨20, 30000⟩ | 8 => ⟨20, 30000⟩ | 9 => ⟨40000, 60000⟩ | 10 => ⟨40000, 60000⟩
  | 11 => ⟨40000, 60000⟩ | 12 => ⟨40000, 60000⟩ | 13 => ⟨20, 2000⟩ | 14 => ⟨20, 60000⟩ | 15 => ⟨10, 900⟩
  | _ => ⟨0, 9999⟩

/-- R154, R47, R105. The upper end of a WINDOW is its PERIOD, which is among the orders. -/
def range11 : Nat → Range
  | 0 => ⟨50, 2000⟩ | 1 => ⟨20, 2000⟩ | 2 => ⟨50, 2000⟩ | 3 => ⟨20, 2000⟩ | 4 => ⟨50, 2000⟩ | 5 => ⟨20, 2000⟩
  | 8 => ⟨0, 1024⟩ | 16 => ⟨0, 1⟩ | 17 => ⟨2, 30⟩
  | _ => ⟨0, 2000⟩

/-- R167. -/
def range13 (i : Nat) : Range := if i < 45 then ⟨0, 2⟩ else ⟨0, 3⟩

def rangeOf (t : StoredTable) (i : Nat) : Range :=
  match t with
  | .t2 => range2 i | .t3 => range3 i | .t5 => range5 i | .t8 => range8 i | .t9 => range9 i | .t10 => range10 i
  | .t11 => range11 i | .t13 => range13 i

/-- Strictly ascending. -/
def ascending : List Int → Bool
  | a :: b :: rest => decide (a < b) && ascending (b :: rest)
  | _ => true

/-- The orders that a table's items keep: R35, R58, R105, R123, R141, R154. -/
def ordersOf (t : StoredTable) (x : Nat → Int) : Bool :=
  match t with
  | .t2 => [0, 1, 2, 3, 4, 5, 6].all fun k => decide (x (16 + 2 * k) + x (17 + 2 * k) ≤ 255)
  | .t3 =>
    ascending [x 0, x 1, x 2, x 3, x 4, x 5] && ascending [x 12, x 13, x 14, x 15, x 16, x 17] &&
      decide (x 26 < x 27) && decide (x 29 < x 28) && decide (x 30 < x 31) && decide (x 33 < x 32)
  | .t8 => ascending [x 0, x 1, x 2, x 3, x 4] && decide (x 6 < x 5) && decide (x 7 < x 8)
  | .t9 => decide (x 1 < x 2)
  | .t10 =>
    ascending [x 2, x 3, x 5] && ascending [x 2, x 4, x 5] && decide (x 3 < x 4) && ascending [x 9, x 10, x 11, x 12]
  | .t11 => decide (x 1 ≤ x 0) && decide (x 3 ≤ x 2) && decide (x 5 ≤ x 4)
  | .t5 | .t13 => true

/-- The orders would stand after a write (log 35). -/
def Device.ordered (d : Device) (t : StoredTable) (i : Nat) (v : Int) : Bool :=
  ordersOf t fun j => if j = i then v else d.item t j

/-! ## READ -/

/-- R165: table 0. -/
def read0 : Nat → Int
  | 0 => 340 | 1 => 1 | 2 => 4 | 3 => 3 | 4 => 5 | 5 => 24 | 6 => 32
  | _ => 15

/-- Table 14, by its owners. -/
def Device.read14 (d : Device) (i : Nat) : Int :=
  if i < 64 then d.csu.read i
  else if i < 96 then d.bal.read i
  else if i < 128 then d.clcRead i
  else if i < 160 then d.fgu.read i
  else if i < 192 then d.sdm.read i
  else d.sto.read i

/-- Table 7, by its owners. -/
def Device.read7 (d : Device) (i : Nat) : Int := if 42 ≤ i ∧ i ≤ 49 then d.gwm.read i else d.swcRead i

/-- The value of an item of a table other than 12. -/
def Device.readItem (d : Device) (r : ItemRef) : Int :=
  match r.table with
  | 0 => read0 r.index
  | 1 => d.slc.read r.index
  | 2 => d.item .t2 r.index
  | 3 => d.item .t3 r.index
  | 4 => d.env.read r.index
  | 5 => if r.index ≤ 6 then d.item .t5 r.index else d.duRead5 r.index
  | 6 => d.read6 r.index
  | 7 => d.read7 r.index
  | 8 => d.item .t8 r.index
  | 9 => d.item .t9 r.index
  | 10 => d.item .t10 r.index
  | 11 => d.item .t11 r.index
  | 13 => if r.index = 48 then boolNat d.pif.mapLock else d.item .t13 r.index
  | _ => d.read14 r.index

/-- The owner's answer to a READ it is handed; one item of table 14 may have no stated value (log 28). -/
def Device.ownerRead (p : Port) (r : ItemRef) (d : Device) : Device × Answer :=
  if r.table = 12 then (d, d.evr.read p r.index)
  else if r.table = 14 ∧ !d.clc.readStated r.index then (d, .done)
  else (d.when (r == ⟨4, 2⟩) (·.clearGenerationFlag p), .ok (d.readItem r))

/-! ## WRITE -/

/-- R41: a WRITE that is a recomputation at ENV. -/
def feedsEnvelope (t : StoredTable) (i : Nat) : Bool :=
  match t with
  | .t3 | .t5 => true
  | .t2 => [33, 35, 37, 39].contains i
  | .t9 => i == 3
  | .t10 => i == 16
  | .t11 => i == 8
  | .t8 | .t13 => false

/-- R12, R35: the string whose expectation an item of table 2 is. -/
def expectationOf (t : StoredTable) (i : Nat) : Option StringId :=
  if t = .t2 ∧ 32 ≤ i then StringId.ofNum ((i - 32) / 2) else none

/-- R63, R64: items of table 5 whose write sets the effective order afresh. -/
def feedsOrder (t : StoredTable) (i : Nat) : Bool := t == .t5 && i ≤ 2

/-- The value is stored, and what follows from the write at its owner. -/
def Device.storeItem (t : StoredTable) (i : Nat) (v : Int) (d : Device) : Device :=
  let d := d.setItem t i v
  let d :=
    match expectationOf t i with
    | some s => d.expectationRewritten s
    | none => d
  (d.when (feedsOrder t i) (·.duOrder.duRefresh)).postIf (feedsEnvelope t i) (.envelopeRecomputation .settings)

/-- R63: the site order and the ramp rate saturate. -/
def saturates (t : StoredTable) (i : Nat) : Bool := t == .t5 && i ≤ 1

/-- R167: the entries of the map that can be edited. -/
def editable (i : Nat) : Bool := [6, 7, 9, 10, 15, 16, 18, 19, 24, 25, 45, 46].contains i

/-- The owner's answer to a WRITE of an item of a stored table. -/
def Device.writeStored (t : StoredTable) (i : Nat) (v : Int) (d : Device) : Device × Answer :=
  let r := rangeOf t i
  if t = .t13 ∧ !editable i then (d, .no .denied)
  else if saturates t i then
    let v := saturate r.lo r.hi v
    (d.storeItem t i v, .ok v)
  else if !r.has v || !d.ordered t i v then (d, .no .range)
  else if t = .t11 ∧ i = 16 then swcIsolationWrite v d
  else (d.storeItem t i v, .ok v)

/-- R52: a rating, saturated. -/
def Device.writeRating (dir : Direction) (v : Int) (d : Device) : Device :=
  (d.modEnv fun e =>
    match dir with
    | .charge => { e with ratingChg := v, ratingWritten := true }
    | .discharge => { e with ratingDis := v, ratingWritten := true }).post (.envelopeRecomputation .settings)

/-- R70: a report reaches DU, SWC and ENV. -/
def Device.writeReport (v : Int) (d : Device) : Device :=
  ((d.duReport v).post (.isolationConverterReport v)).post (.envelopeRecomputation .settings)

/-- R77: the owner's answer to a WRITE of table 6. -/
def Device.write6 (i : Nat) (v : Int) (d : Device) : Device × Answer :=
  let v := saturate (range6 i).lo (range6 i).hi v
  let d :=
    match i with
    | 0 => d.writeReport v
    | 1 => d.writeRating .charge v
    | _ => d.writeRating .discharge v
  (d, .ok v)

/-- The owner's answer to a WRITE that PIF hands on. -/
def Device.ownerWrite (r : ItemRef) (v : Word) (d : Device) : Device × Answer :=
  match StoredTable.ofNum r.table with
  | some t => d.writeStored t r.index (signed v)
  | none => d.write6 r.index (signed v)

end Sys2Proof.Machine
end

