-- ==== Sys2Proof/Machine/Pif.lean ====
section
/-! DEFINITION. PIF, the port interface (R162 to R168), and the meanings of every request. -/

namespace Sys2Proof.Machine

/-! ## Replies (R162 to R164) -/

def Device.link (d : Device) (p : Port) : PortLink := d.pif.ports.get p

def Device.modLink (p : Port) (f : PortLink → PortLink) (d : Device) : Device :=
  { d with pif := { d.pif with ports := d.pif.ports.set p (f (d.link p)) } }

/-- R164: bits 2 and 3. -/
def Standing.summary : Standing → Nat
  | .unchecked => 0 | .inStanding => 1 | .lapsed => 2 | .forfeit => 3 | .barred => 3

/-- R164: the station summary byte for a port, from the state as it stands. -/
def Device.summary (d : Device) (p : Port) : Byte :=
  BitVec.ofNat 8
    (boolNat (d.attention p) + 2 * boolNat (d.port p).outstanding + 4 * Standing.summary (d.standing p) +
      16 * boolNat (d.env.changed.get p) + 32 * boolNat d.fgu.stationStage.grave +
      64 * boolNat (d.swc.isolation == .isolated) +
      128 * boolNat (StringId.all.any fun s => causesAny (d.sup s).causes))

/-- R162: the NOP reply that answers no request. -/
def Reply.idle : Reply := ⟨0, .ok, 0⟩

/-- R163: a reply as it is clocked out, with the summary of that moment. -/
def Reply.frame (r : Reply) (summary : Byte) : ReplyFrame :=
  let result := BitVec.ofNat 8 r.result.code
  ⟨r.kind, result, r.value, summary, crc8 (replyBody r.kind result r.value summary)⟩

/-- R162, R164: a transfer carries the pending reply out. -/
def Device.clockOut (p : Port) (d : Device) : Device :=
  d.modLink p fun l => { l with sent := some ((l.pending.getD .idle).frame (d.summary p)) }

/-- R162: the answer becomes the port's pending reply; a value the spec does not state is a free value (log 28). -/
def Device.reply (p : Port) (kind : Byte) (a : Answer) (d : Device) : Device :=
  match a.value with
  | some v => d.modLink p fun l => { l with pending := some ⟨kind, a.result, v⟩ }
  | none =>
    let d' := d.modLink p fun l => { l with pending := some ⟨kind, a.result, Config.openReply d.pif.openReplies⟩ }
    { d' with pif := { d'.pif with openReplies := d.pif.openReplies + 1 } }

/-- R162, R163: a transfer of eight bytes. A link held in reset takes none; a frame whose check fails is not acted on; otherwise the
request is taken whole at its owner, whose answer becomes the pending reply. -/
def Device.request (p : Port) (f : Frame) (act : Device → Device × Answer) (d : Device) : Device :=
  d.when (d.link p).running fun d =>
    let d := d.clockOut p
    if !f.checkOk then d.reply p f.kind (.no .checkFail)
    else
      let (d, a) := act d
      d.reply p f.kind a

/-- INCOMPLETE_TRANSFER (R162, R164): the reply goes out and is kept. -/
def execIncompleteTransfer (p : Port) (s : State) : Out :=
  s.next fun d => d.when (d.link p).running (·.clockOut p)

/-! ## READ and WRITE (R165) -/

/-- R165: READ, by the first row that applies. -/
def portRead (p : Port) (table index : Nat) (d : Device) : Device × Answer :=
  let r := (ItemRef.mk table index).resolve
  if !r.known then (d, .no .unknownItem)
  else if r.table = 12 ∧ (r.index = 1 ∨ r.index = 2) then d.ownerRead p r
  else if !d.canRead p r.table then (d, .no .denied)
  else d.ownerRead p r

/-- R165, R168: a lock binds the table. -/
def Device.tableLocked (d : Device) (t : StoredTable) : Bool :=
  match t with
  | .t13 => d.pif.mapLock
  | t => d.pif.ownerLocks.get t || d.pif.siteHolds.get t

/-- R165: WRITE, by the first row that applies; R172 for table 12. -/
def portWrite (p : Port) (table index : Nat) (v : Word) (d : Device) : Device × Answer :=
  let r := (ItemRef.mk table index).resolve
  let stored := StoredTable.ofNum r.table
  if !r.known then (d, .no .unknownItem)
  else if r = ⟨12, 2⟩ then evrWriteCursor p v d
  else if r = ⟨12, 1⟩ then evrWriteMask p v d
  else if !d.canWrite p r.table || !r.writable then (d, .no .denied)
  else if r.control && !(d.standing p).trusted then (d, .no .noStanding)
  else if stored.any d.tableLocked then (d, .no .locked)
  else if stored.any fun t => d.sto.engine == .storing t then (d, .no .busy)
  else d.ownerWrite r v

/-! ## Locks (R167, R168) -/

/-- R168: the table a lock service names. -/
def lockableOf (v : Word) : Option StoredTable := (StoredTable.ofNum v.toNat).filter (·.lockable)

/-- R168: LOCK_TABLE. -/
def pifLockTable (p : Port) (v : Word) (d : Device) : Device × Answer :=
  match lockableOf v with
  | none => (d, .no .range)
  | some t =>
    if !d.canWrite p t.num then (d, .no .denied)
    else if !(d.standing p).trusted then (d, .no .noStanding)
    else ({ d with pif := { d.pif with ownerLocks := d.pif.ownerLocks.set t true } }, .done)

/-- R168: SITE_HOLD and SITE_RELEASE_HOLD. -/
def pifHold (on : Bool) (p : Port) (v : Word) (d : Device) : Device × Answer :=
  match lockableOf v with
  | none => (d, .no .range)
  | some t =>
    if !d.canWrite p t.num || p != .site then (d, .no .denied)
    else if !(d.standing p).trusted then (d, .no .noStanding)
    else ({ d with pif := { d.pif with siteHolds := d.pif.siteHolds.set t on } }, .done)

/-- R167: LOCK_MAP. -/
def pifLockMap (p : Port) (d : Device) : Device × Answer :=
  if p ≠ .site then (d, .no .denied)
  else if !(d.standing .site).trusted then (d, .no .noStanding)
  else ({ d with pif := { d.pif with mapLock := true } }, .done)

/-! ## Routing (R163, R166) -/

/-- R166: the services, by their number. -/
def service (p : Port) (n : Nat) (v : Word) (d : Device) : Device × Answer :=
  match n with
  | 0 => stoStore p v d
  | 1 => stoClear p v d
  | 2 => pifLockTable p v d
  | 3 => pifHold true p v d
  | 4 => pifHold false p v d
  | 5 => pifLockMap p d
  | 6 => csuRelease p v d
  | 7 => swcClear p v d
  | 8 => zoneService Device.resetZone p v d
  | 9 => zoneService Device.rearmZone p v d
  | 10 => zoneService Device.startTest p v d
  | 11 => zoneService Device.stopTest p v d
  | 12 => fguForceEvent p v d
  | 13 => balStart p v d
  | 14 => balSuspend p d
  | 15 => balResume p d
  | 16 => balCancel p d
  | 17 => balClear p d
  | 18 => clcFaultClear p v d
  | 19 => stoRestart p d
  | _ => (d, .no .unknownItem)

/-- R166: SELECT must carry table 7. -/
def pifSelect (p : Port) (f : ItemFrame) (d : Device) : Device × Answer :=
  if f.table ≠ 7 then (d, .no .unknownItem) else swcSelect p f.index f.value d

/-- R166: OPERATE must carry table 7. -/
def pifOperate (p : Port) (f : ItemFrame) (d : Device) : Device × Answer :=
  if f.table ≠ 7 then (d, .no .unknownItem) else swcOperate p f.index f.value d

/-- R163, R166: any frame, routed by its kind. -/
def route (p : Port) (f : Frame) (d : Device) : Device × Answer :=
  match f.kind.toNat with
  | 0 => (d, .ok 0)
  | 1 => portRead p f.table.toNat f.index.toNat d
  | 2 => portWrite p f.table.toNat f.index.toNat f.value d
  | 3 => service p f.index.toNat f.value d
  | 4 => sdmAnswer p f.value d
  | 5 => evrAck p f.value d
  | 6 => pifSelect p ⟨f.table, f.index, f.value, f.check⟩ d
  | 7 => pifOperate p ⟨f.table, f.index, f.value, f.check⟩ d
  | 8 => swcCancel p d
  | _ => (d, .no .unknownKind)

/-! ## The meanings of the requests -/

/-- NOP (R163). The command carries any frame that no other row names, an unknown kind or service among them (log 31). -/
def execNop (p : Port) (f : Frame) (s : State) : Out := s.next (·.request p f (route p f))

/-- READ (R165). -/
def execRead (p : Port) (f : ItemFrame) (s : State) : Out :=
  s.next (·.request p (f.frame kindRead) (portRead p f.table.toNat f.index.toNat))

/-- GENERATION_READ (R57): table 4 index 2. -/
def execGenerationRead (p : Port) (f : ValueFrame) (s : State) : Out :=
  s.next (·.request p (f.frame kindRead 4 2) (portRead p 4 2))

/-- WRITE (R165). -/
def execWrite (p : Port) (f : ItemFrame) (s : State) : Out :=
  s.next (·.request p (f.frame kindWrite) (portWrite p f.table.toNat f.index.toNat f.value))

/-- SITE_ORDER_WRITE (R63): table 5 index 0. -/
def execSiteOrderWrite (p : Port) (f : ValueFrame) (s : State) : Out :=
  s.next (·.request p (f.frame kindWrite 5 0) (portWrite p 5 0 f.value))

/-- RAMP_RATE_WRITE (R63): table 5 index 1. -/
def execRampRateWrite (p : Port) (f : ValueFrame) (s : State) : Out :=
  s.next (·.request p (f.frame kindWrite 5 1) (portWrite p 5 1 f.value))

/-- FALLBACK_ORDER_WRITE (R64): table 5 index 2. -/
def execFallbackOrderWrite (p : Port) (f : ValueFrame) (s : State) : Out :=
  s.next (·.request p (f.frame kindWrite 5 2) (portWrite p 5 2 f.value))

/-- R76: the index of a site cap. -/
def capIndex : Direction → Nat
  | .charge => 3 | .discharge => 4

/-- SITE_CAP_WRITE (R51): table 5 indexes 3 and 4. -/
def execSiteCapWrite (p : Port) (dir : Direction) (f : ValueFrame) (s : State) : Out :=
  s.next (·.request p (f.frame kindWrite 5 (BitVec.ofNat 8 (capIndex dir))) (portWrite p 5 (capIndex dir) f.value))

/-- CONVERTER_REPORT (R70): table 6 index 0. -/
def execConverterReport (p : Port) (f : ValueFrame) (s : State) : Out :=
  s.next (·.request p (f.frame kindWrite 6 0) (portWrite p 6 0 f.value))

/-- R77: the index of a rating. -/
def ratingIndex : Direction → Nat
  | .charge => 1 | .discharge => 2

/-- RATING_WRITE (R52): table 6 indexes 1 and 2. -/
def execRatingWrite (p : Port) (dir : Direction) (f : ValueFrame) (s : State) : Out :=
  s.next (·.request p (f.frame kindWrite 6 (BitVec.ofNat 8 (ratingIndex dir))) (portWrite p 6 (ratingIndex dir) f.value))

/-- ISOLATION_REQUEST_WRITE (R98): table 11 index 16. -/
def execIsolationRequestWrite (p : Port) (f : ValueFrame) (s : State) : Out :=
  s.next (·.request p (f.frame kindWrite 11 16) (portWrite p 11 16 f.value))

/-- ACCESS_MAP_WRITE (R167): table 13. -/
def execAccessMapWrite (p : Port) (index : Byte) (f : ValueFrame) (s : State) : Out :=
  s.next (·.request p (f.frame kindWrite 13 index) (portWrite p 13 index.toNat f.value))

/-- CURSOR_WRITE (R172): table 12 index 2. -/
def execCursorWrite (p : Port) (f : ValueFrame) (s : State) : Out :=
  s.next (·.request p (f.frame kindWrite 12 2) (portWrite p 12 2 f.value))

/-- MASK_WRITE (R172): table 12 index 1. -/
def execMaskWrite (p : Port) (f : ValueFrame) (s : State) : Out :=
  s.next (·.request p (f.frame kindWrite 12 1) (portWrite p 12 1 f.value))

/-- R35: the index of an expectation. -/
def expectationIndex (n : StringId) : Expectation → Nat
  | .moduleCount => 32 + 2 * n.num
  | .chemistry => 33 + 2 * n.num

/-- EXPECTATION_REWRITE (R12): table 2 indexes 32 to 39. -/
def execExpectationRewrite (p : Port) (n : StringId) (e : Expectation) (f : ValueFrame) (s : State) : Out :=
  s.next (·.request p (f.frame kindWrite 2 (BitVec.ofNat 8 (expectationIndex n e)))
    (portWrite p 2 (expectationIndex n e) f.value))

/-- R60: how item i of table 3 is addressed. -/
def deratingRef (via : DeratingVia) (i : Byte) : ItemRef :=
  match via with
  | .table3 => ⟨3, i.toNat⟩
  | .window => ⟨2, (i + 40).toNat⟩

/-- DERATING_WRITE (R58, R60): item `index` of table 3, in table 3 or through the window of table 2. -/
def execDeratingWrite (p : Port) (via : DeratingVia) (index : Byte) (f : ValueFrame) (s : State) : Out :=
  let r := deratingRef via index
  s.next (·.request p (f.frame kindWrite (BitVec.ofNat 8 r.table) (BitVec.ofNat 8 r.index))
    (portWrite p r.table r.index f.value))

/-- STORE_TABLE (R175). -/
def execStoreTable (p : Port) (f : ServiceFrame) (s : State) : Out :=
  s.next (·.request p (f.frame 0) (stoStore p f.value))

/-- CLEAR_STORE_STATUS (R176). -/
def execClearStoreStatus (p : Port) (f : ServiceFrame) (s : State) : Out :=
  s.next (·.request p (f.frame 1) (stoClear p f.value))

/-- LOCK_TABLE (R168). -/
def execLockTable (p : Port) (f : ServiceFrame) (s : State) : Out :=
  s.next (·.request p (f.frame 2) (pifLockTable p f.value))

/-- SITE_HOLD (R168). -/
def execSiteHold (p : Port) (f : ServiceFrame) (s : State) : Out :=
  s.next (·.request p (f.frame 3) (pifHold true p f.value))

/-- SITE_RELEASE_HOLD (R168). -/
def execSiteReleaseHold (p : Port) (f : ServiceFrame) (s : State) : Out :=
  s.next (·.request p (f.frame 4) (pifHold false p f.value))

/-- LOCK_MAP (R167). -/
def execLockMap (p : Port) (f : ServiceFrame) (s : State) : Out :=
  s.next (·.request p (f.frame 5) (pifLockMap p))

/-- RELEASE_LOCKOUT (R27). -/
def execReleaseLockout (p : Port) (f : ServiceFrame) (s : State) : Out :=
  s.next (·.request p (f.frame 6) (csuRelease p f.value))

/-- CLEAR_SWITCH (R96). -/
def execClearSwitch (p : Port) (f : ServiceFrame) (s : State) : Out :=
  s.next (·.request p (f.frame 7) (swcClear p f.value))

/-- ZONE_RESET (R133). -/
def execZoneReset (p : Port) (f : ServiceFrame) (s : State) : Out :=
  s.next (·.request p (f.frame 8) (zoneService Device.resetZone p f.value))

/-- ZONE_REARM (R134). -/
def execZoneRearm (p : Port) (f : ServiceFrame) (s : State) : Out :=
  s.next (·.request p (f.frame 9) (zoneService Device.rearmZone p f.value))

/-- ZONE_TEST_START (R136). -/
def execZoneTestStart (p : Port) (f : ServiceFrame) (s : State) : Out :=
  s.next (·.request p (f.frame 10) (zoneService Device.startTest p f.value))

/-- ZONE_TEST_END (R136, R137). -/
def execZoneTestEnd (p : Port) (f : ServiceFrame) (s : State) : Out :=
  s.next (·.request p (f.frame 11) (zoneService Device.stopTest p f.value))

/-- FORCE_EVENT (R140). -/
def execForceEvent (p : Port) (f : ServiceFrame) (s : State) : Out :=
  s.next (·.request p (f.frame 12) (fguForceEvent p f.value))

/-- BALANCE_START (R145). -/
def execBalanceStart (p : Port) (f : ServiceFrame) (s : State) : Out :=
  s.next (·.request p (f.frame 13) (balStart p f.value))

/-- BALANCE_SUSPEND (R151). -/
def execBalanceSuspend (p : Port) (f : ServiceFrame) (s : State) : Out :=
  s.next (·.request p (f.frame 14) (balSuspend p))

/-- BALANCE_RESUME (R151). -/
def execBalanceResume (p : Port) (f : ServiceFrame) (s : State) : Out :=
  s.next (·.request p (f.frame 15) (balResume p))

/-- BALANCE_CANCEL (R151). -/
def execBalanceCancel (p : Port) (f : ServiceFrame) (s : State) : Out :=
  s.next (·.request p (f.frame 16) (balCancel p))

/-- BALANCE_CLEAR (R151). -/
def execBalanceClear (p : Port) (f : ServiceFrame) (s : State) : Out :=
  s.next (·.request p (f.frame 17) (balClear p))

/-- COOLING_FAULT_CLEAR (R115). -/
def execCoolingFaultClear (p : Port) (f : ServiceFrame) (s : State) : Out :=
  s.next (·.request p (f.frame 18) (clcFaultClear p f.value))

/-- RESTART (R179). -/
def execRestart (p : Port) (f : ServiceFrame) (s : State) : Out :=
  s.next (·.request p (f.frame 19) (stoRestart p))

/-- ANSWER (R156). -/
def execAnswer (p : Port) (f : ItemFrame) (s : State) : Out :=
  s.next (·.request p (f.frame kindAnswer) (sdmAnswer p f.value))

/-- ACK_EVENTS (R170). -/
def execAckEvents (p : Port) (f : ItemFrame) (s : State) : Out :=
  s.next (·.request p (f.frame kindAck) (evrAck p f.value))

/-- SELECT (R84). -/
def execSelect (p : Port) (f : ItemFrame) (s : State) : Out :=
  s.next (·.request p (f.frame kindSelect) (pifSelect p f))

/-- OPERATE (R87). -/
def execOperate (p : Port) (f : ItemFrame) (s : State) : Out :=
  s.next (·.request p (f.frame kindOperate) (pifOperate p f))

/-- CANCEL (R85). -/
def execCancel (p : Port) (f : ItemFrame) (s : State) : Out :=
  s.next (·.request p (f.frame kindCancel) (swcCancel p))

/-! ## Links (R173) -/

/-- LINK_RESET_ASSERT (R173): the link is held in reset. -/
def execLinkResetAssert (p : Port) (s : State) : Out :=
  s.next (·.modLink p fun l => { l with running := false })

/-- R85, R107: the port's selection is removed. -/
def Device.dropSelections (p : Port) (d : Device) : Device :=
  d.each SwitchId.all fun n d => d.when (d.holds p n) (·.dropSelection n)

/-- PORT_RESET (R173, R159, R107, R62): the link runs again, and the port's items take their reset values. -/
def execPortReset (p : Port) (s : State) : Out :=
  s.next fun d =>
    let d := d.modLink p fun l => { l with running := true, pending := none }
    let d := { d with evr := { d.evr with cursors := d.evr.cursors.set p 0 } }
    let d := d.modEnv fun e => { e with changed := e.changed.set p true }
    (d.dropSelections p).readmit p

end Sys2Proof.Machine
end

