-- ==== Sys2Proof/Machine/Clock.lean ====
section
/-! DEFINITION. Time: what the part does of itself while no command waits: hand-offs, a pending restart, expiries and samples that are
due, and the passing of one millisecond (log 2). -/

namespace Sys2Proof.Machine

/-! ## One millisecond -/

def Monitor.tick (m : Monitor) : Monitor :=
  { m with age := tickUp m.age, staleIn := tickDown m.staleIn, identityTimer := tickDown m.identityTimer }

def Slc.tick (c : Slc) : Slc :=
  { c with monitors := c.monitors.map (·.tick), busTimer := tickDown c.busTimer, slotIn := c.slotIn - 1 }

def Du.tick (u : Du) : Du :=
  { u with
    rampTimer := tickDown u.rampTimer
    reportTimer := tickDown u.reportTimer
    overrunTimer := tickDown u.overrunTimer }

def SwitchRec.tick (r : SwitchRec) : SwitchRec :=
  { r with
    selection := r.selection.map fun x => { x with left := x.left - 1 }
    openDelay := tickDown r.openDelay
    timer := tickDown r.timer }

def Swc.tick (c : Swc) : Swc :=
  { c with switches := c.switches.map (·.tick), isolationTimer := tickDown c.isolationTimer }

def Gwm.tick (g : Gwm) : Gwm :=
  { g with
    holdOffLeft := if g.holdOffRunning then g.holdOffLeft - 1 else g.holdOffLeft
    ride := g.ride.map fun t => { t with elapsed := t.elapsed + 1 }
    trip := g.trip.map fun t => { t with elapsed := t.elapsed + 1 } }

def Clc.tick (x : Clc) : Clc :=
  { x with
    stages := x.stages.map fun c => { c with since := c.since + 1, timer := tickDown c.timer }
    sinceStart := x.sinceStart + 1
    flowTimer := tickDown x.flowTimer
    exhaustTimer := tickDown x.exhaustTimer
    sampleIn := x.sampleIn - 1 }

def LoopRec.tick (x : LoopRec) : LoopRec := { x with timer := tickDown x.timer }

def ZoneRec.tick (r : ZoneRec) : ZoneRec :=
  { r with
    testTimer := tickDown r.testTimer
    releaseTimer := tickDown r.releaseTimer
    pulseTimer := tickDown r.pulseTimer
    smoke := r.smoke.tick
    heat := r.heat.tick }

def Fgu.tick (g : Fgu) : Fgu :=
  { g with
    zones := g.zones.map (·.tick)
    gas := g.gas.map fun x => { x with sampleIn := x.sampleIn - 1 }
    callTimer := tickDown g.callTimer }

/-- R149: the running time accrues while the state is RUNNING. -/
def Bal.tick (b : Bal) : Bal :=
  { b with run := { b.run with runningTime := if b.run.state = .running then b.run.runningTime + 1 else b.run.runningTime } }

def Sdm.tick (m : Sdm) : Sdm :=
  ⟨m.ports.map fun r => { r with periodIn := r.periodIn - 1, deadline := tickDown r.deadline }⟩

/-- One millisecond passes in every block. -/
def Device.tick (d : Device) : Device :=
  { d with
    slc := d.slc.tick
    du := d.du.tick
    swc := d.swc.tick
    gwm := d.gwm.tick
    clc := d.clc.tick
    fgu := d.fgu.tick
    bal := d.bal.tick
    sdm := d.sdm.tick
    evr := { d.evr with time := (d.evr.time + 1) % 4294967296 }
    sto := { d.sto with checkIn := d.sto.checkIn - 1, opTimer := tickDown d.sto.opTimer } }

/-! ## What is due -/

/-- A command of a list that is made where its condition holds. -/
def dueIf (b : Bool) (i : Instr) : List Instr := if b then [i] else []

/-- SLC's expiries of one string. -/
def Device.dueString (d : Device) (s : StringId) : List Instr :=
  let m := d.monitor s
  dueIf (expired m.identityTimer) (.identityTimerExpiry s) ++
    dueIf (m.state != .absent && m.age.any (2000 ≤ ·)) (.monitorLoss s) ++
    dueIf (m.state == .present && expired m.staleIn) (.staleExpiry s)

/-- SWC's expiries of one switch. -/
def Device.dueSwitch (d : Device) (n : SwitchId) : List Instr :=
  let r := d.sw n
  let late := expired r.timer
  dueIf (r.state == .closing && late) (.closeFeedbackExpiry n) ++
    dueIf (r.state == .opening && late) (.openFeedbackExpiry n) ++
    dueIf (r.selection.any (·.left == 0)) (.selectExpiry n) ++
    match n.string with
    | some s => dueIf (r.state == .precharging && late) (.prechargeExpiry s) ++ dueIf (expired r.openDelay) (.openDelayExpiry s)
    | none => []

/-- DU's expiries. R74 lets either be taken first; the model takes the overrun timer before the report-stale timer (log 2). -/
def Device.dueDu (d : Device) : List Instr :=
  dueIf (expired d.du.overrunTimer) .overrunExpiry ++ dueIf (expired d.du.reportTimer) .reportStaleExpiry ++
    dueIf (expired d.du.rampTimer) .rampStep

/-- GWM's expiries. -/
def Device.dueGwm (d : Device) : List Instr :=
  let riding := d.gwm.window == .rideThrough
  dueIf (d.gwm.window == .holdOff && d.gwm.holdOffRunning && d.gwm.holdOffLeft == 0) .holdOffExpiry ++
    dueIf (riding && d.gwm.ride.any fun t => t.limit.any (· ≤ t.elapsed)) .rideThroughExpiry ++
    dueIf (riding && d.gwm.trip.any fun t => t.delay ≤ t.elapsed) .tripDelayExpiry

/-- CLC's expiries and its sample, at the levels of the analog lines (log 23). -/
def Device.dueClc (d : Device) : List Instr :=
  let x := d.clc
  let late := expired x.flowTimer
  Stage.all.flatMap (fun c => dueIf (expired (d.stage c).timer) (.runFeedbackExpiry c)) ++
    dueIf (x.flow == .starting && late) .flowConfirmExpiry ++
    dueIf (x.flow == .confirmed && late) .flowLossExpiry ++
    dueIf (x.phase == .waiting && late) .retryExpiry ++
    dueIf (x.phase == .trying && late) .tryExpiry ++
    dueIf (x.phase == .proving && late) .provingExpiry ++
    dueIf (expired x.exhaustTimer) .exhaustFeedbackExpiry ++
    dueIf (x.sampleIn == 0) (.coolingSample d.pins.supply d.pins.coolantReturn d.pins.ambient)

/-- FGU's expiries of one zone. -/
def Device.dueZone (d : Device) (z : Zone) : List Instr :=
  let r := d.zone z
  dueIf (expired r.smoke.timer) (.loopConfirmation z .smoke) ++
    dueIf (expired r.heat.timer) (.loopConfirmation z .heat) ++
    dueIf (expired r.releaseTimer) (.releaseTimerExpiry z) ++
    dueIf (expired r.pulseTimer) (.pulseTimerExpiry z) ++
    dueIf (expired r.testTimer) (.testTimerExpiry z)

/-- FGU's gas samples, at the levels of the sensors (log 23). -/
def Device.dueGas (d : Device) : List Instr :=
  dueIf (d.fgu.gas.z0.sampleIn == 0) (.gasSample .z0 d.pins.gas.z0) ++
    dueIf (d.fgu.gas.z1.sampleIn == 0) (.gasSample .z1 d.pins.gas.z1)

/-- SDM's expiries of one port. -/
def Device.duePort (d : Device) (p : Port) : List Instr :=
  let r := d.port p
  dueIf (r.outstanding && expired r.deadline) (.deadlineExpiry p) ++ dueIf (r.periodIn == 0) (.periodExpiry p)

/-- The engine's operation once its time has passed; its outcome is a free value (log 22). -/
def Device.dueEngine (d : Device) : List Instr :=
  let ok := Config.operationSucceeds d.sto.operations
  match d.sto.engine with
  | .idle => []
  | .storing _ => dueIf (expired d.sto.opTimer) (.programmingCompletion ok)
  | .updating _ => dueIf (expired d.sto.opTimer) (.updateCompletion ok)

/-- Everything that is due now, in the order in which it is taken. -/
def Device.due (d : Device) : List Instr :=
  StringId.all.flatMap d.dueString ++ dueIf (expired d.slc.busTimer) .busStaleOnset ++ d.dueDu ++
    SwitchId.all.flatMap d.dueSwitch ++ dueIf (expired d.swc.isolationTimer) .isolationTimerExpiry ++ d.dueGwm ++ d.dueClc ++
    Zone.all.flatMap d.dueZone ++ dueIf (expired d.fgu.callTimer) .callPointConfirmation ++ d.dueGas ++
    dueIf (d.bal.run.state == .running && decide (60000 * d.bal.run.maxDuration ≤ d.bal.run.runningTime)) .durationExpiry ++
    Port.all.flatMap d.duePort ++ d.dueEngine ++ dueIf (d.sto.checkIn == 0) (.integrityCheck false) ++
    dueIf (d.slc.slotIn == 0) .linkSlot

/-- What the part does next of itself: the oldest hand-off, then a restart that is ready, then what is due. -/
def Device.ownNext (d : Device) : Option Instr :=
  match d.handoffs with
  | i :: _ => some i
  | [] => if d.restartReady then some .warmRestart else d.due.head?

end Sys2Proof.Machine
end

