-- ==== Sys2Proof/Machine/Dispatch.lean ====
section
/-! DEFINITION. The dispatch of commands to their meanings. -/

namespace Sys2Proof.Machine

def exec (i : Instr) (s : State) : Host.Outcome State Fault Refusal :=
  match i with
  | .powerOnReset => Sys2Proof.Machine.execPowerOnReset s
  | .warmRestart => Sys2Proof.Machine.execWarmRestart s
  | .linkResetAssert p => Sys2Proof.Machine.execLinkResetAssert p s
  | .portReset p => Sys2Proof.Machine.execPortReset p s
  | .incompleteTransfer p => Sys2Proof.Machine.execIncompleteTransfer p s
  | .nop p f => Sys2Proof.Machine.execNop p f s
  | .read p f => Sys2Proof.Machine.execRead p f s
  | .generationRead p f => Sys2Proof.Machine.execGenerationRead p f s
  | .write p f => Sys2Proof.Machine.execWrite p f s
  | .siteOrderWrite p f => Sys2Proof.Machine.execSiteOrderWrite p f s
  | .rampRateWrite p f => Sys2Proof.Machine.execRampRateWrite p f s
  | .fallbackOrderWrite p f => Sys2Proof.Machine.execFallbackOrderWrite p f s
  | .siteCapWrite p dir f => Sys2Proof.Machine.execSiteCapWrite p dir f s
  | .converterReport p f => Sys2Proof.Machine.execConverterReport p f s
  | .ratingWrite p dir f => Sys2Proof.Machine.execRatingWrite p dir f s
  | .isolationRequestWrite p f => Sys2Proof.Machine.execIsolationRequestWrite p f s
  | .accessMapWrite p index f => Sys2Proof.Machine.execAccessMapWrite p index f s
  | .cursorWrite p f => Sys2Proof.Machine.execCursorWrite p f s
  | .maskWrite p f => Sys2Proof.Machine.execMaskWrite p f s
  | .expectationRewrite p n e f => Sys2Proof.Machine.execExpectationRewrite p n e f s
  | .deratingWrite p via index f => Sys2Proof.Machine.execDeratingWrite p via index f s
  | .storeTable p f => Sys2Proof.Machine.execStoreTable p f s
  | .clearStoreStatus p f => Sys2Proof.Machine.execClearStoreStatus p f s
  | .lockTable p f => Sys2Proof.Machine.execLockTable p f s
  | .siteHold p f => Sys2Proof.Machine.execSiteHold p f s
  | .siteReleaseHold p f => Sys2Proof.Machine.execSiteReleaseHold p f s
  | .lockMap p f => Sys2Proof.Machine.execLockMap p f s
  | .releaseLockout p f => Sys2Proof.Machine.execReleaseLockout p f s
  | .clearSwitch p f => Sys2Proof.Machine.execClearSwitch p f s
  | .zoneReset p f => Sys2Proof.Machine.execZoneReset p f s
  | .zoneRearm p f => Sys2Proof.Machine.execZoneRearm p f s
  | .zoneTestStart p f => Sys2Proof.Machine.execZoneTestStart p f s
  | .zoneTestEnd p f => Sys2Proof.Machine.execZoneTestEnd p f s
  | .forceEvent p f => Sys2Proof.Machine.execForceEvent p f s
  | .balanceStart p f => Sys2Proof.Machine.execBalanceStart p f s
  | .balanceSuspend p f => Sys2Proof.Machine.execBalanceSuspend p f s
  | .balanceResume p f => Sys2Proof.Machine.execBalanceResume p f s
  | .balanceCancel p f => Sys2Proof.Machine.execBalanceCancel p f s
  | .balanceClear p f => Sys2Proof.Machine.execBalanceClear p f s
  | .coolingFaultClear p f => Sys2Proof.Machine.execCoolingFaultClear p f s
  | .restart p f => Sys2Proof.Machine.execRestart p f s
  | .answer p f => Sys2Proof.Machine.execAnswer p f s
  | .ackEvents p f => Sys2Proof.Machine.execAckEvents p f s
  | .select p f => Sys2Proof.Machine.execSelect p f s
  | .operate p f => Sys2Proof.Machine.execOperate p f s
  | .cancel p f => Sys2Proof.Machine.execCancel p f s
  | .linkSlot => Sys2Proof.Machine.execLinkSlot s
  | .scanRecord x a => Sys2Proof.Machine.execScanRecord x a s
  | .busRecord x a => Sys2Proof.Machine.execBusRecord x a s
  | .identityRecord x a => Sys2Proof.Machine.execIdentityRecord x a s
  | .identityTimerExpiry n => Sys2Proof.Machine.execIdentityTimerExpiry n s
  | .staleExpiry n => Sys2Proof.Machine.execStaleExpiry n s
  | .monitorLoss n => Sys2Proof.Machine.execMonitorLoss n s
  | .busStaleOnset => Sys2Proof.Machine.execBusStaleOnset s
  | .csuEvaluation n d => Sys2Proof.Machine.execCsuEvaluation n d s
  | .monitorStateReport n => Sys2Proof.Machine.execMonitorStateReport n s
  | .weldReport n => Sys2Proof.Machine.execWeldReport n s
  | .envelopeRecomputation input => Sys2Proof.Machine.execEnvelopeRecomputation input s
  | .rampStep => Sys2Proof.Machine.execRampStep s
  | .reportStaleExpiry => Sys2Proof.Machine.execReportStaleExpiry s
  | .overrunExpiry => Sys2Proof.Machine.execOverrunExpiry s
  | .siteStandingHandoff st => Sys2Proof.Machine.execSiteStandingHandoff st s
  | .feedbackChange n shut => Sys2Proof.Machine.execFeedbackChange n shut s
  | .prechargeExpiry n => Sys2Proof.Machine.execPrechargeExpiry n s
  | .closeFeedbackExpiry n => Sys2Proof.Machine.execCloseFeedbackExpiry n s
  | .openFeedbackExpiry n => Sys2Proof.Machine.execOpenFeedbackExpiry n s
  | .openDelayExpiry n => Sys2Proof.Machine.execOpenDelayExpiry n s
  | .selectExpiry n => Sys2Proof.Machine.execSelectExpiry n s
  | .isolationTimerExpiry => Sys2Proof.Machine.execIsolationTimerExpiry s
  | .swcScanRecord n current voltage => Sys2Proof.Machine.execSwcScanRecord n current voltage s
  | .swcBusRecord dc => Sys2Proof.Machine.execSwcBusRecord dc s
  | .swcMonitorLoss n => Sys2Proof.Machine.execSwcMonitorLoss n s
  | .swcBusStale => Sys2Proof.Machine.execSwcBusStale s
  | .healthHandoffSwc n h => Sys2Proof.Machine.execHealthHandoffSwc n h s
  | .fireStageHandoffSwc st => Sys2Proof.Machine.execFireStageHandoffSwc st s
  | .forcedOpen => Sys2Proof.Machine.execForcedOpen s
  | .gridWindowHandoffSwc st => Sys2Proof.Machine.execGridWindowHandoffSwc st s
  | .isolationConverterReport kw => Sys2Proof.Machine.execIsolationConverterReport kw s
  | .gridRecord r => Sys2Proof.Machine.execGridRecord r s
  | .gwmBusStale => Sys2Proof.Machine.execGwmBusStale s
  | .breakerReportGwm st => Sys2Proof.Machine.execBreakerReportGwm st s
  | .holdOffExpiry => Sys2Proof.Machine.execHoldOffExpiry s
  | .rideThroughExpiry => Sys2Proof.Machine.execRideThroughExpiry s
  | .tripDelayExpiry => Sys2Proof.Machine.execTripDelayExpiry s
  | .coolingSample supply coolantReturn ambient => Sys2Proof.Machine.execCoolingSample supply coolantReturn ambient s
  | .runFeedbackChange c running => Sys2Proof.Machine.execRunFeedbackChange c running s
  | .runFeedbackExpiry c => Sys2Proof.Machine.execRunFeedbackExpiry c s
  | .flowSwitchChange flow => Sys2Proof.Machine.execFlowSwitchChange flow s
  | .flowConfirmExpiry => Sys2Proof.Machine.execFlowConfirmExpiry s
  | .flowLossExpiry => Sys2Proof.Machine.execFlowLossExpiry s
  | .retryExpiry => Sys2Proof.Machine.execRetryExpiry s
  | .tryExpiry => Sys2Proof.Machine.execTryExpiry s
  | .provingExpiry => Sys2Proof.Machine.execProvingExpiry s
  | .exhaustFeedbackChange running => Sys2Proof.Machine.execExhaustFeedbackChange running s
  | .exhaustFeedbackExpiry => Sys2Proof.Machine.execExhaustFeedbackExpiry s
  | .zoneStageHandoffClc zs => Sys2Proof.Machine.execZoneStageHandoffClc zs s
  | .stringStateReportClc n st => Sys2Proof.Machine.execStringStateReportClc n st s
  | .loopChange z l raw => Sys2Proof.Machine.execLoopChange z l raw s
  | .loopConfirmation z l => Sys2Proof.Machine.execLoopConfirmation z l s
  | .callPointChange operated => Sys2Proof.Machine.execCallPointChange operated s
  | .callPointConfirmation => Sys2Proof.Machine.execCallPointConfirmation s
  | .holdButtonChange pressed => Sys2Proof.Machine.execHoldButtonChange pressed s
  | .gasSample z ppm => Sys2Proof.Machine.execGasSample z ppm s
  | .releaseTimerExpiry z => Sys2Proof.Machine.execReleaseTimerExpiry z s
  | .pulseTimerExpiry z => Sys2Proof.Machine.execPulseTimerExpiry z s
  | .testTimerExpiry z => Sys2Proof.Machine.execTestTimerExpiry z s
  | .balanceRecord n vmax bleed => Sys2Proof.Machine.execBalanceRecord n vmax bleed s
  | .thermalHoldHandoff on => Sys2Proof.Machine.execThermalHoldHandoff on s
  | .balFireStageHandoff st => Sys2Proof.Machine.execBalFireStageHandoff st s
  | .balHealthHandoff n h => Sys2Proof.Machine.execBalHealthHandoff n h s
  | .balMonitorLoss n => Sys2Proof.Machine.execBalMonitorLoss n s
  | .balStandingHandoff p st => Sys2Proof.Machine.execBalStandingHandoff p st s
  | .durationExpiry => Sys2Proof.Machine.execDurationExpiry s
  | .periodExpiry p => Sys2Proof.Machine.execPeriodExpiry p s
  | .deadlineExpiry p => Sys2Proof.Machine.execDeadlineExpiry p s
  | .eventOccurrence o => Sys2Proof.Machine.execEventOccurrence o s
  | .updateRequest => Sys2Proof.Machine.execUpdateRequest s
  | .programmingCompletion ok => Sys2Proof.Machine.execProgrammingCompletion ok s
  | .updateCompletion ok => Sys2Proof.Machine.execUpdateCompletion ok s
  | .integrityCheck failing => Sys2Proof.Machine.execIntegrityCheck failing s

end Sys2Proof.Machine
end

