-- ==== Sys2Proof/Machine/Step.lean ====
section
/-! DEFINITION. One step: the command at the front of the queue, or what the part does of itself while none waits (log 2). -/

namespace Sys2Proof.Machine

/-- The step taken while no command waits. -/
def idleStep (s : State) : Host.Outcome State Fault Refusal :=
  match s.dev.ownNext with
  | some i => exec i s
  | none => .next (s.on Device.tick)

/-- One step. -/
def step (s : State) : Host.Outcome State Fault Refusal :=
  match s.pending with
  | i :: rest => exec i { s with pending := rest }
  | [] => idleStep s

/-- The command that a word spells, put at the front of the queue; a word that spells none changes nothing. -/
def State.withFetchWord (s : State) (nbits w : Nat) : State :=
  match decodeTableWord nbits w with
  | some i => { s with pending := i :: s.pending }
  | none => s

end Sys2Proof.Machine
end

