-- ==== Sys2Proof/WellFormed.lean ====
section
/-! DEFINITION. Which commands are well formed: each frame under the row of the table that names it, and each hand-off with values its
sender can form. -/

namespace Sys2Proof

/-- A NOP, or a frame that no other row of the table names: an unknown kind, an unknown service. -/
def Frame.wfNop (f : Frame) : Bool := f.kind == 0 || 8 < f.kind.toNat || (f.kind == 3 && 19 < f.index.toNat)

/-- A READ of an item other than the generation, which GENERATION_READ names. -/
def ItemFrame.wfRead (f : ItemFrame) : Bool := !(f.table == 4 && f.index == 2)

/-- The items whose WRITE has a row of its own. -/
def hasOwnWrite (table index : Nat) : Bool :=
  match table with
  | 2 => 32 ≤ index && index < 64
  | 3 => index < 34
  | 5 => index < 5
  | 6 => index < 3
  | 11 => index == 16
  | 12 => index == 1 || index == 2
  | 13 => index < 49
  | _ => false

def ItemFrame.wfWrite (f : ItemFrame) : Bool := !hasOwnWrite f.table.toNat f.index.toNat

/-- R58, R60: an item of table 3; the window shows the first 24. -/
def wfDerating (via : DeratingVia) (index : Byte) : Bool :=
  match via with
  | .table3 => index.toNat < 34
  | .window => index.toNat < 24

/-- R4: a scan record as SLC delivers it. -/
def ScanRecord.wfHeld (r : ScanRecord) : Bool :=
  8 ≤ r.modules.length && r.modules.length ≤ 16 && r.saturated == r

def CsuDelivery.wf : CsuDelivery → Bool
  | .full r _ => r.wfHeld
  | .hardOnly r => r.wfHeld
  | .staleExpiry => true

/-- R5: a bus record as SLC delivers it. -/
def BusRecord.wfHeld (r : BusRecord) : Bool := r.saturated == r

def within (lo hi x : Int) : Bool := lo ≤ x && x ≤ hi

def EnvCopy.wf (c : EnvCopy) : Bool :=
  c.temps.all (fun t => t.all (within (-400) 1250)) && within 0 5000 c.vmax && within 0 5000 c.vmin &&
    within 0 15000 c.voltage

/-- R42, R48: the values that an input change can carry. -/
def EnvInput.wf : EnvInput → Bool
  | .evaluation _ copy _ => copy.all (·.wf)
  | .thermal kw => kw ≤ 9999
  | _ => true

/-- R169, R174: a subject names a table up to 15, and a detail lies in 0..255. -/
def Occurrence.wf (o : Occurrence) : Bool :=
  o.detail.all (· ≤ 255) &&
    match o.subject with
    | .table t => t ≤ 15
    | _ => true

/-- The command is well formed. -/
def Instr.wf : Instr → Bool
  | .nop _ f => f.wfNop
  | .read _ f => f.wfRead
  | .write _ f => f.wfWrite
  | .accessMapWrite _ index _ => index.toNat < 49
  | .deratingWrite _ via index _ => wfDerating via index
  | .csuEvaluation _ d => d.wf
  | .envelopeRecomputation i => i.wf
  | .swcScanRecord _ current voltage => within (-5000) 5000 current && within 0 15000 voltage
  | .swcBusRecord dc => within 0 15000 dc
  | .isolationConverterReport kw => within (-9999) 9999 kw
  | .gridRecord r => r.wfHeld
  | .balanceRecord _ vmax _ => 8 ≤ vmax.length && vmax.length ≤ 16 && vmax.all (within 0 5000)
  | .eventOccurrence o => o.wf
  | _ => true

end Sys2Proof
end

