-- ==== Sys2Proof/Safety.lean ====
section
/-! DEFINITION. What statements about the part speak of: which blocks a command may touch, what a request's transfer leaves behind, and
the laws that the chapters state of every moment. -/

namespace Sys2Proof.Machine

/-! ## Which blocks differ -/

/-- The fields of the part. -/
inductive Block where
  | handoffs | settings | pins | slc | csu | env | du | swc | gwm | clc | fgu | bal | sdm | pif | evr | sto
  deriving DecidableEq, Repr

/-- A field reads the same in e as in d. -/
def Block.kept (d e : Device) : Block → Prop
  | .handoffs => e.handoffs = d.handoffs
  | .settings => e.settings = d.settings
  | .pins => e.pins = d.pins
  | .slc => e.slc = d.slc
  | .csu => e.csu = d.csu
  | .env => e.env = d.env
  | .du => e.du = d.du
  | .swc => e.swc = d.swc
  | .gwm => e.gwm = d.gwm
  | .clc => e.clc = d.clc
  | .fgu => e.fgu = d.fgu
  | .bal => e.bal = d.bal
  | .sdm => e.sdm = d.sdm
  | .pif => e.pif = d.pif
  | .evr => e.evr = d.evr
  | .sto => e.sto = d.sto

/-- At most the fields named differ. -/
def Only (bs : List Block) (d e : Device) : Prop := ∀ b, b ∉ bs → b.kept d e

/-- The blocks a warm restart changes, and so every command within which one may take effect (R179). -/
def restartTouches : List Block :=
  [.handoffs, .settings, .slc, .csu, .env, .du, .swc, .gwm, .clc, .fgu, .bal, .sdm, .sto]

/-- The blocks a well-formed command may change. -/
def touches : Instr → List Block
  | .powerOnReset =>
    [.handoffs, .settings, .slc, .csu, .env, .du, .swc, .gwm, .clc, .fgu, .bal, .sdm, .pif, .evr, .sto]
  | .warmRestart | .programmingCompletion _ | .updateCompletion _ | .integrityCheck _ => restartTouches
  | .linkResetAssert _ | .incompleteTransfer _ | .nop _ _ | .read _ _ | .lockTable _ _ | .siteHold _ _
  | .siteReleaseHold _ _ | .lockMap _ _ => [.pif]
  | .portReset _ => [.handoffs, .env, .du, .swc, .sdm, .pif, .evr]
  | .generationRead _ _ => [.env, .pif]
  | .write _ _ | .siteCapWrite _ _ _ | .deratingWrite _ _ _ _ => [.handoffs, .settings, .sto, .pif]
  | .siteOrderWrite _ _ => [.handoffs, .settings, .du, .pif]
  | .rampRateWrite _ _ | .fallbackOrderWrite _ _ => [.handoffs, .settings, .sto, .du, .pif]
  | .converterReport _ _ => [.handoffs, .du, .pif]
  | .ratingWrite _ _ _ => [.handoffs, .env, .pif]
  | .isolationRequestWrite _ _ => [.handoffs, .settings, .sto, .swc, .du, .pif]
  | .accessMapWrite _ _ _ => [.settings, .sto, .pif]
  | .cursorWrite _ _ | .maskWrite _ _ | .ackEvents _ _ => [.evr, .pif]
  | .expectationRewrite _ _ _ _ => [.handoffs, .settings, .sto, .slc, .pif]
  | .storeTable _ _ | .clearStoreStatus _ _ => [.sto, .pif]
  | .restart _ _ => .pif :: restartTouches
  | .releaseLockout _ _ => [.handoffs, .csu, .pif]
  | .clearSwitch _ _ | .operate _ _ => [.handoffs, .swc, .du, .pif]
  | .zoneReset _ _ | .zoneRearm _ _ | .zoneTestStart _ _ | .zoneTestEnd _ _ => [.handoffs, .fgu, .pif]
  | .forceEvent _ _ => [.handoffs, .pif]
  | .balanceStart _ _ | .balanceSuspend _ _ | .balanceResume _ _ | .balanceClear _ _ => [.bal, .pif]
  | .balanceCancel _ _ => [.handoffs, .bal, .pif]
  | .coolingFaultClear _ _ => [.handoffs, .clc, .pif]
  | .answer _ _ => [.handoffs, .du, .swc, .sdm, .pif]
  | .select _ _ | .cancel _ _ => [.swc, .pif]
  | .linkSlot => [.slc]
  | .scanRecord _ _ | .busRecord _ _ | .identityRecord _ _ | .identityTimerExpiry _ | .staleExpiry _ | .monitorLoss _
  | .busStaleOnset => [.handoffs, .slc]
  | .csuEvaluation _ _ | .monitorStateReport _ | .weldReport _ => [.handoffs, .csu]
  | .envelopeRecomputation _ => [.handoffs, .env, .du]
  | .rampStep => [.du]
  | .reportStaleExpiry | .overrunExpiry | .siteStandingHandoff _ => [.handoffs, .du]
  | .feedbackChange _ _ => [.handoffs, .pins, .swc, .du]
  | .selectExpiry _ => [.swc]
  | .prechargeExpiry _ | .closeFeedbackExpiry _ | .openFeedbackExpiry _ | .openDelayExpiry _ | .isolationTimerExpiry
  | .swcScanRecord _ _ _ | .swcBusRecord _ | .swcMonitorLoss _ | .swcBusStale | .healthHandoffSwc _ _
  | .fireStageHandoffSwc _ | .forcedOpen | .gridWindowHandoffSwc _ | .isolationConverterReport _ => [.handoffs, .swc, .du]
  | .gridRecord _ | .gwmBusStale | .breakerReportGwm _ | .holdOffExpiry | .rideThroughExpiry | .tripDelayExpiry =>
    [.handoffs, .gwm]
  | .coolingSample _ _ _ => [.handoffs, .pins, .clc]
  | .runFeedbackChange _ _ | .flowSwitchChange _ | .exhaustFeedbackChange _ => [.pins, .clc]
  | .retryExpiry | .tryExpiry => [.clc]
  | .runFeedbackExpiry _ | .flowConfirmExpiry | .flowLossExpiry | .provingExpiry | .exhaustFeedbackExpiry
  | .zoneStageHandoffClc _ | .stringStateReportClc _ _ => [.handoffs, .clc]
  | .loopChange _ _ _ | .callPointChange _ | .pulseTimerExpiry _ => [.fgu]
  | .loopConfirmation _ _ | .callPointConfirmation | .holdButtonChange _ | .releaseTimerExpiry _ | .testTimerExpiry _ =>
    [.handoffs, .fgu]
  | .gasSample _ _ => [.handoffs, .pins, .fgu]
  | .balanceRecord _ _ _ | .thermalHoldHandoff _ | .balFireStageHandoff _ | .balHealthHandoff _ _ | .balMonitorLoss _
  | .balStandingHandoff _ _ | .durationExpiry => [.handoffs, .bal]
  | .periodExpiry _ | .deadlineExpiry _ => [.handoffs, .du, .swc, .sdm]
  | .eventOccurrence _ => [.handoffs, .evr]
  | .updateRequest => [.handoffs, .sto]

/-! ## Requests -/

/-- A request at a port: the port and its eight bytes. -/
structure Request where
  port : Port
  frame : Frame

/-- The port and the frame of a request command; none for a command that is no request. -/
def requestOf : Instr → Option Request
  | .nop p f => some ⟨p, f⟩
  | .read p f => some ⟨p, f.frame kindRead⟩
  | .generationRead p f => some ⟨p, f.frame kindRead 4 2⟩
  | .write p f => some ⟨p, f.frame kindWrite⟩
  | .siteOrderWrite p f => some ⟨p, f.frame kindWrite 5 0⟩
  | .rampRateWrite p f => some ⟨p, f.frame kindWrite 5 1⟩
  | .fallbackOrderWrite p f => some ⟨p, f.frame kindWrite 5 2⟩
  | .siteCapWrite p .charge f => some ⟨p, f.frame kindWrite 5 3⟩
  | .siteCapWrite p .discharge f => some ⟨p, f.frame kindWrite 5 4⟩
  | .converterReport p f => some ⟨p, f.frame kindWrite 6 0⟩
  | .ratingWrite p .charge f => some ⟨p, f.frame kindWrite 6 1⟩
  | .ratingWrite p .discharge f => some ⟨p, f.frame kindWrite 6 2⟩
  | .isolationRequestWrite p f => some ⟨p, f.frame kindWrite 11 16⟩
  | .accessMapWrite p i f => some ⟨p, f.frame kindWrite 13 i⟩
  | .cursorWrite p f => some ⟨p, f.frame kindWrite 12 2⟩
  | .maskWrite p f => some ⟨p, f.frame kindWrite 12 1⟩
  | .expectationRewrite p s .moduleCount f => some ⟨p, f.frame kindWrite 2 (BitVec.ofNat 8 (32 + 2 * s.num))⟩
  | .expectationRewrite p s .chemistry f => some ⟨p, f.frame kindWrite 2 (BitVec.ofNat 8 (33 + 2 * s.num))⟩
  | .deratingWrite p .table3 i f => some ⟨p, f.frame kindWrite 3 i⟩
  | .deratingWrite p .window i f => some ⟨p, f.frame kindWrite 2 (i + 40)⟩
  | .storeTable p f => some ⟨p, f.frame 0⟩
  | .clearStoreStatus p f => some ⟨p, f.frame 1⟩
  | .lockTable p f => some ⟨p, f.frame 2⟩
  | .siteHold p f => some ⟨p, f.frame 3⟩
  | .siteReleaseHold p f => some ⟨p, f.frame 4⟩
  | .lockMap p f => some ⟨p, f.frame 5⟩
  | .releaseLockout p f => some ⟨p, f.frame 6⟩
  | .clearSwitch p f => some ⟨p, f.frame 7⟩
  | .zoneReset p f => some ⟨p, f.frame 8⟩
  | .zoneRearm p f => some ⟨p, f.frame 9⟩
  | .zoneTestStart p f => some ⟨p, f.frame 10⟩
  | .zoneTestEnd p f => some ⟨p, f.frame 11⟩
  | .forceEvent p f => some ⟨p, f.frame 12⟩
  | .balanceStart p f => some ⟨p, f.frame 13⟩
  | .balanceSuspend p f => some ⟨p, f.frame 14⟩
  | .balanceResume p f => some ⟨p, f.frame 15⟩
  | .balanceCancel p f => some ⟨p, f.frame 16⟩
  | .balanceClear p f => some ⟨p, f.frame 17⟩
  | .coolingFaultClear p f => some ⟨p, f.frame 18⟩
  | .restart p f => some ⟨p, f.frame 19⟩
  | .answer p f => some ⟨p, f.frame kindAnswer⟩
  | .ackEvents p f => some ⟨p, f.frame kindAck⟩
  | .select p f => some ⟨p, f.frame kindSelect⟩
  | .operate p f => some ⟨p, f.frame kindOperate⟩
  | .cancel p f => some ⟨p, f.frame kindCancel⟩
  | _ => none

/-- The link runs and the frame's check matches: the part acts on the request (R162, R163). -/
def Takes (s : State) (i : Instr) : Prop :=
  ∃ r, requestOf i = some r ∧ (s.dev.link r.port).running = true ∧ r.frame.check = crc8 r.frame.body

/-- The reply frame that a transfer at port p carries out: the pending reply, or a NOP reply of OK and 0, with the station summary of
the moment (R162, R164). -/
def Device.carriedOut (d : Device) (p : Port) : ReplyFrame :=
  match (d.link p).pending with
  | some r => r.frame (d.summary p)
  | none => (⟨0, .ok, 0⟩ : Reply).frame (d.summary p)

/-- After a request at port p: the old reply is carried out, the new one pends with its kind, result and (where stated) value, and the
rest of the part stands as in d. The count of open replies is the model's own. -/
def Replies (s t : State) (p : Port) (kind : Byte) (r : Result) (v : Option Word) (d : Device) : Prop :=
  t.pending = s.pending ∧
  ∃ value n, (∀ x, v = some x → value = x ∧ n = d.pif.openReplies) ∧
    t.dev = { d with pif := { d.pif with
      ports := d.pif.ports.set p ⟨some ⟨kind, r, value⟩, true, some (s.dev.carriedOut p)⟩
      openReplies := n } }

/-- R164, R170: the station summary byte of port p from the state of part d: an unmasked pending flag, a challenge outstanding, the standing,
the generation-changed flag, a fire stage of PREALARM or higher, ISOLATED, and a lockout of any string. -/
def SummaryShows (d : Device) (p : Port) (b : Byte) : Prop :=
  (b.getLsbD 0 = true ↔ ∃ c : EventClass, (d.evr.flags.get p).getLsbD c.num = true ∧ (d.evr.masks.get p).getLsbD c.num = false) ∧
  (b.getLsbD 1 = true ↔ (d.sdm.ports.get p).outstanding = true) ∧
  b.toNat / 4 % 4 = (match d.standing p with
    | .unchecked => 0 | .inStanding => 1 | .lapsed => 2 | .forfeit => 3 | .barred => 3) ∧
  (b.getLsbD 4 = true ↔ d.env.changed.get p = true) ∧
  (b.getLsbD 5 = true ↔ d.fgu.stationStage = .prealarm ∨ d.fgu.stationStage = .alarm ∨ d.fgu.stationStage = .released) ∧
  (b.getLsbD 6 = true ↔ d.swc.isolation = .isolated) ∧
  (b.getLsbD 7 = true ↔ ∃ n, (d.csu.strings.get n).causes ≠ .none)

/-- A request that is refused: value 0, and nothing changes but the reply. -/
def Refuses (s t : State) (p : Port) (kind : Byte) (r : Result) : Prop := Replies s t p kind r (some 0) s.dev

/-- IN_STANDING or LAPSED (R165). -/
abbrev Trusted (d : Device) (p : Port) : Prop := d.standing p = .inStanding ∨ d.standing p = .lapsed

/-- The port's right on a table is RW (R167). -/
abbrev MayWrite (d : Device) (p : Port) (table : Nat) : Prop := d.item .t13 (3 * table + p.num) = 2

/-- The port's switching right covers the switch (R167): 1 strings, 2 the breaker, 3 both. -/
abbrev MaySwitch (d : Device) (p : Port) (n : SwitchId) : Prop :=
  d.item .t13 (45 + p.num) = 3 ∨ d.item .t13 (45 + p.num) = if n = .g then 2 else 1

/-- A WRITE to a table with locks stops at this row of R165's table; none where every row lets it pass. -/
inductive Stopped (d : Device) (p : Port) (t : StoredTable) : Result → Prop where
  | denied : ¬MayWrite d p t.num → Stopped d p t .denied
  | noStanding : MayWrite d p t.num → ¬Trusted d p → Stopped d p t .noStanding
  | locked : MayWrite d p t.num → Trusted d p → d.tableLocked t = true → Stopped d p t .locked
  | busy : MayWrite d p t.num → Trusted d p → d.tableLocked t = false → d.sto.engine = .storing t → Stopped d p t .busy

/-- Every row of R165's table lets the WRITE pass to the owner. -/
def Passes (d : Device) (p : Port) (t : StoredTable) : Prop :=
  MayWrite d p t.num ∧ Trusted d p ∧ d.tableLocked t = false ∧ d.sto.engine ≠ .storing t

/-- A value that table tb takes at item i: in the item's range, and with it the table keeps its orders. -/
def Admits (d : Device) (tb : StoredTable) (i : Nat) (v : Int) : Prop :=
  (rangeOf tb i).has v = true ∧ ordersOf tb (fun j => if j = i then v else d.item tb j) = true

/-- The part once item i of table tb has the value v by a WRITE that is answered OK: the kept check of the table is set afresh where its
stored copy holds the item, which leaves the site order out (R174, R179). -/
def Device.wrote (d : Device) (tb : StoredTable) (i : Nat) (v : Int) : Device :=
  let items := (d.settings.get tb).set i v
  { d with
    settings := d.settings.set tb items
    sto := if tb = .t5 ∧ i = 0 then d.sto else
      { d.sto with kept := d.sto.kept.set tb (if tb = .t5 then items.set 0 0 else items) } }

/-- What a WRITE of value v to item i of settings table tb leaves, for an item whose range is refused outside: the first row of R165's
table that applies, RANGE, or OK with the value stored and, where `feeds` says so, a recomputation at ENV. -/
def SettingsWrite (s t : State) (p : Port) (tb : StoredTable) (i : Nat) (v : Word) (feeds : Prop) : Prop :=
  (∀ r, Stopped s.dev p tb r → Refuses s t p 2 r) ∧
  (Passes s.dev p tb → ¬Admits s.dev tb i v.toInt → Refuses s t p 2 .range) ∧
  (Passes s.dev p tb → Admits s.dev tb i v.toInt → ∃ hs,
    (feeds → hs = [.envelopeRecomputation .settings]) ∧ (¬feeds → hs = []) ∧
    Replies s t p 2 .ok (some v)
      { s.dev.wrote tb i v.toInt with handoffs := s.dev.handoffs ++ hs })

/-- R65: the target for an effective order. -/
def Device.targetFor (d : Device) (order : Int) : Int :=
  if d.forced then 0 else max (-d.env.chg) (min d.env.dis order)

/-- R68, R79: the ramp-step timer after an event that leaves this grant and target: it runs in RUN while they differ, once the converter has
made its first report since the restart (Log 39), and one that ran keeps its time. -/
def Device.rampFor (d : Device) (granted target : Int) : Option Nat :=
  if d.forced = false ∧ d.standing .converter = .inStanding ∧ d.du.reported = true ∧ granted ≠ target then
    some (d.du.rampTimer.getD 100)
  else none

/-- What a taken order write of value v at item k of table 5 leaves (R63, R64, R65, R68), or the row of R165's table that stops it: the item
holds v, the effective order and the target are set afresh, the grant stays, the ramp-step timer follows, and ENV recomputes. -/
def OrderWrite (s t : State) (p : Port) (k : Nat) (v : Int) : Prop :=
  (∀ r, Stopped s.dev p .t5 r → Refuses s t p 2 r) ∧
  (Passes s.dev p .t5 →
    let items := (s.dev.settings.get .t5).set k v
    let site := s.dev.du.siteStanding = .inStanding ∨ s.dev.du.siteStanding = .lapsed
    let order := if site then items.getD 0 0 else items.getD 2 0
    let target := s.dev.targetFor order
    Replies s t p 2 .ok (some (BitVec.ofInt 32 v)) { s.dev.wrote .t5 k v with
      du := { s.dev.du with
        order := order
        source := if site then .site else .fallback
        target := target
        rampTimer := s.dev.rampFor s.dev.du.granted target }
      handoffs := s.dev.handoffs ++ [.envelopeRecomputation .settings] })

/-! ## Laws of every moment -/

/-- R171: at most 32 incidents, each with a sequence number of its own, which is not 0. -/
def QueueLaw (d : Device) : Prop :=
  d.evr.queue.length ≤ 32 ∧ (d.evr.queue.map (·.seq)).Nodup ∧ ∀ i ∈ d.evr.queue, 1 ≤ i.seq ∧ i.seq ≤ 4294967295

/-- R21, R26: a pinned channel stands at 255 and tripped; any other counter lies within 0..L + H, and is at L or above while tripped. -/
def CounterLaw (d : Device) : Prop :=
  ∀ s k, let c := (d.sup s).channels.get k;
    if c.pinned then c.counter = 255 ∧ c.tripped = true
    else c.counter ≤ c.limit + c.hold ∧ (c.tripped = true → c.limit ≤ c.counter)

/-- R65, R66, R68, R79: with a forcing cause the grant and the target are 0; without one the target is the order brought within the
envelope; the ramp-step timer runs exactly in RUN with the grant off its target, once the converter has made its first report since the
restart (Log 39). -/
def DispatchLaw (d : Device) : Prop :=
  (d.forced = true → d.du.granted = 0 ∧ d.du.target = 0) ∧
  (d.forced = false → d.du.target = max (-d.env.chg) (min d.env.dis d.du.order)) ∧
  (d.du.rampTimer.isSome = true ↔ d.forced = false ∧ d.standing .converter = .inStanding ∧ d.du.reported = true ∧
    d.du.granted ≠ d.du.target)

/-- The items of a table that its owner lets a port write lie in their ranges, and the table keeps its orders (R35, R58, R76, R105, R123,
R141, R154, R167). -/
def Sound (t : StoredTable) (xs : List Int) : Prop :=
  xs.length = (factory t).length ∧
  (∀ i, i < xs.length → (ItemRef.mk t.num i).writable = true → (rangeOf t i).has (xs.getD i 0) = true) ∧
  ordersOf t (fun i => xs.getD i 0) = true

/-- Every settings table, every stored copy that passes its check, and table 8 as CLC last took it, is sound. -/
def SettingsLaw (d : Device) : Prop :=
  (∀ t, Sound t (d.settings.get t) ∧ ((d.sto.copies.get t).valid = true → Sound t (d.sto.copies.get t).contents)) ∧
  Sound .t8 d.clc.settings

/-- R174, R175, R177, R179: the kept check of each table is that of its working contents over the items that its copy holds; the engine's
operation has time left exactly while the engine is busy, at most 60 ms, and 20 for an update; an update waits only for a busy engine. -/
def StoreLaw (d : Device) : Prop :=
  (∀ t, d.sto.kept.get t = if t = .t5 then (d.settings.get t).set 0 0 else d.settings.get t) ∧
  (d.sto.opTimer = none ↔ d.sto.engine = .idle) ∧
  (∀ x, d.sto.opTimer = some x → x ≤ 60 ∧ ∀ r, d.sto.engine = .updating r → x ≤ 20) ∧
  (d.sto.updatePending = true → d.sto.engine ≠ .idle)

/-- R40, R46, R56, R66: the envelope is the least value over the active terms, the binding sets are the terms that reach it, it lies in
0..9999, and the grant lies within it. -/
def EnvelopeLaw (d : Device) : Prop :=
  0 ≤ d.env.ratingChg ∧ 0 ≤ d.env.ratingDis ∧
  (0 ≤ d.env.chg ∧ d.env.chg ≤ 9999) ∧ (0 ≤ d.env.dis ∧ d.env.dis ≤ 9999) ∧
  (∀ k, (d.env.terms.get k).active = true → d.env.chg ≤ (d.env.terms.get k).chg ∧ d.env.dis ≤ (d.env.terms.get k).dis) ∧
  (∀ k, k ∈ d.env.bindChg ↔ (d.env.terms.get k).active = true ∧ (d.env.terms.get k).chg = d.env.chg) ∧
  (∀ k, k ∈ d.env.bindDis ↔ (d.env.terms.get k).active = true ∧ (d.env.terms.get k).dis = d.env.dis) ∧
  d.env.bindChg ≠ [] ∧ d.env.bindDis ≠ [] ∧
  -d.env.chg ≤ d.du.granted ∧ d.du.granted ≤ d.env.dis

/-- R85: a selection is held by a port that is IN_STANDING, a CLOSE on an OPEN switch or an OPEN on a CLOSED one, and a port holds at
most one. -/
def SelectionLaw (d : Device) : Prop :=
  (∀ n x, (d.sw n).selection = some x →
    d.standing x.holder = .inStanding ∧
      (x.action = .close ∧ (d.sw n).state = .opened ∨ x.action = .opening ∧ (d.sw n).state = .closed)) ∧
  ∀ n m x y, (d.sw n).selection = some x → (d.sw m).selection = some y → x.holder = y.holder → n = m

/-- R82, R83: each inhibit stands exactly while its cause does; MISMATCH, which also follows the setting JOIN_WINDOW, stands apart in
`MismatchDerived`. -/
def InhibitLaw (d : Device) : Prop :=
  (∀ n, let x := (d.sw n).inhibits;
    (x.fire = true ↔ d.swc.fireStage.grave = true) ∧ (x.failed = true ↔ (d.sw n).failure = true) ∧
    (x.isolation = true ↔ d.item .t11 16 = 1) ∧ (x.busStale = true ↔ d.swc.busStale = true)) ∧
  (∀ s : StringId, let x := (d.sw s.switch).inhibits;
    (x.health = true ↔ d.swc.health.get s ≠ .available) ∧ x.gridHoldOff = false ∧ x.noString = false ∧
    x.converterStanding = false) ∧
  (let x := (d.sw .g).inhibits;
    (x.gridHoldOff = true ↔ d.swc.window ≠ .permitted) ∧ (x.noString = true ↔ (∀ s : StringId, (d.sw s.switch).state ≠ .closed)) ∧
    (x.converterStanding = true ↔ d.standing .converter ≠ .inStanding) ∧ x.health = false ∧ x.mismatch = false)

/-- R82: a string's MISMATCH stands exactly while another string is CLOSED and its voltage, 0 without a sample, differs from the bus voltage
by more than JOIN_WINDOW; equal to it is no mismatch. -/
def MismatchDerived (d : Device) : Prop :=
  ∀ n : StringId,
    let v := match d.swc.samples.get n with | some x => x.voltage | none => 0
    (d.sw n.switch).inhibits.mismatch = true ↔
      (∃ m : StringId, m ≠ n ∧ (d.sw m.switch).state = .closed) ∧ d.item .t11 18 < ((v - d.swc.busVoltage).natAbs : Int)

/-- OPEN or WELDED. -/
def Resting (d : Device) (n : SwitchId) : Prop := (d.sw n).state = .opened ∨ (d.sw n).state = .welded

/-- OPEN, OPENING or WELDED. -/
def Away (d : Device) (n : SwitchId) : Prop := Resting d n ∨ (d.sw n).state = .opening

/-- R93: while SWC holds a string LOCKED_OUT its switch is OPEN, OPENING or WELDED; while it holds the fire stage in ALARM or RELEASED all
five are. -/
def InterlockLaw (d : Device) : Prop :=
  (∀ s : StringId, d.swc.health.get s = .lockedOut → Away d s.switch) ∧
  (d.swc.fireStage.forces = true → ∀ n, Away d n)

/-- R98, R99: the status is RELEASED exactly while the request is off; else no switch is closing. While ISOLATING a switch has still to come
to rest, and with the breaker at rest no string is CLOSED; once ISOLATED every switch rests. The isolation timer runs only while ISOLATING
with the breaker CLOSED. -/
def IsolationLaw (d : Device) : Prop :=
  (d.swc.isolation = .released ↔ d.item .t11 16 ≠ 1) ∧
  (d.swc.isolation ≠ .released → ∀ n, (d.sw n).state ≠ .precharging ∧ (d.sw n).state ≠ .closing) ∧
  (d.swc.isolation = .isolating →
    (∃ n, ¬Resting d n) ∧ (Resting d .g → ∀ s : StringId, (d.sw s.switch).state ≠ .closed)) ∧
  (d.swc.isolation = .isolated → ∀ n, Resting d n) ∧
  (d.swc.isolationTimer.isSome = true → d.swc.isolation = .isolating ∧ (d.sw .g).state = .closed)

/-- R113, R116, R117: a stage runs only in CHILL, with flow confirmed and no battery zone in ALARM or beyond; the pump is on exactly in
STARTING, CONFIRMED and the TRYING and PROVING of a fault, which alone has a phase. -/
def CoolingLaw (d : Device) : Prop :=
  (∀ c, (d.stage c).state = .running → d.clc.mode = .chill ∧ d.clc.flow = .confirmed ∧ d.clc.batteryFire = false) ∧
  (d.clc.flow = .fault ↔ d.clc.phase ≠ .none) ∧
  (d.clc.pump = true ↔
    d.clc.flow = .starting ∨ d.clc.flow = .confirmed ∨ d.clc.phase = .trying ∨ d.clc.phase = .proving)

/-- R144, R150: the commanded bleed set is empty unless the run is RUNNING or SUSPEND_PENDING, and no run is live at fire stage PREALARM or
higher. -/
def BleedLaw (d : Device) : Prop :=
  (d.bal.run.state ≠ .running → d.bal.run.state ≠ .suspendPending → d.bal.commanded = 0) ∧
  (d.bal.run.state.live = true → d.bal.fireStage.grave = false)

/-- R157: the forfeit count is at most 3, and a port is BARRED exactly when it is 3. -/
def ForfeitLaw (d : Device) : Prop :=
  ∀ p, (d.port p).forfeits ≤ 3 ∧ ((d.port p).forfeits = 3 ↔ (d.port p).standing = .barred)


/-! ## Link records -/

/-- R3: the last two of the bytes are the CRC over every byte before them, most significant byte first. -/
def EndsWithCheck (bytes : List Byte) : Prop :=
  ∃ (body : List Byte) (high low : Byte), bytes = body ++ [high, low] ∧ (high ++ low : BitVec 16) = crc16 body

/-! ## Services and their effects -/

/-- A service of the Site Port: DENIED from another port, NO_STANDING without trust, else as `taken` says. -/
def SiteService (s t : State) (p : Port) (taken : Prop) : Prop :=
  (p ≠ .site → Refuses s t p 3 .denied) ∧ (p = .site → ¬Trusted s.dev p → Refuses s t p 3 .noStanding) ∧
  (p = .site → Trusted s.dev p → taken)

/-- R27, R19: a record within the soft thresholds of the string's expected class. -/
def WithinSoft (d : Device) (n : StringId) (r : ScanRecord) : Prop :=
  (∀ m ∈ r.modules, m.vmax ≤ d.threshold n 0 ∧ d.threshold n 2 ≤ m.vmin ∧ ∃ x, m.temp = some x ∧ x ≤ d.threshold n 4) ∧
  r.vmax - r.vmin ≤ d.threshold n 6 ∧ (r.current.natAbs : Int) ≤ d.threshold n 7

/-- The part with one switch's record replaced. -/
def Device.withSwitch (d : Device) (n : SwitchId) (r : SwitchRec) : Device :=
  { d with swc := { d.swc with switches := d.swc.switches.set n r } }

/-- R97: the reports of a switch's new state. -/
def reportsOf (n : SwitchId) (st : SwitchState) : List Instr :=
  match n.string with
  | some s => [.envelopeRecomputation (.stringSwitch s st false), .stringStateReportClc s st]
  | none => [.envelopeRecomputation (.breaker st), .breakerReportGwm st]

/-- R67, R73: DU once the breaker is not CLOSED. -/
def Du.away (u : Du) : Du := { u with granted := 0, target := 0, rampTimer := none, overrunTimer := none }

/-- R66, R68, R71, R79: DU of part d once the breaker is CLOSED, with the forcing causes and standings of part m. -/
def Device.duAtClose (d m : Device) : Du :=
  let granted := if m.forced then 0 else d.du.granted
  let target := if m.forced then 0 else max (-d.env.chg) (min d.env.dis d.du.order)
  { d.du with
    reportTimer := some (d.du.reportTimer.getD 1000)
    granted := granted
    target := target
    rampTimer := if m.forced = false ∧ m.standing .converter = .inStanding ∧ d.du.reported = true ∧ granted ≠ target then
      some (d.du.rampTimer.getD 100) else none }

/-- Part d once switch n has the record r of a new state and the hand-offs hs stand: the breaker's change ends the isolation timer and
reaches DU in the same event. The isolation sequence and the inhibits have not followed yet. -/
def SwitchSet (d m : Device) (n : SwitchId) (r : SwitchRec) (hs : List Instr) : Prop :=
  m = { d with
    handoffs := d.handoffs ++ hs
    swc := { (d.withSwitch n r).swc with isolationTimer := if n = .g then none else d.swc.isolationTimer }
    du := m.du } ∧
  m.du = if n = .g then (if r.state = .closed then d.duAtClose m else d.du.away) else d.du

/-- Switch n moves to record r with its reports and then the hand-offs hs; the isolation sequence and the inhibits follow (`Device.swcEnd`,
which SwitchingEventsEndAlike describes), and nothing else changes but a reply. -/
def SwitchMoved (d e : Device) (n : SwitchId) (r : SwitchRec) (hs : List Instr) : Prop :=
  ∃ m, SwitchSet d m n r (reportsOf n r.state ++ hs) ∧ e = { m.swcEnd with pif := e.pif }

/-- R91: an opening of switch n, whose record r carries the last result so far: OPENING for its feedback time, or OPEN at once and reported
where the feedback already shows open. -/
def Opened (d e : Device) (n : SwitchId) (r : SwitchRec) : Prop :=
  (d.pins.feedback.get n = true → SwitchMoved d e n
    { r with state := .opening, selection := none, openDelay := none, timer := some (if n = .g then 150 else 200) } []) ∧
  (d.pins.feedback.get n = false → SwitchMoved d e n
    { r with
      state := .opened
      selection := none
      openDelay := none
      timer := none
      lastResult := if r.lastResult = .aborted then .aborted else .done }
    [.eventOccurrence ⟨.switchDone, .switch n, some 2, false⟩])

/-- R93: a forced open of switch n, by its state. -/
def ForcedOpen (d e : Device) (n : SwitchId) : Prop :=
  let r := d.sw n
  (r.state = .closed → Opened d e n r) ∧
  (r.state = .precharging ∨ r.state = .closing → Opened d e n { r with lastResult := .aborted }) ∧
  (r.state = .opened ∨ r.state = .opening ∨ r.state = .welded → e = (d.withSwitch n { r with selection := none }).swcEnd)

/-- R91, R92: switch n is found WELDED: its record r takes the state, SWITCH_FAILED is raised with detail 3, and CSU hears of a string, the
failure flag marks the breaker. -/
def Welded (d e : Device) (n : SwitchId) : Prop :=
  SwitchMoved d e n
    { d.sw n with
      state := .welded
      selection := none
      openDelay := none
      timer := none
      lastResult := .failed
      failure := (d.sw n).failure || n == .g }
    (.eventOccurrence ⟨.switchFailed, .switch n, some 3, false⟩ ::
      (match n.string with | some x => [.weldReport x] | none => []))

/-- R81, R88, R89, R90: switch n returns to OPEN, failed with a detail. -/
def FailedOpen (d e : Device) (n : SwitchId) (detail : Nat) : Prop :=
  SwitchMoved d e n
    { d.sw n with
      state := .opened, selection := none, openDelay := none, timer := none, lastResult := .failed, failure := true }
    [.eventOccurrence ⟨.switchFailed, .switch n, some detail, false⟩]

/-- FGU with one zone's record replaced. -/
def Fgu.withZone (g : Fgu) (z : Zone) (r : ZoneRec) : Fgu := { g with zones := g.zones.set z r }

/-- R138: FGU with the station stage formed. -/
def Fgu.settled (g : Fgu) : Fgu := { g with stationStage := g.formStage }

/-- R138: the hand-offs that follow an event at FGU: the station stage and the test condition at a change of either, the stages as CLC
sees them at a change of a zone's stage or test mode. -/
def fireHandoffs (before after : Fgu) : List Instr :=
  (if after.stationStage ≠ before.stationStage ∨ after.testing ≠ before.testing then
    [.envelopeRecomputation (.fire after.stationStage after.testing), .fireStageHandoffSwc after.stationStage,
      .balFireStageHandoff after.stationStage]
   else []) ++
  (if Zone.all.any fun z => (after.zones.get z).posture != (before.zones.get z).posture then
    [.zoneStageHandoffClc after.shown]
   else [])

/-- R129, R131: a zone that has passed through ALARM: COUNTDOWN for the release delay, or HELD under a pressed hold button. -/
def ZoneRec.alarmed (d : Device) (r : ZoneRec) : ZoneRec :=
  if d.fgu.holdPressed then { r with stage := .held, testTimer := none, testGas := false, releaseTimer := none }
  else { r with stage := .countdown, testTimer := none, testGas := false, releaseTimer := some (1000 * d.itemNat .t9 0) }

/-- The part with one zone's record replaced. -/
def Device.withZone (d : Device) (z : Zone) (r : ZoneRec) : Device := { d with fgu := d.fgu.withZone z r }

/-- R127, R129: a zone outside test mode is judged on the detections present: its record becomes r, and hs is raised. -/
def Judged (d : Device) (z : Zone) (r : ZoneRec) (hs : List Instr) : Prop :=
  let o := d.zone z
  let kinds := d.fgu.kinds z
  let high := d.fgu.gasHigh z
  let alarms := high = true ∨ 2 ≤ kinds.length
  let quiet := o.stage = .normal ∨ o.stage = .fault
  (quiet ∨ o.stage = .prealarm → alarms →
    r = o.alarmed d ∧ hs = [.eventOccurrence ⟨.fireAlarm, .zone z, some (if high then 2 else 1), false⟩]) ∧
  (quiet → ¬alarms → kinds ≠ [] → r = { o with stage := .prealarm } ∧
    ∃ k, kinds = [k] ∧ hs = [.eventOccurrence ⟨.firePrealarm, .zone z, some k, false⟩]) ∧
  (quiet → ¬alarms → kinds = [] → r = { o with stage := if o.faultFlag then .fault else .normal } ∧ hs = []) ∧
  (o.stage = .prealarm → ¬alarms → r = o ∧ hs = []) ∧
  (o.stage = .countdown ∨ o.stage = .held ∨ o.stage = .released → r = o ∧ hs = [])

/-- R137: the record of zone z and the events once its test has ended: judged as if each detection present had just arrived. -/
def TestEnded (d : Device) (z : Zone) (r : ZoneRec) (hs : List Instr) : Prop :=
  Judged (d.withZone z { d.zone z with testTimer := none, testGas := false }) z r hs

/-- R150: BAL once a live run has ended with a code. -/
def Bal.ended (b : Bal) (code : Nat) : Bal :=
  { b with
    run := { b.run with state := .ended, endCode := code, thermalCause := false, portCause := false }
    commanded := 0
    history := []
    mismatch := 0 }

/-- R118: the temperature cap at Tmax, under items 7 to 9 of table 8 as `cool` holds it. -/
def tempCapOf (cool : List Int) (tmax : Int) : Int :=
  if tmax ≤ cool.getD 7 0 then 9999
  else if cool.getD 8 0 ≤ tmax then 0
  else cool.getD 9 0 * (cool.getD 8 0 - tmax) / (cool.getD 8 0 - cool.getD 7 0)

/-- R118, R123: where `formed` holds, CLC y with the THERMAL term and its parts formed from its own temperatures, stages and flow, under table
8 as the last sample took it, is x, and hs tells ENV of a changed value; where it does not, x is y. -/
def ThermalFormed (y : Clc) (formed : Prop) (x : Clc) (hs : List Instr) : Prop :=
  (¬formed → x = y ∧ hs = []) ∧
  (formed →
    let item (i : Nat) : Int := y.settings.getD i 0
    let temp := (y.lastTmax.map (tempCapOf y.settings)).getD 9999
    let n := (Stage.all.filter fun c => (y.stages.get c).state != .failed).length
    let stage := (y.lastTmax.map fun tmax => if item 4 < tmax then item 9 * n / 3 else 9999).getD 9999
    let flow := if y.flow = .fault then item 10 else 9999
    let kw := min temp (min stage flow)
    x = { y with tempCap := temp, stageCap := stage, flowCap := flow, thermal := kw } ∧
    hs = if kw = y.thermal then [] else [.envelopeRecomputation (.thermal kw.toNat)])

/-- R158, R85, R67: the standing record of port p becomes r. Where the standing is as it was, nothing else changes; a change raises
STANDING_CHANGED and goes to ENV, BAL and, for the Site Port, DU; out of IN_STANDING it removes the port's selections, and the Converter
Port's change sets DU's target and grant afresh. -/
def StandingSet (d e : Device) (p : Port) (r : PortStanding) : Prop :=
  e.port p = r ∧ (∀ q, q ≠ p → e.port q = d.port q) ∧ Only [.handoffs, .du, .swc, .sdm, .pif] d e ∧
  (r.standing = d.standing p → e.handoffs = d.handoffs ∧ e.swc = d.swc ∧ e.du = d.du) ∧
  (r.standing ≠ d.standing p → IsolationLaw d →
    e.handoffs = d.handoffs ++ (.eventOccurrence ⟨.standingChanged, .port p, some r.standing.code, false⟩ ::
      .envelopeRecomputation (.standing p r.standing) :: .balStandingHandoff p r.standing ::
      (if p = .site then [.siteStandingHandoff r.standing] else [])) ∧
    e.swc = { d.swc with switches := e.swc.switches } ∧
    (∀ n, e.sw n = { d.sw n with
      selection := (d.sw n).selection.filter fun x => r.standing == .inStanding || x.holder != p
      inhibits := (e.sw n).inhibits }) ∧
    ((e.sw .g).inhibits.converterStanding = true ↔ e.standing .converter ≠ .inStanding) ∧
    (p ≠ .converter → e.du = d.du) ∧
    (p = .converter →
      let granted := if e.forced then 0 else d.du.granted
      let target := if e.forced then 0 else max (-d.env.chg) (min d.env.dis d.du.order)
      e.du = { d.du with
        granted := granted
        target := target
        rampTimer := if e.forced = false ∧ r.standing = .inStanding ∧ d.du.reported = true ∧ granted ≠ target then
          some (d.du.rampTimer.getD 100) else none }))

/-- R157: a miss of a kind at port p: the challenge is closed, the miss counted; IN_STANDING falls to LAPSED, LAPSED to FORFEIT, or BARRED at
the third fall; every other standing stays. -/
def Missed (d e : Device) (p : Port) (kind : MissKind) : Prop :=
  let r := d.port p
  let forfeits := if r.standing = .lapsed then min 3 (r.forfeits + 1) else r.forfeits
  StandingSet d e p { r with
    outstanding := false
    deadline := none
    lastMiss := kind
    misses := min 65535 (r.misses + 1)
    forfeits := forfeits
    standing :=
      if r.standing = .inStanding then .lapsed
      else if r.standing = .lapsed then (if forfeits = 3 then .barred else .forfeit)
      else r.standing }

/-! ## Events of the blocks -/

/-- A record of a channel of limit L and hold H in table 2 after one evaluation: R22, then R21; a pinned channel takes the values alone
(R26). -/
def Evaluated (c c' : ChannelRec) (L H : Nat) (fails : Bool) : Prop :=
  let same := c.limit = L ∧ c.hold = H
  let n := if same then c.counter else min c.counter (L + H)
  let tripped : Bool := if same then c.tripped else decide (L ≤ n)
  (c.pinned = true → c' = { c with limit := L, hold := H }) ∧
  (c.pinned = false →
    (fails = true → tripped = true ∨ L ≤ n + 2 → c' = ⟨L + H, true, false, L, H⟩) ∧
    (fails = true → tripped = false → n + 2 < L → c' = ⟨n + 2, false, false, L, H⟩) ∧
    (fails = false → c' = ⟨n - 1, tripped && decide (L ≤ n - 1), false, L, H⟩))

/-- R29: the health that a cause set, a monitor state and channels give. -/
def HealthIs (causes : Causes) (m : MonitorState) (channels : PerChannel ChannelRec) (h : Health) : Prop :=
  (causes ≠ .none → h = .lockedOut) ∧
  (causes = .none →
    (m = .absent → h = .absent) ∧ (m = .interrogating → h = .interrogating) ∧ (m = .unrecognized → h = .unrecognized) ∧
    (m = .present → (∃ k, (channels.get k).tripped = true) → h = .tripped) ∧
    (m = .present → (∀ k, (channels.get k).tripped = false) → h = .available))

/-- R9, R12, R8: the monitor of string n ends in UNRECOGNIZED for a reason, off the identity list, and CSU hears of it. -/
def Unrecognized (d e : Device) (n : StringId) (m : Monitor) (why : Reason) : Prop :=
  e = { d with
    slc := { d.slc with
      monitors := d.slc.monitors.set n { m with
        state := .unrecognized, reason := why, identityTimer := none, stale := false, staleIn := none }
      identityList := d.slc.identityList.filter (· != n) }
    handoffs := d.handoffs ++
      [.eventOccurrence ⟨.stringUnrecognized, .string n, some why.code, false⟩, .monitorStateReport n] }

/-- The part with GWM's record replaced. -/
def Device.withGwm (d : Device) (g : Gwm) : Device := { d with gwm := g }

/-- R101: GWM's record becomes g in window state w, the occurrences and requests hs are handed on, and the state goes to ENV and SWC. -/
def WindowMoved (d e : Device) (g : Gwm) (w : WindowState) (hs : List Instr) : Prop :=
  e = { d with
    gwm := { g with window := w }
    handoffs := d.handoffs ++ (hs ++ [.envelopeRecomputation (.window w), .gridWindowHandoffSwc w]) }

/-- R103: a trip with a detail. -/
def GridTripped (d e : Device) (g : Gwm) (detail : Nat) : Prop :=
  WindowMoved d e { g with ride := none, trip := none } .tripped
    [.eventOccurrence ⟨.gridTrip, .switch .g, some detail, false⟩, .forcedOpen]

/-- R101: the hold-off timer at its full time and held. -/
def Gwm.heldOff (d : Device) (g : Gwm) : Gwm :=
  { g with holdOffLeft := 1000 * d.itemNat .t10 15, holdOffRunning := false }

/-- R101: PERMITTED is lost; a breaker that is CLOSING is forced open. -/
def PermissionLost (d e : Device) (g : Gwm) : Prop :=
  e = { d with
    gwm := { g.heldOff d with window := .holdOff }
    handoffs := d.handoffs ++ (.envelopeRecomputation (.window .holdOff) :: .gridWindowHandoffSwc .holdOff ::
      (if d.gwm.breaker = .closing then [.forcedOpen] else [])) }

/-- R102: the trip-delay timer after a record of class c that found it at t: stopped by a record outside the delayed trip bands, started by
the band of the shorter delay, brought forward by a shorter one. Between bands of one delay the low voltage band is reported. -/
def TripFollows (d : Device) (c : GridClass) (t t' : Option TripTimer) : Prop :=
  let low := c.volt = .lowTrip
  let off := c.freq = .trip
  let volt := d.itemNat .t10 6
  let freq := d.itemNat .t10 13
  let starts (delay : Nat) (cause : TripCause) := t' =
    match t with
    | none => some ⟨0, delay, cause⟩
    | some x =>
      if delay < x.delay ∨ delay = x.delay ∧ cause = .lowVoltage ∧ x.cause = .frequency then some ⟨x.elapsed, delay, cause⟩
      else some x
  (¬low → ¬off → t' = none) ∧
  (low → ¬off ∨ volt ≤ freq → starts volt .lowVoltage) ∧
  (off → ¬low ∨ freq < volt → starts freq .frequency)

/-- R102: the ride-through timer's limit after a record of class c that found it at a limit: the least of that and of the limits of the
ride-through bands the record lies in; none before any. -/
def RideFollows (d : Device) (c : GridClass) (limit limit' : Option Nat) : Prop :=
  let limits := limit.toList ++ (if c.volt = .lowRide then [d.itemNat .t10 7] else []) ++
    (if c.volt = .highRide then [d.itemNat .t10 8] else []) ++ (if c.freq = .ride then [d.itemNat .t10 14] else [])
  (limits = [] → limit' = none) ∧ (limits ≠ [] → ∃ x, limit' = some x ∧ x ∈ limits ∧ ∀ y ∈ limits, x ≤ y)

/-- R102: a record of class c outside the normal band and below the high trip, for GWM's record g in RIDE_THROUGH. -/
def RideRecord (d e : Device) (c : GridClass) (g : Gwm) : Prop :=
  let t := g.ride.getD ⟨0, none⟩
  ∃ limit trip, RideFollows d c t.limit limit ∧ TripFollows d c g.trip trip ∧
    ((∃ x, limit = some x ∧ x < t.elapsed) → GridTripped d e g 3) ∧
    ((∀ x, limit = some x → t.elapsed ≤ x) →
      e = { d with gwm := { g with ride := some { t with limit := limit }, trip := trip } })

/-- R113: the stages that run are stopped; hs tells of them in stage order. -/
def StagesStopped (d : Device) (stages : PerStage CoolStage) (hs : List Instr) : Prop :=
  (∀ c, stages.get c = if (d.stage c).state = .running then ⟨.off, 0, none⟩ else d.stage c) ∧
  hs = (Stage.all.filter fun c => (d.stage c).state == .running).map fun c =>
    .eventOccurrence ⟨.coolingStageChange, .stage c, some 2, false⟩

/-- R116: the pump is wanted. -/
def PumpWanted (x : Clc) : Prop := x.mode ≠ .idle ∨ (∃ n, x.stringClosed.get n = true) ∨ x.batteryFire = true

/-- R121, R120, R123: the outputs that belong to CLC's state, under table 8 as the last sample took it, and the exhaust feedback
timer after the fan's command of part d. -/
def OutputsFollow (d e : Device) : Prop :=
  let x := e.clc
  let cold := ∀ v, x.supply = some v → v < x.settings.getD 12 0
  let cut := x.batteryFire = true
  let vents := ¬cut ∧ (x.zones.z0 = .prealarm ∨ x.zones.z1 = .prealarm)
  let room := x.zones.z2 = .alarm ∨ x.zones.z2 = .released
  (x.exhaust = true ↔ vents) ∧ (x.dampersOpen = true ↔ vents ∧ ¬room) ∧
  (x.recirculation = true ↔ ¬cut ∧ (x.zones.z0 = .prealarm ∨ x.zones.z1 = .prealarm ∨ x.mode = .heat)) ∧
  (cut → x.fan = 0 ∧ x.heater = 0) ∧
  (¬cut → x.mode = .blind → x.fan = 50 ∧ x.heater = 0) ∧
  (¬cut → x.mode ≠ .blind → x.fan = x.fanAsked ∧
    (x.flow = .confirmed ∧ cold → x.heater = x.heaterAsked) ∧ (¬(x.flow = .confirmed ∧ cold) → x.heater = 0)) ∧
  x.exhaustTimer = if x.exhaust = true ∧ e.pins.exhaustFeedback = false then
    (if d.clc.exhaust = true then d.clc.exhaustTimer else some 5000) else none

/-- The CLC fields that the outputs are, taken from x. -/
def Clc.withOutputs (y x : Clc) : Clc :=
  { y with
    exhaust := x.exhaust, dampersOpen := x.dampersOpen, recirculation := x.recirculation, fan := x.fan, heater := x.heater
    exhaustTimer := x.exhaustTimer }

/-- R116, R117: the record that CLC takes once the pump want of y is acted on, and hs, the stages stopped with the pump. -/
def PumpFollows (d : Device) (y y' : Clc) (hs : List Instr) : Prop :=
  let wanted := PumpWanted y
  (y.flow = .fault →
    (wanted → y.phase = .held → y' =
      { y with pump := true, phase := if d.pins.flow then .proving else .trying, flowTimer := some 10000 } ∧ hs = []) ∧
    (wanted → y.phase ≠ .held → y' = y ∧ hs = []) ∧
    (¬wanted → y' = { y with pump := false, phase := .held, flowTimer := none } ∧ hs = [])) ∧
  (y.flow ≠ .fault →
    (wanted → y.pump = true → y' = y ∧ hs = []) ∧
    (wanted → y.pump = false → d.pins.flow = true →
      y' = { y with pump := true, flow := .confirmed, flowTimer := none } ∧ hs = []) ∧
    (wanted → y.pump = false → d.pins.flow = false →
      y' = { y with pump := true, flow := .starting, flowTimer := some 10000 } ∧ hs = []) ∧
    (¬wanted → y.pump = false → y' = y ∧ hs = []) ∧
    (¬wanted → y.pump = true → ∃ stages, StagesStopped { d with clc := y } stages hs ∧
      y' = { y with pump := false, flow := .none, flowTimer := none, stages := stages }))

/-- R117, R118: a flow fault with a detail: WAITING for a retry with the pump off, every running stage stopped, the event raised and THERMAL
formed. -/
def FlowFaulted (d e : Device) (detail : Nat) : Prop :=
  ∃ stages stops hs x, StagesStopped d stages stops ∧
    ThermalFormed
      { d.clc with flow := .fault, phase := .waiting, pump := false, flowTimer := some 60000, stages := stages } True x hs ∧
    e = { d with
      clc := x.withOutputs e.clc
      handoffs := d.handoffs ++ (stops ++ (.eventOccurrence ⟨.coolingFault, .table 8, some detail, false⟩ :: hs)) } ∧
    OutputsFollow d e

/-- An event at FGU that ends in record r for zone z, raising hs, from detections and inputs as part m holds them; the station stage and
the hand-offs of R138 follow, against part d before the event. -/
def ZoneMoved (d m e : Device) (z : Zone) (r : ZoneRec) (hs : List Instr) : Prop :=
  let g := (m.fgu.withZone z r).settled
  e = { m with fgu := g, handoffs := d.handoffs ++ (hs ++ fireHandoffs d.fgu g) }

/-- R150: the live run ends with a code. -/
def RunEnded (d e : Device) (code : Nat) : Prop :=
  e = { d with
    bal := d.bal.ended code
    handoffs := d.handoffs ++ [.eventOccurrence ⟨.balanceEnded, .string d.bal.run.string, some code, false⟩] }

/-- R146: the commanded set after a record of these module voltages: bit p stands for a module p above the target by more than 10. -/
def BleedSet (target : Nat) (vmax : List Int) (set : BitVec 16) : Prop :=
  ∀ p, p < 16 → (set.getLsbD p = true ↔ ∃ v, vmax[p]? = some v ∧ (target : Int) + 10 < v)

/-- R177: STO after an operation: a pending update starts on the state as it stands, for 20 ms, or the engine becomes IDLE. -/
def Proceeded (d e : Device) (x : Sto) (hs : List Instr) : Prop :=
  (x.updatePending = true → e = { d with
    sto := { x with
      engine := .updating ⟨d.csu.strings.map (·.causes), d.fgu.zones.map fun z => z.stage == .released⟩
      opTimer := some 20
      operations := x.operations + 1
      updatePending := false }
    handoffs := d.handoffs ++ hs }) ∧
  (x.updatePending = false →
    e = { d with sto := { x with engine := .idle, opTimer := none }, handoffs := d.handoffs ++ hs })

/-! ## The envelope formed (R40 to R53, R56) -/

/-- R40, R46 to R53, R56: ENV's eight terms from its contributions, its inputs and the settings, the envelope as the least value over the
active terms, and the binding sets as the active terms that reach it. -/
def EnvelopeFormed (d : Device) : Prop :=
  let x := d.env
  let share (f : Contribution → Int) (n : StringId) : Int :=
    if (x.contributions.get n).counted = true then f (x.contributions.get n) * (x.contributions.get n).voltage else 0
  let total (f : Contribution → Int) : Int :=
    max 0 (min 9999 ((share f .s0 + share f .s1 + share f .s2 + share f .s3) / 100000))
  let both (v : Int) : TermValue := ⟨v, v, true⟩
  let off : TermValue := ⟨9999, 9999, false⟩
  let b := x.terms.battery
  let least (f : TermValue → Int) (v : Int) : Prop :=
    v ≤ 9999 ∧ (∀ k, (x.terms.get k).active = true → v ≤ f (x.terms.get k)) ∧
      (v = 9999 ∨ ∃ k, (x.terms.get k).active = true ∧ f (x.terms.get k) = v)
  b = ⟨total (·.chgCurrent), total (·.disCurrent), true⟩ ∧
  x.terms.rack = (if x.cellStanding = .inStanding ∨ x.cellStanding = .lapsed then off
    else ⟨b.chg * d.item .t11 8 / 1024, b.dis * d.item .t11 8 / 1024, true⟩) ∧
  x.terms.thermal = both x.thermal ∧
  x.terms.fire = (if x.fireStage = .normal ∧ x.fireTest = false then off
    else if x.fireStage = .normal ∨ x.fireStage = .fault then both (d.item .t9 3) else both 0) ∧
  x.terms.grid = (if x.breaker = .closed ∧ x.window = .inWindow then both 9999
    else if x.breaker = .closed ∧ x.window = .rideThrough then both (d.item .t10 16) else both 0) ∧
  x.terms.siteCap = ⟨d.item .t5 3, d.item .t5 4, true⟩ ∧
  x.terms.converter = (if x.ratingWritten = true then ⟨x.ratingChg, x.ratingDis, true⟩ else off) ∧
  x.terms.isolation = (if x.isolation = true then both 0 else off) ∧
  least (·.chg) x.chg ∧ least (·.dis) x.dis ∧
  (∀ k, k ∈ x.bindChg ↔ (x.terms.get k).active = true ∧ (x.terms.get k).chg = x.chg) ∧
  (∀ k, k ∈ x.bindDis ↔ (x.terms.get k).active = true ∧ (x.terms.get k).dis = x.dis)

/-! ## Resets -/

/-- R125: CLC at its start over part e, before the pump want is acted on: these stages, the zone stages and the switch states as FGU and SWC
hold them, table 8 as it stands. -/
def Device.clcStart (e : Device) (stages : PerStage CoolStage) : Clc :=
  { mode := .idle, demanded := 0, stages := stages, sinceStart := 30000, pump := false, flow := .none, phase := .none,
    flowTimer := none, fanAsked := 0, heaterAsked := 0, fan := 0, heater := 0, recirculation := false, exhaust := false,
    dampersOpen := false, exhaustFault := false, exhaustTimer := none, supply := none, coolantReturn := none, ambient := none,
    tmax := none, tmin := none, lastTmax := none, zones := e.fgu.shown,
    stringClosed := .ofFn fun n => (e.sw n.switch).state == .closed, thermal := 9999, tempCap := 9999, stageCap := 9999,
    flowCap := 9999, thermalHold := false, sampleIn := 1000, settings := e.settings.get .t8 }

/-- R18, R38, R62, R79, R107, R125, R153: what either reset leaves in the blocks that start afresh: SLC empty at slot 0 with no exchange in
progress; every health as the causes and ABSENT monitors give it; SWC, ENV and BAL with their inputs as the owners hold them (logs 40
and 43); GWM in HOLD_OFF with the timer full and held, the breaker as SWC holds it (log 43); DU forced, at FALLBACK_ORDER with nothing
granted; CLC idle but for a pump that a fire wants, with the given stages. -/
def BlocksStarted (e : Device) (stages : PerStage CoolStage) : Prop :=
  let on := e.item .t11 16 = 1
  e.slc = {
    monitors := .all {
      state := .absent, reason := .none, identity := none, learned := none, held := none, stale := false, age := none,
      staleIn := none, identityTimer := none, attempts := 0, reinterrogate := false, discarded := 0 }
    identityList := [], bus := ⟨0, 0, 0, 0, 0⟩, busStale := true, busTimer := none, busDiscarded := 0
    slot := 0, slotIn := 0, sent := [], awaiting := [] } ∧
  (∀ n, (e.sup n).health = (if (e.sup n).causes = .none then .absent else .lockedOut) ∧
    ∀ k, (e.sup n).failing.get k = false) ∧
  e.swc = { e.swc with
    samples := .all none
    busVoltage := 0
    busStale := true
    isolationTimer := none
    health := e.csu.strings.map (·.health)
    fireStage := e.fgu.stationStage
    window := .holdOff } ∧
  (¬on → e.swc.isolation = .released) ∧ (on → (∀ n, Resting e n) → e.swc.isolation = .isolated) ∧
  (on → (∃ n, ¬Resting e n) → e.swc.isolation = .isolating) ∧
  InhibitLaw e ∧ (∀ n : StringId, (e.sw n.switch).inhibits.mismatch = false) ∧
  e.gwm = {
    window := .holdOff, holdOffLeft := 1000 * e.itemNat .t10 15, holdOffRunning := false, ride := none, trip := none
    last := none, breaker := (e.sw .g).state, busStale := true } ∧
  e.env = { e.env with
    strings := .ofFn fun n => ⟨none, (e.sup n).health, (e.sw n.switch).state, false⟩
    contributions := .all ⟨false, 0, 0, 0, 0, 0, 0, 0⟩
    cellStanding := e.standing .cell
    thermal := 9999
    fireStage := e.fgu.stationStage
    fireTest := e.fgu.testing
    window := .holdOff
    breaker := (e.sw .g).state
    isolation := decide on
    ratingChg := 9999, ratingDis := 9999, ratingWritten := false
    generation := 0
    changed := .all true } ∧
  EnvelopeFormed e ∧
  e.du = {
    siteStanding := e.standing .site, order := e.item .t5 2, source := .fallback, target := 0, granted := 0, report := 0
    reportStale := false, reported := false, rampTimer := none, reportTimer := none, overrunTimer := none, tolerance := 0
    judgment := .none } ∧
  e.bal = { e.bal with
    thermalHold := false
    fireStage := e.fgu.stationStage
    standings := e.sdm.ports.map (·.standing)
    health := e.csu.strings.map (·.health) } ∧
  ∃ y, PumpFollows e (e.clcStart stages) y [] ∧ e.clc = y.withOutputs e.clc ∧
    OutputsFollow { e with clc := e.clcStart stages } e

/-- R132, R143: a zone's record r once the hold button is read: COUNTDOWN becomes HELD under a pressed button, HELD becomes COUNTDOWN, its
timer full, under a released one. -/
def ZoneRec.underButton (d : Device) (r : ZoneRec) : ZoneRec :=
  if r.stage = .countdown ∧ d.fgu.holdPressed = true then { r with stage := .held, releaseTimer := none }
  else if r.stage = .held ∧ d.fgu.holdPressed = false then
    { r with stage := .countdown, releaseTimer := some (1000 * d.itemNat .t9 0) }
  else r

/-- R143, R137: zone z of part d has the record r after a warm restart, which raises hs: the end of its test, or else the stage that its
confirmed inputs give a zone not in COUNTDOWN, HELD or RELEASED; the hold button is read after that. -/
def ZoneRestarted (d : Device) (z : Zone) (r : ZoneRec) (hs : List Instr) : Prop :=
  let o := d.zone z
  let derived := o.stage = .normal ∨ o.stage = .fault ∨ o.stage = .prealarm
  ∃ r', r = r'.underButton d ∧
    (o.testTimer ≠ none → TestEnded d z r' hs) ∧
    (o.testTimer = none → hs = [] ∧ r' = if derived then
      { o with stage := if d.fgu.kinds z = [] then (if o.faultFlag then .fault else .normal) else .prealarm } else o)

/-- R179, R18, R38, R62, R79, R107, R125, R143, R153, R161, R173, R180: part e is part d after a warm restart. The settings stand but for the
tables marked for reload, and inputs, PIF and EVR are kept; STO keeps all but the pending flag, the marks and the order of its checks;
lockout causes, failure flags, FAILED stages, COUNTDOWN, HELD and RELEASED zones and BARRED ports outlast it; closed or closing switches
open; a live run ends with code 11. Of the hand-offs in flight, occurrences, update requests and weld reports stay (Log 18);
FGU's occurrences come before BALANCE_ENDED (Log 44). -/
def Restarted (d e : Device) : Prop :=
  let x := d.sto
  let m : Device := { d with settings := e.settings }
  (∀ tb i, x.reload.get tb = false ∨ tb = .t5 ∧ i = 0 ∧ (x.copies.get .t5).contents ≠ [] → e.item tb i = d.item tb i) ∧
  (∀ tb i, x.reload.get tb = true → ¬(tb = .t5 ∧ i = 0) → e.item tb i =
    (if (x.copies.get tb).valid then (x.copies.get tb).contents else factory tb).getD i 0) ∧
  e.pins = d.pins ∧ e.pif = d.pif ∧ e.evr = d.evr ∧
  e.sto = { x with
    errors := e.sto.errors, restart := none, reload := .all false, kept := e.sto.kept, checkNext := .t2, checkIn := 1000 } ∧
  (∀ tb, e.sto.errors.get tb = (x.errors.get tb || x.reload.get tb && !(x.copies.get tb).valid)) ∧
  (∀ tb, e.sto.kept.get tb = if x.reload.get tb = true then
    (if tb = .t5 then (e.settings.get tb).set 0 0 else e.settings.get tb) else x.kept.get tb) ∧
  BlocksStarted e (d.clc.stages.map fun c => ⟨if c.state = .failed then .failed else .off, 180000, none⟩) ∧
  (∀ n, (e.sup n).causes = (d.sup n).causes ∧ ∀ k, (e.sup n).channels.get k =
    if ((d.sup n).channels.get k).pinned then ⟨255, true, true, e.limitOf k, e.holdOf k⟩
    else ⟨0, false, false, e.limitOf k, e.holdOf k⟩) ∧
  (∀ n, let r := d.sw n
    let opens := r.state = .closed ∨ r.state = .precharging ∨ r.state = .closing
    let shut := d.pins.feedback.get n = true
    e.sw n = {
      state := if opens then (if shut then .opening else .opened) else r.state
      selection := none, lastResult := .none, failure := r.failure, interrupted := false, badJoin := false, openDelay := none
      timer := if opens then (if shut then some (if n = .g then 150 else 200) else none)
        else if r.state = .opening then r.timer else none
      inhibits := (e.sw n).inhibits }) ∧
  (∀ p, e.port p = { d.port p with
    standing := if d.standing p = .barred then .barred else .unchecked
    token := none, outstanding := false, deadline := none, issueGeneration := 0
    periodIn := e.itemNat .t11 (2 * p.num) }) ∧
  e.fgu = { d.fgu with
    zones := e.fgu.zones
    stationStage := e.fgu.formStage
    gas := d.fgu.gas.map fun x => { x with sampleIn := 1000 } } ∧
  (d.bal.run.state.live = true → e.bal.run = (d.bal.ended 11).run ∧ e.bal.commanded = 0 ∧ e.bal.history = [] ∧
    e.bal.mismatch = 0) ∧
  (d.bal.run.state.live = false → e.bal.run = d.bal.run ∧ e.bal.commanded = d.bal.commanded ∧
    e.bal.history = d.bal.history ∧ e.bal.mismatch = d.bal.mismatch) ∧
  ∃ hs0 hs1 hs2, ZoneRestarted m .z0 (e.zone .z0) hs0 ∧ ZoneRestarted m .z1 (e.zone .z1) hs1 ∧
    ZoneRestarted m .z2 (e.zone .z2) hs2 ∧
    e.handoffs = d.handoffs.filter outlasts ++ hs0 ++ hs1 ++ hs2 ++
      (if d.bal.run.state.live then [.eventOccurrence ⟨.balanceEnded, .string d.bal.run.string, some 11, false⟩] else [])

/-- R179: nothing holds a restart back: the engine is IDLE, no update is pending, and no request for one is on its way (Log 19). -/
def RestartFree (d : Device) : Prop :=
  d.sto.engine = .idle ∧ d.sto.updatePending = false ∧ .updateRequest ∉ d.handoffs

/-- R179: part e is part d, or, where a restart is pending and nothing holds it back, part d after it. -/
def Settled (d e : Device) : Prop :=
  (d.sto.restart ≠ none ∧ RestartFree d → Restarted d e) ∧ (¬(d.sto.restart ≠ none ∧ RestartFree d) → e = d)

/-- R179: the integrity check's table fails against its kept check. -/
def CheckFails (d : Device) (tb : StoredTable) : Prop :=
  d.sto.kept.get tb ≠ if tb = .t5 then (d.settings.get tb).set 0 0 else d.settings.get tb

/-- R175, R177, R179: a warm restart takes effect within the command: WARM_RESTART where one is pending and ready, an integrity check, a
RESTART that is taken, and the completion of the engine's operation where no update waits. -/
def restartsWithin (i : Instr) (s : State) : Prop :=
  let d := s.dev
  let free := RestartFree d
  let ends := d.sto.restart ≠ none ∧ d.sto.updatePending = false ∧ .updateRequest ∉ d.handoffs
  match i with
  | .warmRestart => d.sto.restart ≠ none ∧ free
  | .integrityCheck upset => (d.sto.restart ≠ none ∨ upset = true ∨ CheckFails d d.sto.checkNext) ∧ free
  | .programmingCompletion _ => (∃ tb, d.sto.engine = .storing tb) ∧ ends
  | .updateCompletion _ => (∃ r, d.sto.engine = .updating r) ∧ ends
  | .restart p _ => Takes s i ∧ p = .site ∧ Trusted d p ∧ free
  | .nop p f => f.kind = 3 ∧ f.index = 19 ∧ Takes s i ∧ p = .site ∧ Trusted d p ∧ free
  | _ => False

/-! ## What the status tables show -/

/-- An item of a table and the value it shows. -/
structure Shown where
  index : Nat
  value : Int
  deriving DecidableEq, Repr

/-- R16: the module temperatures of the strings that are PRESENT and not stale. -/
def offered (d : Device) : List Int :=
  StringId.all.flatMap fun n =>
    let m := d.monitor n
    match m.held with
    | some r => if m.state = .present ∧ m.stale = false then r.modules.filterMap (·.temp) else []
    | none => []

/-- R165: table 0. -/
def shown0 : List Shown := [⟨0, 340⟩, ⟨1, 1⟩, ⟨2, 4⟩, ⟨3, 3⟩, ⟨4, 5⟩, ⟨5, 24⟩, ⟨6, 32⟩, ⟨7, 15⟩]

/-- R17: table 1; the discarded-record count, at base + 11, is shown with no held record too (log 42). -/
def shown1 (d : Device) : List Shown :=
  (StringId.all.flatMap fun n =>
    let m := d.monitor n
    let base := 48 * n.num
    let held (f : ScanRecord → Int) : Int := match m.held with | some r => f r | none => 0
    let asked (f : Identity → Int) : Int := match m.identity with | some i => f i | none => 0
    [⟨base, m.state.code⟩, ⟨base + 1, m.reason.code⟩, ⟨base + 2, asked fun i => i.modules⟩,
      ⟨base + 3, asked fun i => i.chemistry⟩, ⟨base + 4, asked fun i => i.rated⟩, ⟨base + 5, held fun r => r.sequence.toNat⟩,
      ⟨base + 6, held (·.current)⟩, ⟨base + 7, held (·.voltage)⟩, ⟨base + 8, held fun r => r.bleed.toNat⟩,
      ⟨base + 9, held fun r => if r.selfTestFail then 1 else 0⟩, ⟨base + 10, if m.stale then 1 else 0⟩,
      ⟨base + 11, m.discarded⟩, ⟨base + 12, held fun r => r.modules.length⟩, ⟨base + 13, 0⟩, ⟨base + 14, 0⟩,
      ⟨base + 15, 0⟩] ++
    (List.range 16).flatMap fun k =>
      let entry (f : ModuleEntry → Int) : Int := held fun r => match r.modules[k]? with | some e => f e | none => 0
      [⟨base + 16 + k, entry fun e => e.vmax * 65536 + e.vmin⟩,
        ⟨base + 32 + k, entry fun e => match e.temp with | some t => t | none => 32767⟩]) ++
  [⟨192, d.slc.bus.dc⟩, ⟨193, d.slc.bus.phase1⟩, ⟨194, d.slc.bus.phase2⟩, ⟨195, d.slc.bus.phase3⟩, ⟨196, d.slc.bus.freq⟩,
    ⟨197, if d.slc.busStale then 1 else 0⟩, ⟨198, d.slc.busDiscarded⟩, ⟨199, ((offered d).max?).getD 32767⟩,
    ⟨200, ((offered d).min?).getD 32767⟩]

/-- The sum of 2 to the power of the numbers of a set's members. -/
def setCode {α : Type} (all : List α) (num : α → Nat) (has : α → Bool) : Int :=
  ((all.map fun k => if has k then 2 ^ num k else 0).sum : Nat)

/-- R61: table 4; a value while its term is inactive is that of the inactive term. -/
def shown4 (d : Device) : List Shown :=
  let x := d.env
  let binding (ts : List Term) : Int := ((ts.map fun k => 2 ^ k.num).sum : Nat)
  [⟨0, x.chg⟩, ⟨1, x.dis⟩, ⟨2, x.generation.toNat⟩, ⟨3, binding x.bindChg⟩, ⟨4, binding x.bindDis⟩,
    ⟨5, setCode Term.all Term.num fun k => (x.terms.get k).active⟩, ⟨6, 0⟩, ⟨7, 0⟩] ++
  (Term.all.flatMap fun k => [⟨8 + 2 * k.num, (x.terms.get k).chg⟩, ⟨9 + 2 * k.num, (x.terms.get k).dis⟩]) ++
  ((List.range 8).map fun k => ⟨24 + k, 0⟩) ++
  StringId.all.flatMap fun n =>
    let c := x.contributions.get n
    let base := 32 + 8 * n.num
    [⟨base, if c.counted then 1 else 0⟩, ⟨base + 1, c.chgTemp⟩, ⟨base + 2, c.chgTaper⟩, ⟨base + 3, c.chgCurrent⟩,
      ⟨base + 4, c.disTemp⟩, ⟨base + 5, c.disTaper⟩, ⟨base + 6, c.disCurrent⟩, ⟨base + 7, c.voltage⟩]

/-- R76, R66: table 5, indexes 7 to 13. -/
def shown5 (d : Device) : List Shown :=
  let standing := ¬Trusted d .converter
  let away := (d.sw .g).state ≠ .closed
  let stale := d.du.reportStale = true
  [⟨7, 0⟩, ⟨8, d.du.order⟩, ⟨9, match d.du.source with | .site => 0 | .fallback => 1⟩, ⟨10, d.du.target⟩, ⟨11, d.du.granted⟩,
    ⟨12, if standing ∨ away ∨ stale then 2 else if d.standing .converter = .lapsed then 1 else 0⟩,
    ⟨13, (if standing then 1 else 0) + (if away then 2 else 0) + (if stale then 4 else 0)⟩]

/-- R77: table 6. -/
def shown6 (d : Device) : List Shown :=
  [⟨0, d.du.report⟩, ⟨1, d.env.ratingChg⟩, ⟨2, d.env.ratingDis⟩, ⟨3, if d.du.reportStale then 1 else 0⟩,
    ⟨4, if d.du.overrunTimer = none then 0 else 1⟩, ⟨5, d.du.tolerance⟩,
    ⟨6, match d.du.judgment with | .none => 0 | .within => 1 | .over => 2⟩]

/-- R106: table 7. -/
def shown7 (d : Device) : List Shown :=
  (SwitchId.all.flatMap fun n =>
    let r := d.sw n
    let base := 8 * n.num
    let chosen (f : Selection → Nat) : Int := match r.selection with | some x => f x | none => 0
    [⟨base, r.state.code⟩, ⟨base + 1, chosen fun x => x.holder.num + 1⟩,
      ⟨base + 2, chosen fun x => match x.action with | .close => 1 | .opening => 2⟩, ⟨base + 3, chosen (·.left)⟩,
      ⟨base + 4, r.lastResult.code⟩,
      ⟨base + 5, (if r.failure then 1 else 0) + (if r.interrupted then 2 else 0) + (if r.badJoin then 4 else 0) +
        (if r.openDelay = none then 0 else 8)⟩,
      ⟨base + 6, r.inhibits.code⟩, ⟨base + 7, 0⟩]) ++
  let classed (f : GridClass → Int) : Int := match d.gwm.last with | some c => f c | none => 0
  [⟨40, d.swc.isolation.code⟩, ⟨41, d.item .t11 16⟩, ⟨42, d.gwm.window.code⟩, ⟨43, classed fun c => c.volt.code⟩,
    ⟨44, classed (·.ratio)⟩, ⟨45, classed fun c => c.freq.code⟩, ⟨46, d.gwm.holdOffLeft⟩,
    ⟨47, if d.gwm.holdOffRunning then 1 else 0⟩,
    ⟨48, match d.gwm.ride with | some ⟨elapsed, some limit⟩ => ((limit - elapsed : Nat) : Int) | _ => 0⟩,
    ⟨49, match d.gwm.trip with | some t => ((t.delay - t.elapsed : Nat) : Int) | none => 0⟩,
    ⟨50, (d.swc.isolationTimer.getD 0 : Nat)⟩]

/-- R172: table 12 for port p, but for the incident at the cursor. -/
def shown12 (d : Device) (p : Port) : List Shown :=
  let x := d.evr
  [⟨0, (x.flags.get p).toNat⟩, ⟨3, x.queue.length⟩, ⟨4, match x.queue with | [] => 0 | i :: _ => i.seq⟩,
    ⟨5, match x.queue.getLast? with | none => 0 | some i => i.seq⟩, ⟨6, x.lastSeq⟩, ⟨7, x.dropped⟩, ⟨13, 0⟩, ⟨14, 0⟩,
    ⟨15, 0⟩] ++
  EventClass.all.map fun c => ⟨16 + c.num, x.counts.getD c.num 0⟩

/-- R37: table 14, indexes 0 to 63. -/
def shownCsu (d : Device) : List Shown :=
  StringId.all.flatMap fun n =>
    let u := d.sup n
    let base := 16 * n.num
    let set (f : Channel → Bool) : Int := setCode Channel.all Channel.num f
    [⟨base, u.health.code⟩,
      ⟨base + 1, (if u.causes.ovHard then 1 else 0) + (if u.causes.uvHard then 2 else 0) + (if u.causes.otHard then 4 else 0) +
        (if u.causes.weld then 8 else 0) + (if u.causes.recordLost then 16 else 0)⟩,
      ⟨base + 2, set fun k => (u.channels.get k).tripped⟩, ⟨base + 3, set fun k => (u.channels.get k).pinned⟩,
      ⟨base + 11, set u.failing.get⟩, ⟨base + 12, 0⟩, ⟨base + 13, 0⟩, ⟨base + 14, 0⟩, ⟨base + 15, 0⟩] ++
    Channel.all.map fun k => ⟨base + 4 + k.num, (u.channels.get k).counter⟩

/-- R152: table 14, indexes 64 to 95. -/
def shownBal (d : Device) : List Shown :=
  let r := d.bal.run
  [⟨64, r.state.code⟩, ⟨65, if r.state = .idle then 0 else (r.string.num : Nat)⟩, ⟨66, r.target⟩, ⟨67, r.maxDuration⟩,
    ⟨68, (r.runningTime / 1000 : Nat)⟩, ⟨69, match r.owner with | some p => (p.num : Int) + 1 | none => 0⟩,
    ⟨70, (if r.thermalCause then 1 else 0) + (if r.portCause then 2 else 0)⟩, ⟨71, r.endCode⟩, ⟨72, d.bal.commanded.toNat⟩,
    ⟨73, match d.bal.history with | older :: _ :: _ => (older.toNat : Int) | _ => 0⟩, ⟨74, d.bal.mismatch⟩, ⟨75, r.records⟩,
    ⟨76, if d.bal.thermalHold then 1 else 0⟩] ++
  (List.range 19).map fun k => ⟨77 + k, 0⟩

/-- R124: table 14, indexes 96 to 127; 120 to 122 are listed from the first sample on (Log 28). -/
def shownClc (d : Device) : List Shown :=
  let x := d.clc
  let n := (Stage.all.filter fun c => (x.stages.get c).state != .failed).length
  [⟨96, x.mode.code⟩, ⟨97, x.demanded⟩] ++
  (Stage.all.flatMap fun c => [⟨97 + c.num, (x.stages.get c).state.code⟩,
    ⟨100 + c.num, (min 65535 ((x.stages.get c).since / 1000) : Nat)⟩]) ++
  [⟨104, (if d.pins.runFeedback.c1 then 1 else 0) + (if d.pins.runFeedback.c2 then 2 else 0) +
      (if d.pins.runFeedback.c3 then 4 else 0) + (if d.pins.exhaustFeedback then 8 else 0)⟩,
    ⟨105, n⟩, ⟨106, if x.pump then 1 else 0⟩, ⟨107, x.flow.code⟩, ⟨108, x.phase.code⟩, ⟨109, if d.pins.flow then 1 else 0⟩,
    ⟨110, x.fan⟩, ⟨111, x.heaterAsked⟩, ⟨112, x.heater⟩,
    ⟨113, (if x.exhaust then 1 else 0) + (if x.dampersOpen then 2 else 0) + (if x.recirculation then 4 else 0)⟩,
    ⟨114, if x.exhaustFault then 1 else 0⟩, ⟨115, x.thermal⟩, ⟨116, x.tempCap⟩, ⟨117, x.stageCap⟩, ⟨118, x.flowCap⟩,
    ⟨119, if x.thermalHold then 1 else 0⟩, ⟨123, x.tmax.getD 32767⟩, ⟨124, x.tmin.getD 32767⟩, ⟨125, x.lastTmax.getD 32767⟩,
    ⟨126, 0⟩, ⟨127, 0⟩] ++
  match x.supply with
  | none => []
  | some supply => [⟨120, supply⟩, ⟨121, x.coolantReturn.getD 0⟩, ⟨122, x.ambient.getD 0⟩]

/-- R142: table 14, indexes 128 to 159. -/
def shownFgu (d : Device) : List Shown :=
  let g := d.fgu
  (Zone.all.flatMap fun z =>
    let r := d.zone z
    let base := 128 + 8 * z.num
    let loop (l : LoopRec) : Int := l.confirmed.code * 16 + l.raw.code
    let gas : Option Nat := match z with | .z0 => g.gas.z0.reading | .z1 => g.gas.z1.reading | .z2 => none
    [⟨base, r.stage.code⟩, ⟨base + 1, if r.testTimer = none then 0 else 1⟩, ⟨base + 2, if r.faultFlag then 1 else 0⟩,
      ⟨base + 3, loop r.smoke⟩, ⟨base + 4, loop r.heat⟩, ⟨base + 5, (gas.getD 0 : Nat)⟩,
      ⟨base + 6, (r.releaseTimer.getD 0 : Nat)⟩,
      ⟨base + 7, ((r.testTimer.getD 0 / 1000 : Nat) : Int) + if r.pulseTimer = none then 0 else 65536⟩]) ++
  [⟨152, g.stationStage.code⟩, ⟨153, (if g.callConfirmed then 2 else 0) + (if g.callRaw then 1 else 0)⟩,
    ⟨154, if g.holdPressed then 1 else 0⟩, ⟨155, 0⟩, ⟨156, 0⟩, ⟨157, 0⟩, ⟨158, 0⟩, ⟨159, 0⟩]

/-- R160: table 14, indexes 160 to 191. -/
def shownSdm (d : Device) : List Shown :=
  (Port.all.flatMap fun p =>
    let r := d.port p
    let base := 160 + 8 * p.num
    [⟨base, r.standing.code⟩, ⟨base + 1, if r.outstanding then 1 else 0⟩,
      ⟨base + 2, match r.token with | some t => (t.toNat : Int) | none => 256⟩, ⟨base + 3, r.issueGeneration.toNat⟩,
      ⟨base + 4, (r.deadline.getD 0 : Nat)⟩, ⟨base + 5, r.forfeits⟩, ⟨base + 6, r.lastMiss.code⟩, ⟨base + 7, r.misses⟩]) ++
  (List.range 8).map fun k => ⟨184 + k, 0⟩

/-- R180, R176: table 14, indexes 192 to 202. -/
def shownSto (d : Device) : List Shown :=
  let x := d.sto
  [⟨192, match x.engine with | .idle => 0 | .storing _ => 1 | .updating _ => 2⟩,
    ⟨193, match x.engine with | .storing t => (t.num : Int) | _ => 0⟩, ⟨194, if x.updatePending then 1 else 0⟩,
    ⟨195, match x.restart with | none => 0 | some .service => 1 | some .self => 2⟩,
    ⟨196, setCode StoredTable.all StoredTable.num x.errors.get + if x.recordError then 32768 else 0⟩,
    ⟨201, setCode Zone.all Zone.num x.record.released.get⟩, ⟨202, if x.recordValid then 1 else 0⟩] ++
  StringId.all.map fun n =>
    let u := x.record.causes.get n
    ⟨197 + n.num, (if u.ovHard then 1 else 0) + (if u.uvHard then 2 else 0) + (if u.otHard then 4 else 0) +
      (if u.weld then 8 else 0) + (if u.recordLost then 16 else 0)⟩

/-- The items of the status tables that port p reads, with the value each shows (stopped timers and whole seconds: Log 38). -/
def statusItems (d : Device) (p : Port) (table : Nat) : List Shown :=
  match table with
  | 0 => shown0
  | 1 => shown1 d
  | 4 => shown4 d
  | 5 => shown5 d
  | 6 => shown6 d
  | 7 => shown7 d
  | 12 => shown12 d p
  | 14 => shownCsu d ++ shownBal d ++ shownClc d ++ shownFgu d ++ shownSdm d ++ shownSto d
  | _ => []

end Sys2Proof.Machine
end

