-- ==== Sys2Proof/Certificates/Slice0/Obligations.lean ====
section
/-! DEFINITION. The statements for the provers. -/

section
open Sys2Proof Sys2Proof.Machine

/-! ## The machine -/

/-- A step with a command at the front of the queue is that command's effect, on the state with the queue's rest (the row's instructions);
the queue is first in, first out. -/
def Obligations.StepTakesTheFrontCommand : Prop :=
  ∀ (i : Instr) (rest : List Instr) (d : Device), step ⟨i :: rest, d⟩ = exec i ⟨rest, d⟩

/-- Every command answers a next state with the queue as it was, and a well-formed one changes at most the blocks that `touches` lists for
it (95_what_each_step_holds.md lists what each step holds). The model's choices: Logs 1, 3, 31 and 33. -/
def Obligations.CommandsCompleteWithinTheirBlocks : Prop :=
  ∀ (i : Instr) (s : State), ∃ d, exec i s = .next ⟨s.pending, d⟩ ∧ (i.wf = true → Only (touches i) s.dev d)

/-- The state after reset obeys every law that the statements below say each step keeps. The model's choices: Logs 4, 5, 21 and 22. -/
def Obligations.ResetObeysTheLaws : Prop :=
  let d := State.reset.dev
  QueueLaw d ∧ CounterLaw d ∧ DispatchLaw d ∧ SettingsLaw d ∧ StoreLaw d ∧ EnvelopeLaw d ∧ SelectionLaw d ∧
    InhibitLaw d ∧ InterlockLaw d ∧ IsolationLaw d ∧ CoolingLaw d ∧ BleedLaw d ∧ ForfeitLaw d

/-! ## Laws that every step keeps -/

/-- R171: every step keeps at most 32 incidents in the queue, each with a sequence number of its own, which lies in 1..4294967295. The
model's choice: Log 2. -/
def Obligations.QueueLawKept : Prop :=
  ∀ s t : State, step s = .next t → QueueLaw s.dev → QueueLaw t.dev

/-- R21, R22, R26: every step keeps each pinned channel at 255 and tripped, and every other counter within 0..L + H of its record, at L or
above while tripped. The model's choice: Log 2. -/
def Obligations.CounterLawKept : Prop :=
  ∀ s t : State, step s = .next t → CounterLaw s.dev → CounterLaw t.dev

/-- R65 to R68, R79: every step keeps the grant and the target at 0 under a forcing cause, the target at the order brought within the
envelope without one, and the ramp-step timer running exactly in RUN with the grant off its target, once the converter has made its first
report since the restart. The model's choices: Logs 2 and 39. -/
def Obligations.DispatchLawKept : Prop :=
  ∀ s t : State, step s = .next t → DispatchLaw s.dev → DispatchLaw t.dev

/-- R35, R58, R76, R105, R123, R141, R154, R167, R174: every step keeps each writable item of the settings tables, of the stored copies that
pass their check, and of table 8 as CLC took it, in its range, and the tables in their orders. R175, R177, R179: every step keeps the kept
checks those of the working contents, the engine's operation timed exactly while it is busy, and an update waiting only for a busy engine.
The model's choices: Logs 2, 4, 21, 22 and 35. -/
def Obligations.SettingsLawKept : Prop :=
  ∀ s t : State, step s = .next t → (SettingsLaw s.dev → SettingsLaw t.dev) ∧ (StoreLaw s.dev → StoreLaw t.dev)

/-- R40, R46, R56, R66, R69: with the settings in their ranges and DU as its mode asks, every step keeps the envelope in 0..9999 and at or
below every active term, the binding sets the active terms that reach it, neither empty, and the grant within the envelope. The model's
choice: Log 2. -/
def Obligations.EnvelopeLawKept : Prop :=
  ∀ s t : State, step s = .next t → SettingsLaw s.dev → DispatchLaw s.dev → EnvelopeLaw s.dev → EnvelopeLaw t.dev

/-- R85: every step keeps each selection held by a port that is IN_STANDING, on an OPEN switch to close or a CLOSED one to open, and each
port with at most one. The model's choice: Log 2. -/
def Obligations.SelectionLawKept : Prop :=
  ∀ s t : State, step s = .next t → SelectionLaw s.dev → SelectionLaw t.dev

/-- R82, R83, R93, R98, R99: with the settings in their ranges and every selection on a switch its action can move, every step keeps the
inhibits (but for a string's MISMATCH, which SwitchingEventsEndAlike gives) as their causes stand, every switch that a lockout or a fire
forces open OPEN, OPENING or WELDED, and the isolation sequence: no switch closing, no string CLOSED once the breaker rests, all five at
rest when ISOLATED. The model's choices: Logs 2 and 15. -/
def Obligations.SwitchingLawsKept : Prop :=
  ∀ s t : State, step s = .next t → SettingsLaw s.dev → SelectionLaw s.dev → InhibitLaw s.dev → InterlockLaw s.dev →
    IsolationLaw s.dev → InhibitLaw t.dev ∧ InterlockLaw t.dev ∧ IsolationLaw t.dev

/-- R113, R116, R117: every step keeps each running stage in CHILL, with flow confirmed and no battery zone in ALARM or beyond, a fault
phase exactly with a flow fault, and the pump on exactly in STARTING, CONFIRMED, TRYING and PROVING. The model's choice: Log 2. -/
def Obligations.CoolingLawKept : Prop :=
  ∀ s t : State, step s = .next t → CoolingLaw s.dev → CoolingLaw t.dev

/-- R144, R150: every step keeps the commanded bleed set empty unless the run is RUNNING or SUSPEND_PENDING, and no run live at fire stage
PREALARM or higher as BAL holds it. The model's choice: Log 2. -/
def Obligations.BleedLawKept : Prop :=
  ∀ s t : State, step s = .next t → BleedLaw s.dev → BleedLaw t.dev

/-- R157: every step keeps each forfeit count at most 3, and a port BARRED exactly when its count is 3. The model's choice: Log 2. -/
def Obligations.ForfeitLawKept : Prop :=
  ∀ s t : State, step s = .next t → ForfeitLaw s.dev → ForfeitLaw t.dev

/-- R54: every command advances the generation by one step exactly when it changes the envelope, but for a power-on reset and a command
within which a warm restart takes effect (R179), which leave it 0. The model's choices: Logs 6, 19 and 21. -/
def Obligations.GenerationFollowsTheEnvelope : Prop :=
  ∀ (i : Instr) (s t : State), exec i s = .next t →
    (i ≠ .powerOnReset → ¬restartsWithin i s →
      t.dev.env.generation =
        if t.dev.env.chg = s.dev.env.chg ∧ t.dev.env.dis = s.dev.env.dis then s.dev.env.generation
        else s.dev.env.generation + 1) ∧
    (i = .powerOnReset ∨ restartsWithin i s → t.dev.env.generation = 0)

/-! ## Requests: frames, reads -/

/-- R163, R166: which row of the table a request falls under is a matter of its bytes: each request command does what its whole frame,
routed by kind, table and index, does. The model's choices: Logs 31 and 33. -/
def Obligations.RequestsActByTheirBytes : Prop :=
  ∀ (i : Instr) (r : Request) (s : State), requestOf i = some r → exec i s = exec (.nop r.port r.frame) s

/-- R162, R163, R166, R173: a link held in reset takes no transfer; a frame whose check fails is answered CHECK_FAIL and not acted on; NOP
is answered OK with 0, a kind above 8 UNKNOWN_KIND, a service above 19 UNKNOWN_ITEM. R164, R170: the reply that a transfer carries out has
the station summary byte formed from the state at the start of the transfer. The model's choices: Logs 6 and 31. -/
def Obligations.FramesAreJudgedBeforeTheyAct : Prop :=
  (∀ (i : Instr) (r : Request) (s : State), requestOf i = some r →
    ((s.dev.link r.port).running = false → exec i s = .next s) ∧
    ((s.dev.link r.port).running = true → r.frame.check ≠ crc8 r.frame.body →
      ∃ t, exec i s = .next t ∧ Refuses s t r.port r.frame.kind .checkFail)) ∧
  (∀ (i : Instr) (p : Port) (s : State), i = .incompleteTransfer p ∨ (∃ r, requestOf i = some r ∧ r.port = p) →
    (s.dev.link p).running = true →
    ∃ t q, exec i s = .next t ∧ (t.dev.link p).sent = some q ∧ SummaryShows s.dev p q.summary) ∧
  ∀ (p : Port) (f : Frame) (s : State), f.wfNop = true → Takes s (.nop p f) →
    ∃ t, exec (.nop p f) s = .next t ∧
      (f.kind = 0 → Replies s t p 0 .ok (some 0) s.dev) ∧
      (8 < f.kind.toNat → Refuses s t p f.kind .unknownKind) ∧
      (f.kind = 3 → Refuses s t p 3 .unknownItem)

/-- R165, R60, R167, R57, R17, R37, R61, R76, R77, R106, R124, R142, R152, R160, R172, R180: READ, row by row, with the value of every
settings item, of the map lock, of the port's own mask and cursor, and of every item of the status tables, as `statusItems` lists them.
A READ of the generation clears the flag of the port that reads; no other changes anything beyond the reply, nor does a refused one. The
model's choices: Logs 6, 24, 28, 38, 41 and 42. -/
def Obligations.ReadAnswersByTheMap : Prop :=
  (∀ (p : Port) (f : ItemFrame) (s : State), f.wfRead = true → Takes s (.read p f) →
    ∃ t, exec (.read p f) s = .next t ∧
      let windowed := f.table = 2 ∧ 40 ≤ f.index.toNat ∧ f.index.toNat ≤ 63
      let tb := if windowed then 3 else f.table.toNat
      let i := if windowed then f.index.toNat - 40 else f.index.toNat
      let own := tb = 12 ∧ (i = 1 ∨ i = 2)
      let may := s.dev.item .t13 (3 * tb + p.num) = 1 ∨ MayWrite s.dev p tb
      (itemCount tb ≤ i → Refuses s t p 1 .unknownItem) ∧
      (tb = 12 → i = 1 → Replies s t p 1 .ok (some ((s.dev.evr.masks.get p).setWidth 32)) s.dev) ∧
      (tb = 12 → i = 2 → Replies s t p 1 .ok (some (s.dev.evr.cursors.get p)) s.dev) ∧
      (i < itemCount tb → ¬own → ¬may → Refuses s t p 1 .denied) ∧
      (i < itemCount tb → may → tb ≠ 12 → ∃ v, Replies s t p 1 .ok v s.dev) ∧
      (∀ x : StoredTable, x.num = tb → i < (factory x).length → may →
        Replies s t p 1 .ok (some (BitVec.ofInt 32 (s.dev.item x i))) s.dev) ∧
      (∀ x ∈ statusItems s.dev p tb, x.index = i → may → Replies s t p 1 .ok (some (BitVec.ofInt 32 x.value)) s.dev) ∧
      (tb = 13 → i = 48 → may → Replies s t p 1 .ok (some (if s.dev.pif.mapLock = true then 1 else 0)) s.dev)) ∧
  ∀ (p : Port) (f : ValueFrame) (s : State), Takes s (.generationRead p f) →
    ∃ t, exec (.generationRead p f) s = .next t ∧
      let may := s.dev.item .t13 (3 * 4 + p.num) = 1 ∨ MayWrite s.dev p 4
      (may → Replies s t p 1 .ok (some (s.dev.env.generation.setWidth 32))
        { s.dev with env := { s.dev.env with changed := s.dev.env.changed.set p false } }) ∧
      (¬may → Refuses s t p 1 .denied)

/-! ## Writes -/

/-- R60: a READ or a WRITE at table 2 index 40 + i does just what the same request at table 3 index i does, its answer included: same
rights, locks and standing gate, same range and orders, one store; it is no write of table 2. -/
def Obligations.WindowActsAsTable3 : Prop :=
  ∀ (p : Port) (i : Byte) (s : State), i.toNat < 24 →
    (∀ (v : Word) (c c' : Byte), Takes s (.read p ⟨2, i + 40, v, c⟩) → Takes s (.read p ⟨3, i, v, c'⟩) →
      exec (.read p ⟨2, i + 40, v, c⟩) s = exec (.read p ⟨3, i, v, c'⟩) s) ∧
    ∀ (v : Word) (c c' : Byte), Takes s (.deratingWrite p .window i ⟨v, c⟩) → Takes s (.deratingWrite p .table3 i ⟨v, c'⟩) →
      exec (.deratingWrite p .window i ⟨v, c⟩) s = exec (.deratingWrite p .table3 i ⟨v, c'⟩) s

/-- R165, R35, R58, R60, R51, R76, R123, R141, R105, R154: a WRITE of a settings item that has no row of its own, a derating item under
either address, and a site cap: refused by the first row that applies or by its range and orders, or stored and answered OK with the
value, the table's kept check set afresh; ENV hears of those it works from. The model's choices: Logs 6, 21, 24 and 35. -/
def Obligations.SettingsWritesAreGatedAndStored : Prop :=
  (∀ (p : Port) (f : ItemFrame) (s : State), f.wfWrite = true → Takes s (.write p f) →
    ∃ t, exec (.write p f) s = .next t ∧
      let r : ItemRef := ⟨f.table.toNat, f.index.toNat⟩
      (itemCount r.table ≤ r.index → Refuses s t p 2 .unknownItem) ∧
      (r.index < itemCount r.table → r.writable = false → Refuses s t p 2 .denied) ∧
      ∀ tb : StoredTable, tb.num = r.table → r.index < itemCount r.table → r.writable = true →
        SettingsWrite s t p tb r.index f.value
          (tb = .t5 ∨ tb = .t9 ∧ r.index = 3 ∨ tb = .t10 ∧ r.index = 16 ∨ tb = .t11 ∧ r.index = 8)) ∧
  (∀ (p : Port) (via : DeratingVia) (i : Byte) (f : ValueFrame) (s : State), wfDerating via i = true →
    Takes s (.deratingWrite p via i f) →
    ∃ t, exec (.deratingWrite p via i f) s = .next t ∧ SettingsWrite s t p .t3 i.toNat f.value True) ∧
  ∀ (p : Port) (dir : Direction) (f : ValueFrame) (s : State), Takes s (.siteCapWrite p dir f) →
    ∃ t, exec (.siteCapWrite p dir f) s = .next t ∧
      SettingsWrite s t p .t5 (match dir with | .charge => 3 | .discharge => 4) f.value True

/-- R63, R64, R65, R68: the site order and the ramp rate saturate, FALLBACK_ORDER is refused with RANGE outside; a taken write is stored,
DU sets the effective order and the target afresh, and ENV recomputes. The model's choices: Logs 6, 21 and 39. -/
def Obligations.OrderWritesSetTheTarget : Prop :=
  ∀ (p : Port) (f : ValueFrame) (s : State), DispatchLaw s.dev →
    (Takes s (.siteOrderWrite p f) → ∃ t, exec (.siteOrderWrite p f) s = .next t ∧
      OrderWrite s t p 0 (max (-9999) (min 9999 f.value.toInt))) ∧
    (Takes s (.rampRateWrite p f) → ∃ t, exec (.rampRateWrite p f) s = .next t ∧
      OrderWrite s t p 1 (max 1 (min 1000 f.value.toInt))) ∧
    (Takes s (.fallbackOrderWrite p f) → ∃ t, exec (.fallbackOrderWrite p f) s = .next t ∧
      (-9999 ≤ f.value.toInt → f.value.toInt ≤ 9999 → OrderWrite s t p 2 f.value.toInt) ∧
      (f.value.toInt < -9999 ∨ 9999 < f.value.toInt →
        (∀ r, Stopped s.dev p .t5 r → Refuses s t p 2 r) ∧ (Passes s.dev p .t5 → Refuses s t p 2 .range)))

/-- R70, R72, R73, R52, R165: a converter report, saturated, ends staleness, restarts the report-stale timer and, with the breaker CLOSED,
is judged against the grant, the overrun timer following the judgment, and counts as the first report that R79 waits for. A rating is no
control item: it needs RW alone, saturates, makes the CONVERTER term active and recomputes. The model's choices: Logs 6 and 39. -/
def Obligations.ConverterDataIsTaken : Prop :=
  (∀ (p : Port) (f : ValueFrame) (s : State), DispatchLaw s.dev → Takes s (.converterReport p f) →
    ∃ t, exec (.converterReport p f) s = .next t ∧
      (¬MayWrite s.dev p 6 → Refuses s t p 2 .denied) ∧
      (MayWrite s.dev p 6 → ¬Trusted s.dev p → Refuses s t p 2 .noStanding) ∧
      (MayWrite s.dev p 6 → Trusted s.dev p →
        let d := s.dev
        let v := max (-9999) (min 9999 f.value.toInt)
        let g := d.du.granted
        let reported := d.du.reported || (d.sw .g).state == .closed
        let d' : Device := { d with du := { d.du with reportStale := false, reported := reported } }
        let target := d'.targetFor d.du.order
        let tol := max (d.item .t5 5) ((g.natAbs : Int) * d.item .t5 6 / 100)
        let beyond := v < min 0 g - tol ∨ max 0 g + tol < v
        let u : Du := { d.du with
          report := v, reportStale := false, reported := reported, target := target, rampTimer := d'.rampFor g target
          reportTimer := some 1000 }
        ∃ u', ((d.sw .g).state ≠ .closed → u' = u) ∧
          ((d.sw .g).state = .closed → beyond →
            u' = { u with tolerance := tol, judgment := .over, overrunTimer := some (d.du.overrunTimer.getD 1000) }) ∧
          ((d.sw .g).state = .closed → ¬beyond → u' = { u with tolerance := tol, judgment := .within, overrunTimer := none }) ∧
          Replies s t p 2 .ok (some (BitVec.ofInt 32 v)) { d with
            du := u'
            handoffs := d.handoffs ++ [.isolationConverterReport v, .envelopeRecomputation .settings] })) ∧
  ∀ (p : Port) (dir : Direction) (f : ValueFrame) (s : State), Takes s (.ratingWrite p dir f) →
    ∃ t, exec (.ratingWrite p dir f) s = .next t ∧
      (¬MayWrite s.dev p 6 → Refuses s t p 2 .denied) ∧
      (MayWrite s.dev p 6 →
        let v := max 0 (min 9999 f.value.toInt)
        Replies s t p 2 .ok (some (BitVec.ofInt 32 v)) { s.dev with
          env := match dir with
            | .charge => { s.dev.env with ratingChg := v, ratingWritten := true }
            | .discharge => { s.dev.env with ratingDis := v, ratingWritten := true }
          handoffs := s.dev.handoffs ++ [.envelopeRecomputation .settings] })

/-- R98, R99: the isolation request: RANGE outside 0 and 1, STATE while ISOLATING with no effect, else taken and reported to ENV. Turned
on, the status leaves RELEASED, no switch is left closing, a CLOSED breaker keeps closed with the isolation timer at 2000 ms, and a
station at rest is ISOLATED at once. Turned off, the status is RELEASED and every switch keeps its state. RANGE also covers a table that
would break an order. The model's choices: Logs 6, 17, 21, 28 and 35. -/
def Obligations.IsolationRequestStartsTheSequence : Prop :=
  ∀ (p : Port) (f : ValueFrame) (s : State), 16 < (s.dev.settings.get .t11).length → Takes s (.isolationRequestWrite p f) →
    ∃ t, exec (.isolationRequestWrite p f) s = .next t ∧
      (∀ r, Stopped s.dev p .t11 r → Refuses s t p 2 r) ∧
      (Passes s.dev p .t11 → ¬Admits s.dev .t11 16 f.value.toInt → Refuses s t p 2 .range) ∧
      (Passes s.dev p .t11 → Admits s.dev .t11 16 f.value.toInt →
        (s.dev.swc.isolation = .isolating → Replies s t p 2 .state none s.dev) ∧
        (s.dev.swc.isolation ≠ .isolating →
          (∃ r, (t.dev.link p).pending = some r ∧ r = ⟨2, .ok, f.value⟩) ∧
          t.dev.sto = (s.dev.wrote .t11 16 f.value.toInt).sto ∧
          (f.value = 1 ∧ s.dev.swc.isolation = .isolated → Replies s t p 2 .ok (some f.value) { s.dev.wrote .t11 16 1 with
            handoffs := s.dev.handoffs ++ [.envelopeRecomputation (.isolation true)] }) ∧
          (f.value = 1 ∧ s.dev.swc.isolation = .released →
            t.dev.item .t11 16 = 1 ∧ t.dev.swc.isolation ≠ .released ∧
            (∃ rest, t.dev.handoffs = s.dev.handoffs ++ .envelopeRecomputation (.isolation true) :: rest) ∧
            (∀ n, (t.dev.sw n).state ≠ .precharging ∧ (t.dev.sw n).state ≠ .closing) ∧
            ((s.dev.sw .g).state = .closed →
              t.dev.swc.isolation = .isolating ∧ (t.dev.sw .g).state = .closed ∧ t.dev.swc.isolationTimer = some 2000) ∧
            ((∀ n, Resting s.dev n) → t.dev.swc.isolation = .isolated)) ∧
          (f.value = 0 →
            t.dev.item .t11 16 = 0 ∧ t.dev.swc.isolation = .released ∧
            t.dev.handoffs = s.dev.handoffs ++ [.envelopeRecomputation (.isolation false)] ∧
            ∀ n, t.dev.sw n = { s.dev.sw n with inhibits := (t.dev.sw n).inhibits })))

/-- R167: a WRITE of the access map: DENIED for an entry that is not editable, RANGE above 2 or 3, else the entry takes the value, the
table's kept check is set afresh, and nothing else changes. The model's choices: Logs 6, 21 and 24. -/
def Obligations.AccessMapWriteEditsOneEntry : Prop :=
  ∀ (p : Port) (i : Byte) (f : ValueFrame) (s : State), i.toNat < 49 → Takes s (.accessMapWrite p i f) →
    ∃ t, exec (.accessMapWrite p i f) s = .next t ∧
      let right := i.toNat < 45 ∧ (i.toNat % 3 = 0 ∨ i.toNat % 3 = 1) ∧ i.toNat / 3 ∈ [2, 3, 5, 6, 8]
      let switching := i.toNat = 45 ∨ i.toNat = 46
      let ranged := 0 ≤ f.value.toInt ∧ f.value.toInt ≤ if i.toNat < 45 then 2 else 3
      (∀ r, Stopped s.dev p .t13 r → Refuses s t p 2 r) ∧
      (Passes s.dev p .t13 → ¬(right ∨ switching) → Refuses s t p 2 .denied) ∧
      (Passes s.dev p .t13 → right ∨ switching → ¬ranged → Refuses s t p 2 .range) ∧
      (Passes s.dev p .t13 → right ∨ switching → ranged → Replies s t p 2 .ok (some f.value)
        (s.dev.wrote .t13 i.toNat f.value.toInt))

/-- R12, R35: a rewrite of a string's expectation is stored, and SLC acts by the monitor's state: ABSENT and INTERROGATING nothing,
PRESENT keeps a matching identity and loses a mismatching one, UNRECOGNIZED is marked for re-interrogation. RANGE also covers a table that
would break an order. The model's choices: Logs 6, 21 and 35. -/
def Obligations.ExpectationRewriteActsOnTheMonitor : Prop :=
  ∀ (p : Port) (n : StringId) (e : Expectation) (f : ValueFrame) (s : State), Takes s (.expectationRewrite p n e f) →
    ∃ t, exec (.expectationRewrite p n e f) s = .next t ∧
      let i := match e with | .moduleCount => 32 + 2 * n.num | .chemistry => 33 + 2 * n.num
      (∀ r, Stopped s.dev p .t2 r → Refuses s t p 2 r) ∧
      (Passes s.dev p .t2 → ¬Admits s.dev .t2 i f.value.toInt → Refuses s t p 2 .range) ∧
      (Passes s.dev p .t2 → Admits s.dev .t2 i f.value.toInt →
        let stored := s.dev.wrote .t2 i f.value.toInt
        let heard : List Instr := match e with | .moduleCount => [] | .chemistry => [.envelopeRecomputation .settings]
        let m := s.dev.monitor n
        let fits := ∃ id, m.identity = some id ∧ (id.modules : Int) = stored.item .t2 (32 + 2 * n.num) ∧
          (id.chemistry : Int) = stored.item .t2 (33 + 2 * n.num)
        (m.state = .absent ∨ m.state = .interrogating ∨ m.state = .present ∧ fits →
          Replies s t p 2 .ok (some f.value) { stored with handoffs := s.dev.handoffs ++ heard }) ∧
        (m.state = .unrecognized → Replies s t p 2 .ok (some f.value) { stored with
          slc := { s.dev.slc with monitors := s.dev.slc.monitors.set n { m with reinterrogate := true } }
          handoffs := s.dev.handoffs ++ heard }) ∧
        (m.state = .present → ¬fits → Replies s t p 2 .ok (some f.value) { stored with
          slc := { s.dev.slc with
            monitors := s.dev.slc.monitors.set n { m with
              state := .unrecognized, reason := .mismatch, identityTimer := none, stale := false, staleIn := none }
            identityList := s.dev.slc.identityList.filter (· != n) }
          handoffs := s.dev.handoffs ++
            (.eventOccurrence ⟨.stringUnrecognized, .string n, some 2, false⟩ :: .monitorStateReport n :: heard) }))

/-! ## Services -/

/-- R176: CLEAR_STORE_STATUS, row by row, for a table or 15; taken, it clears that one flag and nothing else. The model's choices: Logs 6
and 28. -/
def Obligations.ClearStoreStatusClearsOneFlag : Prop :=
  ∀ (p : Port) (f : ServiceFrame) (s : State), Takes s (.clearStoreStatus p f) →
    ∃ t, exec (.clearStoreStatus p f) s = .next t ∧
      (f.value.toNat ∉ [2, 3, 5, 8, 9, 10, 11, 13, 15] → Refuses s t p 3 .range) ∧
      (f.value.toNat = 15 →
        (p ≠ .site → Refuses s t p 3 .denied) ∧
        (p = .site → ¬Trusted s.dev p → Refuses s t p 3 .noStanding) ∧
        (p = .site → Trusted s.dev p →
          Replies s t p 3 .ok none { s.dev with sto := { s.dev.sto with recordError := false } })) ∧
      ∀ tb : StoredTable, tb.num = f.value.toNat →
        (¬MayWrite s.dev p tb.num → Refuses s t p 3 .denied) ∧
        (MayWrite s.dev p tb.num → ¬Trusted s.dev p → Refuses s t p 3 .noStanding) ∧
        (MayWrite s.dev p tb.num → Trusted s.dev p →
          Replies s t p 3 .ok none
            { s.dev with sto := { s.dev.sto with errors := s.dev.sto.errors.set tb false } })

/-- R175, R168, R167: STORE_TABLE, LOCK_TABLE, SITE_HOLD, SITE_RELEASE_HOLD and LOCK_MAP, row by row: taken, the engine is STORING for the
table, for 20 to 60 ms, or one lock is set or cleared, and nothing else changes. The model's choices: Logs 6, 22 and 28. -/
def Obligations.StoreAndLockServicesTakeEffect : Prop :=
  (∀ (p : Port) (f : ServiceFrame) (s : State), Takes s (.storeTable p f) →
    ∃ t, exec (.storeTable p f) s = .next t ∧
      (f.value.toNat ∉ [2, 3, 5, 8, 9, 10, 11, 13] → Refuses s t p 3 .range) ∧
      ∀ tb : StoredTable, tb.num = f.value.toNat →
        let busy := s.dev.sto.engine ≠ .idle ∨ s.dev.sto.updatePending = true ∨ s.dev.sto.restart ≠ none
        (¬MayWrite s.dev p tb.num → Refuses s t p 3 .denied) ∧
        (MayWrite s.dev p tb.num → ¬Trusted s.dev p → Refuses s t p 3 .noStanding) ∧
        (MayWrite s.dev p tb.num → Trusted s.dev p →
          (s.dev.sto.errors.get tb = true → Replies s t p 3 .state (some 1) s.dev) ∧
          (s.dev.sto.errors.get tb = false → busy → Refuses s t p 3 .busy) ∧
          (s.dev.sto.errors.get tb = false → ¬busy → ∃ time, 20 ≤ time ∧ time ≤ 60 ∧
            Replies s t p 3 .ok none { s.dev with sto := { s.dev.sto with
              engine := .storing tb, opTimer := some time, operations := s.dev.sto.operations + 1 } }))) ∧
  ∀ (p : Port) (f : ServiceFrame) (s : State),
    let settingsTable := f.value.toNat ∈ [2, 3, 5, 8, 9, 10, 11]
    (Takes s (.lockTable p f) → ∃ t, exec (.lockTable p f) s = .next t ∧
      (¬settingsTable → Refuses s t p 3 .range) ∧
      (settingsTable → ¬MayWrite s.dev p f.value.toNat → Refuses s t p 3 .denied) ∧
      (settingsTable → MayWrite s.dev p f.value.toNat → ¬Trusted s.dev p → Refuses s t p 3 .noStanding) ∧
      ∀ tb : StoredTable, tb.num = f.value.toNat → settingsTable → MayWrite s.dev p f.value.toNat → Trusted s.dev p →
        Replies s t p 3 .ok none
          { s.dev with pif := { s.dev.pif with ownerLocks := s.dev.pif.ownerLocks.set tb true } }) ∧
    (∀ on : Bool,
      let hold : Instr := if on then .siteHold p f else .siteReleaseHold p f
      Takes s hold → ∃ t, exec hold s = .next t ∧
        (¬settingsTable → Refuses s t p 3 .range) ∧
        (settingsTable → ¬MayWrite s.dev p f.value.toNat ∨ p ≠ .site → Refuses s t p 3 .denied) ∧
        (settingsTable → MayWrite s.dev p f.value.toNat → p = .site → ¬Trusted s.dev p → Refuses s t p 3 .noStanding) ∧
        ∀ tb : StoredTable, tb.num = f.value.toNat → settingsTable → MayWrite s.dev p f.value.toNat → p = .site →
          Trusted s.dev p → Replies s t p 3 .ok none
            { s.dev with pif := { s.dev.pif with siteHolds := s.dev.pif.siteHolds.set tb on } }) ∧
    (Takes s (.lockMap p f) → ∃ t, exec (.lockMap p f) s = .next t ∧
      SiteService s t p (Replies s t p 3 .ok none { s.dev with pif := { s.dev.pif with mapLock := true } }))

/-- R27, R28: RELEASE_LOCKOUT, row by row; taken, the cause set is empty, each pinned channel stands at L + H of table 2 and tripped, an
update of the standing record is requested, and the health, TRIPPED or AVAILABLE, goes out if it changed. The model's choices: Logs 6 and
10. -/
def Obligations.ReleaseLockoutUnpinsTheChannels : Prop :=
  ∀ (p : Port) (f : ServiceFrame) (s : State), Takes s (.releaseLockout p f) →
    ∃ t, exec (.releaseLockout p f) s = .next t ∧ SiteService s t p (
      (3 < f.value.toNat → Refuses s t p 3 .range) ∧
      ∀ n : StringId, n.num = f.value.toNat →
        let u := s.dev.sup n
        let m := s.dev.monitor n
        let locked := u.causes ≠ .none
        let atRest := (s.dev.sw n.switch).state = .opened
        let fresh := m.state = .present ∧ m.stale = false
        let within := ∃ r, m.held = some r ∧ WithinSoft s.dev n r
        (¬locked → Replies s t p 3 .state (some 1) s.dev) ∧
        (locked → ¬atRest → Replies s t p 3 .state (some 2) s.dev) ∧
        (locked → atRest → ¬fresh → Replies s t p 3 .state (some 3) s.dev) ∧
        (locked → atRest → fresh → ¬within → Replies s t p 3 .state (some 4) s.dev) ∧
        (locked → atRest → fresh → within →
          let channels := PerChannel.ofFn fun k =>
            let c := u.channels.get k
            if c.pinned then ⟨s.dev.limitOf k + s.dev.holdOf k, true, false, s.dev.limitOf k, s.dev.holdOf k⟩ else c
          let health : Health := if Channel.all.any fun k => (u.channels.get k).pinned || (u.channels.get k).tripped then .tripped
            else .available
          ∃ hs, (health = u.health → hs = []) ∧
            (health ≠ u.health → hs =
              [.healthHandoffSwc n health, .balHealthHandoff n health, .envelopeRecomputation (.health n health)]) ∧
            Replies s t p 3 .ok (some 0) { s.dev with
              csu := ⟨s.dev.csu.strings.set n ⟨channels, .none, health, u.failing⟩⟩
              handoffs := s.dev.handoffs ++ .updateRequest :: hs }))

/-- R96: CLEAR_SWITCH, row by row: taken, the failure and the interrupted flag of the one switch are cleared, its FAILED inhibit goes with
them, and no lockout is touched. The model's choices: Logs 6 and 28. -/
def Obligations.ClearSwitchClearsTheFlags : Prop :=
  ∀ (p : Port) (f : ServiceFrame) (s : State), Takes s (.clearSwitch p f) →
    ∃ t, exec (.clearSwitch p f) s = .next t ∧
      (4 < f.value.toNat → Refuses s t p 3 .range) ∧
      ∀ n : SwitchId, n.num = f.value.toNat →
        (¬MaySwitch s.dev p n → Refuses s t p 3 .denied) ∧
        (MaySwitch s.dev p n → s.dev.standing p ≠ .inStanding → Refuses s t p 3 .noStanding) ∧
        (MaySwitch s.dev p n → s.dev.standing p = .inStanding → (s.dev.sw n).state = .welded →
          Replies s t p 3 .state none s.dev) ∧
        (MaySwitch s.dev p n → s.dev.standing p = .inStanding → (s.dev.sw n).state ≠ .welded →
          Replies s t p 3 .ok none
            (s.dev.withSwitch n { s.dev.sw n with failure := false, interrupted := false }).swcEnd ∧
          (t.dev.sw n).inhibits.failed = false ∧ t.dev.csu = s.dev.csu)

/-- R133, R134, R136, R137, R138: the four services of a zone, row by row. A reset and a rearm stand it down, and a rearm requests a
standing record update; a test lasts 30 minutes, and at its end the stage is derived from the detections present. The station stage and
its hand-offs follow. The model's choices: Logs 6 and 28. -/
def Obligations.ZoneServicesMoveTheStage : Prop :=
  ∀ (p : Port) (f : ServiceFrame) (s : State),
    (Takes s (.zoneReset p f) → ∃ t, exec (.zoneReset p f) s = .next t ∧ SiteService s t p (
      (2 < f.value.toNat → Refuses s t p 3 .range) ∧
      ∀ z : Zone, z.num = f.value.toNat →
        let r := s.dev.zone z
        let takes := (r.stage = .prealarm ∨ r.stage = .countdown ∨ r.stage = .held) ∧ r.testTimer = none
        let clear := r.smoke.confirmed ≠ .active ∧ r.heat.confirmed ≠ .active ∧ s.dev.fgu.gasLow z = false ∧
          s.dev.fgu.callConfirmed = false
        (¬takes → Replies s t p 3 .state (some 1) s.dev) ∧
        (takes → ¬clear → Replies s t p 3 .state (some 2) s.dev) ∧
        (takes → clear →
          let g := (s.dev.fgu.withZone z
            { r with stage := if r.faultFlag then .fault else .normal, releaseTimer := none }).settled
          Replies s t p 3 .ok none
            { s.dev with fgu := g, handoffs := s.dev.handoffs ++ fireHandoffs s.dev.fgu g }))) ∧
    (Takes s (.zoneRearm p f) → ∃ t, exec (.zoneRearm p f) s = .next t ∧ SiteService s t p (
      (2 < f.value.toNat → Refuses s t p 3 .range) ∧
      ∀ z : Zone, z.num = f.value.toNat →
        let r := s.dev.zone z
        let clear := r.smoke.confirmed = .normal ∧ r.heat.confirmed = .normal ∧ s.dev.fgu.gasLow z = false ∧
          s.dev.fgu.callConfirmed = false
        (r.stage ≠ .released → Replies s t p 3 .state (some 1) s.dev) ∧
        (r.stage = .released → ¬clear → Replies s t p 3 .state (some 2) s.dev) ∧
        (r.stage = .released → clear →
          let g := (s.dev.fgu.withZone z { r with stage := .normal }).settled
          Replies s t p 3 .ok none { s.dev with
            fgu := g
            handoffs := s.dev.handoffs ++ .updateRequest :: fireHandoffs s.dev.fgu g }))) ∧
    (Takes s (.zoneTestStart p f) → ∃ t, exec (.zoneTestStart p f) s = .next t ∧ SiteService s t p (
      (2 < f.value.toNat → Refuses s t p 3 .range) ∧
      ∀ z : Zone, z.num = f.value.toNat →
        let r := s.dev.zone z
        let free := (r.stage = .normal ∨ r.stage = .fault) ∧ r.testTimer = none
        (¬free → Replies s t p 3 .state none s.dev) ∧
        (free →
          let g := (s.dev.fgu.withZone z { r with
            testTimer := some 1800000, testGas := false, stage := if r.faultFlag then .fault else .normal }).settled
          Replies s t p 3 .ok none
            { s.dev with fgu := g, handoffs := s.dev.handoffs ++ fireHandoffs s.dev.fgu g }))) ∧
    (Takes s (.zoneTestEnd p f) → ∃ t, exec (.zoneTestEnd p f) s = .next t ∧ SiteService s t p (
      (2 < f.value.toNat → Refuses s t p 3 .range) ∧
      ∀ z : Zone, z.num = f.value.toNat →
        ((s.dev.zone z).testTimer = none → Replies s t p 3 .state none s.dev) ∧
        ((s.dev.zone z).testTimer ≠ none →
          ∃ r hs, TestEnded s.dev z r hs ∧
            let g := (s.dev.fgu.withZone z r).settled
            Replies s t p 3 .ok none
              { s.dev with fgu := g, handoffs := s.dev.handoffs ++ (hs ++ fireHandoffs s.dev.fgu g) })))

/-- R140: FORCE_EVENT, row by row; taken, one unprotected occurrence of the class goes to EVR and no block's state changes. The model's
choices: Logs 1, 6 and 28. -/
def Obligations.ForceEventReachesTheRecorder : Prop :=
  ∀ (p : Port) (f : ServiceFrame) (s : State), Takes s (.forceEvent p f) →
    ∃ t, exec (.forceEvent p f) s = .next t ∧ SiteService s t p (
      (23 < f.value.toNat → Refuses s t p 3 .range) ∧
      ∀ c : EventClass, c.num = f.value.toNat →
        let o : Occurrence := ⟨c, .port .site, some 255, true⟩
        protects o = false ∧
        Replies s t p 3 .ok none { s.dev with handoffs := s.dev.handoffs ++ [.eventOccurrence o] })

/-- R145: BALANCE_START, row by row; taken, a fresh run of the port begins, at once SUSPEND_PENDING under a thermal hold. The model's
choices: Logs 6 and 28. -/
def Obligations.BalanceStartBeginsARun : Prop :=
  ∀ (p : Port) (f : ServiceFrame) (s : State), Takes s (.balanceStart p f) →
    ∃ t, exec (.balanceStart p f) s = .next t ∧
      (¬MayWrite s.dev p 2 → Refuses s t p 3 .denied) ∧
      (MayWrite s.dev p 2 → ¬Trusted s.dev p → Refuses s t p 3 .noStanding) ∧
      (MayWrite s.dev p 2 → Trusted s.dev p →
        (∀ string duration target : Nat, f.value.toNat = string * 268435456 + duration * 65536 + target →
          duration < 4096 → target < 65536 →
          (3 < string ∨ 480 < duration ∨ target < 2500 ∨ 4300 < target → Refuses s t p 3 .range) ∧
          ∀ n : StringId, n.num = string → duration ≤ 480 → 2500 ≤ target → target ≤ 4300 →
            let b := s.dev.bal
            let m := s.dev.monitor n
            (b.run.state.live = true → Refuses s t p 3 .busy) ∧
            (b.run.state = .ended → Replies s t p 3 .state (some 1) s.dev) ∧
            (b.run.state = .idle → m.state ≠ .present → Replies s t p 3 .state (some 2) s.dev) ∧
            (b.run.state = .idle → m.state = .present → b.health.get n = .tripped ∨ b.health.get n = .lockedOut →
              Replies s t p 3 .state (some 3) s.dev) ∧
            (b.run.state = .idle → m.state = .present → b.health.get n ≠ .tripped → b.health.get n ≠ .lockedOut →
              (b.fireStage.grave = true → Replies s t p 3 .state (some 4) s.dev) ∧
              (b.fireStage.grave = false → Replies s t p 3 .ok none { s.dev with
                bal := { b with
                  run :=
                    { state := if b.thermalHold then .suspendPending else .running
                      string := n
                      target := target
                      maxDuration := if duration = 0 then 120 else duration
                      runningTime := 0
                      owner := some p
                      thermalCause := b.thermalHold
                      portCause := false
                      endCode := 0
                      records := 0 }
                  commanded := 0
                  history := []
                  mismatch := 0 } }))))

/-- R151, R148, R150: SUSPEND, RESUME and CANCEL of the live run by its owner, and CLEAR of an ended one, row by row. The model's choices:
Logs 6 and 28. -/
def Obligations.BalanceServicesActOnTheRun : Prop :=
  ∀ (p : Port) (f : ServiceFrame) (s : State),
    let b := s.dev.bal
    let owned (t : State) (taken : Prop) :=
      (¬Trusted s.dev p → Refuses s t p 3 .noStanding) ∧
      (Trusted s.dev p → b.run.state.live = false → Replies s t p 3 .state none s.dev) ∧
      (Trusted s.dev p → b.run.state.live = true → b.run.owner ≠ some p → Refuses s t p 3 .denied) ∧
      (Trusted s.dev p → b.run.state.live = true → b.run.owner = some p → taken)
    (Takes s (.balanceSuspend p f) → ∃ t, exec (.balanceSuspend p f) s = .next t ∧
      owned t (Replies s t p 3 .ok none { s.dev with bal := { b with run := { b.run with
        portCause := true
        state := if b.run.state = .running then .suspendPending else b.run.state } } })) ∧
    (Takes s (.balanceResume p f) → ∃ t, exec (.balanceResume p f) s = .next t ∧
      owned t (
        (b.run.thermalCause = false → Replies s t p 3 .ok none { s.dev with bal := { b with run := { b.run with
          portCause := false
          state := if b.run.state = .suspendPending then .running else b.run.state } } }) ∧
        (b.run.thermalCause = true → Replies s t p 3 .ok none { s.dev with bal := { b with run := { b.run with
          portCause := false
          state := if b.run.state = .running then .suspendPending else b.run.state } } }))) ∧
    (Takes s (.balanceCancel p f) → ∃ t, exec (.balanceCancel p f) s = .next t ∧
      owned t (Replies s t p 3 .ok none { s.dev with
        bal := b.ended 8
        handoffs := s.dev.handoffs ++ [.eventOccurrence ⟨.balanceEnded, .string b.run.string, some 8, false⟩] })) ∧
    (Takes s (.balanceClear p f) → ∃ t, exec (.balanceClear p f) s = .next t ∧
      (¬Trusted s.dev p → Refuses s t p 3 .noStanding) ∧
      (Trusted s.dev p → ¬MayWrite s.dev p 2 → Refuses s t p 3 .denied) ∧
      (Trusted s.dev p → MayWrite s.dev p 2 → b.run.state ≠ .ended → Replies s t p 3 .state none s.dev) ∧
      (Trusted s.dev p → MayWrite s.dev p 2 → b.run.state = .ended →
        Replies s t p 3 .ok none { s.dev with bal := { b with run := .none } }))

/-- R115, R118: COOLING_FAULT_CLEAR, row by row: a number 1 to 3 clears that stage, 0 every stage and the exhaust flag; a FAILED stage
becomes OFF with its time running on, every other stage stays, and THERMAL is formed, under table 8 as the last sample took it (R123),
where the available count changed. The model's choices: Logs 6, 27 and 28. -/
def Obligations.CoolingFaultClearReturnsStages : Prop :=
  ∀ (p : Port) (f : ServiceFrame) (s : State), Takes s (.coolingFaultClear p f) →
    ∃ t, exec (.coolingFaultClear p f) s = .next t ∧
      (p = .converter → Refuses s t p 3 .denied) ∧
      (p ≠ .converter → ¬Trusted s.dev p → Refuses s t p 3 .noStanding) ∧
      (p ≠ .converter → Trusted s.dev p → 3 < f.value.toNat → Refuses s t p 3 .range) ∧
      (p ≠ .converter → Trusted s.dev p → f.value.toNat ≤ 3 →
        let named (c : Stage) : Bool := f.value.toNat == 0 || f.value.toNat == c.num
        let freed := ∃ c, named c = true ∧ (s.dev.stage c).state = .failed
        ∃ x hs, ThermalFormed { s.dev.clc with
            stages := ⟨x.stages.c1, x.stages.c2, x.stages.c3⟩
            exhaustFault := if f.value.toNat = 0 then false else s.dev.clc.exhaustFault } freed x hs ∧
          (∀ c, x.stages.get c =
            if named c = true ∧ (s.dev.stage c).state = .failed then { s.dev.stage c with state := .off } else s.dev.stage c) ∧
          Replies s t p 3 .ok none { s.dev with clc := x, handoffs := s.dev.handoffs ++ hs })

/-! ## Select before operate -/

/-- R84, R85: SELECT, row by row; taken, the selection stands with the full select time and nothing else changes; REFUSED marks the last
result, and the bad join with MISMATCH, and returns the inhibit set. The model's choices: Logs 6 and 28. -/
def Obligations.SelectRecordsTheSelection : Prop :=
  ∀ (p : Port) (f : ItemFrame) (s : State), Takes s (.select p f) →
    ∃ t, exec (.select p f) s = .next t ∧
      (f.table ≠ 7 ∨ 4 < f.index.toNat → Refuses s t p 6 .unknownItem) ∧
      ∀ n : SwitchId, f.table = 7 → n.num = f.index.toNat →
        let r := s.dev.sw n
        let holds := ∃ m x, (s.dev.sw m).selection = some x ∧ x.holder = p
        let moving := r.state = .precharging ∨ r.state = .closing ∨ r.state = .opening
        let set (r' : SwitchRec) : Device :=
          { s.dev with swc := { s.dev.swc with switches := s.dev.swc.switches.set n r' } }
        (f.value ≠ 1 ∧ f.value ≠ 2 → Refuses s t p 6 .range) ∧
        ∀ a : Action, f.value = (match a with | .close => 1 | .opening => 2) →
          (¬MaySwitch s.dev p n → Refuses s t p 6 .denied) ∧
          (MaySwitch s.dev p n → s.dev.standing p ≠ .inStanding → Refuses s t p 6 .noStanding) ∧
          (MaySwitch s.dev p n → s.dev.standing p = .inStanding →
            (holds → Replies s t p 6 .state none s.dev) ∧
            (¬holds → r.selection ≠ none ∨ moving → Refuses s t p 6 .busy) ∧
            (¬holds → r.selection = none → ¬moving →
              let refused := a = .close ∧ r.inhibits.code ≠ 0
              let done := r.state = .welded ∨ a = .close ∧ r.state = .closed ∨ a = .opening ∧ r.state = .opened
              (done → Replies s t p 6 .state none s.dev) ∧
              (¬done → refused → Replies s t p 6 .refused (some (BitVec.ofNat 32 r.inhibits.code))
                (set { r with lastResult := .refused, badJoin := r.badJoin || r.inhibits.mismatch })) ∧
              (¬done → ¬refused → Replies s t p 6 .ok none
                (set { r with selection := some ⟨p, a, 1000 * s.dev.itemNat .t11 17⟩ }))))

/-- R87, R88, R90, R91: OPERATE, row by row; taken, a string begins PRECHARGING with 5000 ms, the breaker CLOSING with 150 ms, an opening
OPENING with its feedback time, or ends OPEN at once where the feedback already shows open. The model's choices: Logs 6, 15, 17 and 28. -/
def Obligations.OperateStartsTheOperation : Prop :=
  ∀ (p : Port) (f : ItemFrame) (s : State), Takes s (.operate p f) →
    ∃ t, exec (.operate p f) s = .next t ∧
      (f.table ≠ 7 ∨ 4 < f.index.toNat → Refuses s t p 7 .unknownItem) ∧
      ∀ n : SwitchId, f.table = 7 → n.num = f.index.toNat →
        let r := s.dev.sw n
        let set (r' : SwitchRec) : Device :=
          { s.dev with swc := { s.dev.swc with switches := s.dev.swc.switches.set n r' } }
        let answers := ∃ q, (t.dev.link p).pending = some q ∧ q.kind = 7 ∧ q.result = .ok
        (f.value ≠ 1 ∧ f.value ≠ 2 → Refuses s t p 7 .range) ∧
        ∀ a : Action, f.value = (match a with | .close => 1 | .opening => 2) →
          (s.dev.standing p ≠ .inStanding → Refuses s t p 7 .noStanding) ∧
          (s.dev.standing p = .inStanding →
            let mine := ∃ x, r.selection = some x ∧ x.holder = p
            let match_ := ∃ x, r.selection = some x ∧ x.holder = p ∧ x.action = a
            let refused := a = .close ∧ r.inhibits.code ≠ 0
            (¬mine → Replies s t p 7 .state none s.dev) ∧
            (mine → ¬match_ → Replies s t p 7 .state none (set { r with selection := none })) ∧
            (match_ → refused → Replies s t p 7 .refused (some (BitVec.ofNat 32 r.inhibits.code))
              (set { r with selection := none, lastResult := .refused, badJoin := r.badJoin || r.inhibits.mismatch })) ∧
            (match_ → ¬refused → answers ∧
              (a = .close → SwitchMoved s.dev t.dev n
                { r with
                  state := if n = .g then .closing else .precharging
                  selection := none
                  interrupted := false
                  openDelay := none
                  timer := some (if n = .g then 150 else 5000) } []) ∧
              (a = .opening → Opened s.dev t.dev n r)))

/-- R85, R86: CANCEL removes the one selection its port holds, in every standing, and answers STATE without one; the expiry of a select
timer removes the selection and sets the last result. The model's choices: Logs 3, 6 and 28. -/
def Obligations.SelectionsEndByCancelAndTimeout : Prop :=
  (∀ (p : Port) (f : ItemFrame) (s : State), Takes s (.cancel p f) →
    ∃ t, exec (.cancel p f) s = .next t ∧
      ((∀ n x, (s.dev.sw n).selection = some x → x.holder ≠ p) → Replies s t p 8 .state none s.dev) ∧
      ∀ n x, (s.dev.sw n).selection = some x → x.holder = p → SelectionLaw s.dev →
        Replies s t p 8 .ok none { s.dev with swc := { s.dev.swc with
          switches := s.dev.swc.switches.set n { s.dev.sw n with selection := none } } }) ∧
  ∀ (n : SwitchId) (s : State), (s.dev.sw n).selection ≠ none →
    exec (.selectExpiry n) s = .next ⟨s.pending, { s.dev with swc := { s.dev.swc with
      switches := s.dev.swc.switches.set n { s.dev.sw n with selection := none, lastResult := .selectExpired } } }⟩

/-! ## Resets and links -/

/-- R178, R39, R18, R38, R62, R79, R107, R125, R143, R153, R161, R173, R180: a power-on reset loads each table from its stored copy or the
factory defaults and the standing record or a record loss, sets every block to its reset values, keeps the inputs and the link states, and
reports each failed copy, each lockout by the loss and each switch found closed. The model's choices: Logs 5, 6, 11, 16, 18, 21, 37,
40 and 43. -/
def Obligations.PowerOnLoadsTheStore : Prop :=
  ∀ s : State, ∃ t, exec .powerOnReset s = .next t ∧ t.pending = s.pending ∧
    let d := s.dev
    let e := t.dev
    let x := d.sto
    (∀ tb i, e.item tb i = if tb = .t5 ∧ i = 0 then 0 else
      (if (x.copies.get tb).valid then (x.copies.get tb).contents else factory tb).getD i 0) ∧
    e.sto = { x with
      errors := e.sto.errors, recordError := !x.recordValid, engine := .idle, opTimer := none, updatePending := false
      restart := none, reload := .all false, kept := e.settings, checkNext := .t2, checkIn := 1000 } ∧
    (∀ tb, e.sto.errors.get tb = !(x.copies.get tb).valid) ∧
    BlocksStarted e (.all ⟨.off, 180000, none⟩) ∧
    e.pins = d.pins ∧
    e.evr = {
      counts := List.replicate 24 0, flags := .all 0, masks := .all 0, cursors := .all 0, queue := [], lastSeq := 0, dropped := 0
      time := 0 } ∧
    e.pif.mapLock = false ∧ (∀ tb, e.pif.ownerLocks.get tb = false ∧ e.pif.siteHolds.get tb = false) ∧
    (∀ p, e.link p = ⟨none, (d.link p).running, none⟩ ∧
      e.port p = {
        standing := .unchecked, token := none, outstanding := false, issueGeneration := 0, periodIn := e.itemNat .t11 (2 * p.num)
        deadline := none, forfeits := 0, lastMiss := .none, misses := 0 }) ∧
    (∀ n, let u := e.sup n
      u.causes = (if x.recordValid then x.record.causes.get n else { Causes.none with recordLost := true }) ∧
      ∀ k, let pinned := k = .ov ∧ u.causes.ovHard ∨ k = .uv ∧ u.causes.uvHard ∨ k = .ot ∧ u.causes.otHard
        (pinned → u.channels.get k = ⟨255, true, true, e.limitOf k, e.holdOf k⟩) ∧
        (¬pinned → u.channels.get k = ⟨0, false, false, e.limitOf k, e.holdOf k⟩)) ∧
    (∀ z, let loop (raw : LoopState) : LoopRec :=
        ⟨raw, .normal, if raw = .normal then none else if raw = .active then some 2000 else some 10000⟩
      e.zone z = {
        stage := if x.recordValid && x.record.released.get z then .released else .normal
        testTimer := none, testGas := false, faultFlag := false, releaseTimer := none, pulseTimer := none
        smoke := loop (d.zone z).smoke.raw, heat := loop (d.zone z).heat.raw }) ∧
    e.fgu = {
      zones := e.fgu.zones, gas := .all ⟨none, false, false, 1000⟩, stationStage := e.fgu.formStage, callRaw := d.fgu.callRaw
      callConfirmed := false, callTimer := if d.fgu.callRaw then some 2000 else none, holdPressed := d.fgu.holdPressed } ∧
    (∀ n, let shut := d.pins.feedback.get n
      e.sw n = {
        state := if shut then .welded else .opened
        selection := none, lastResult := .none, failure := shut && n == .g, interrupted := false, badJoin := false
        openDelay := none, timer := none, inhibits := (e.sw n).inhibits }) ∧
    e.bal.run = {
      state := .idle, string := .s0, target := 0, maxDuration := 0, runningTime := 0, owner := none, thermalCause := false
      portCause := false, endCode := 0, records := 0 } ∧
    e.bal.commanded = 0 ∧ e.bal.history = [] ∧ e.bal.mismatch = 0 ∧
    e.handoffs =
      ((StoredTable.all.filter fun tb => !(x.copies.get tb).valid).map fun tb =>
        .eventOccurrence ⟨.storeFailed, .table tb.num, some 2, false⟩) ++
      (if x.recordValid then [] else
        .eventOccurrence ⟨.storeFailed, .table 15, some 4, false⟩ ::
          (StringId.all.map fun n => .eventOccurrence ⟨.stringLockout, .string n, some 16, false⟩) ++ [.updateRequest]) ++
      SwitchId.all.flatMap fun n =>
        if d.pins.feedback.get n then
          .eventOccurrence ⟨.switchFailed, .switch n, some 3, false⟩ ::
            (match n.string with | some m => [.weldReport m] | none => [])
        else []

/-- R179, R18, R38, R62, R79, R107, R125, R143, R153, R161, R173, R180: RESTART of the Site Port sets the restart-pending flag, whose cause
stays where it is set. A pending restart takes effect at once where the engine is IDLE with no update pending, within the RESTART that sets
it, and WARM_RESTART is its taking effect later. Then every block takes its warm-restart values, as `Restarted` lists them. The model's
choices: Logs 6, 17, 18, 19, 21, 28, 37, 40, 43, 44 and 45. -/
def Obligations.RestartWaitsAndTakesEffect : Prop :=
  (∀ (p : Port) (f : ServiceFrame) (s : State), Takes s (.restart p f) →
    ∃ t, exec (.restart p f) s = .next t ∧ SiteService s t p (∃ e,
      Settled { s.dev with sto := { s.dev.sto with
        restart := match s.dev.sto.restart with | none => some .service | some c => some c } } e ∧
      Replies s t p 3 .ok none e)) ∧
  ∀ s : State, ∃ e, exec .warmRestart s = .next ⟨s.pending, e⟩ ∧ Settled s.dev e

/-- R162, R173, R159, R107, R62, R158, R67, R79: a link reset stops the link; an incomplete transfer clocks the reply out, keeps it and acts
on nothing; a port reset lets the link run again without a pending reply, and the port's cursor, generation flag, selection and standing
take their reset values. Where the standing changes, DU, SWC, ENV and BAL follow it. The model's choices: Logs 6, 32 and 39. -/
def Obligations.LinkEventsReachThePort : Prop :=
  ∀ (p : Port) (s : State),
    let withLink (l : PortLink) : Device := { s.dev with pif := { s.dev.pif with ports := s.dev.pif.ports.set p l } }
    exec (.linkResetAssert p) s = .next ⟨s.pending, withLink { s.dev.link p with running := false }⟩ ∧
    ((s.dev.link p).running = false → exec (.incompleteTransfer p) s = .next s) ∧
    ((s.dev.link p).running = true → exec (.incompleteTransfer p) s =
      .next ⟨s.pending, withLink { s.dev.link p with sent := some (s.dev.carriedOut p) }⟩) ∧
    ∃ t d, exec (.portReset p) s = .next t ∧ t.pending = s.pending ∧
      d = { withLink ⟨none, true, (s.dev.link p).sent⟩ with
        evr := { s.dev.evr with cursors := s.dev.evr.cursors.set p 0 }
        env := { s.dev.env with changed := s.dev.env.changed.set p true }
        swc := { s.dev.swc with switches := d.swc.switches } } ∧
      (∀ n, d.sw n = { s.dev.sw n with selection := (s.dev.sw n).selection.filter fun x => x.holder != p }) ∧
      t.dev.pif = d.pif ∧
      StandingSet d t.dev p { s.dev.port p with
        standing := if s.dev.standing p = .barred then .barred else .unchecked
        token := none, outstanding := false, deadline := none, periodIn := s.dev.itemNat .t11 (2 * p.num) }

/-! ## The string link -/

/-- R1, R2, R8: a slot sends the bus poll and the scan poll of its string with the commanded bleed set, or, in slot 4, the identity
request of the oldest string on the list, whose attempt count rises and whose identity timer starts at 200 ms. Each request ends with
the CRC over its bytes, most significant byte first; the exchanges of the slot before are over, and those of this one are in progress. The model's choices: Logs 3, 6, 7
and 8. -/
def Obligations.LinkSlotPollsInTurn : Prop :=
  ∀ s : State,
    let c := s.dev.slc
    let after (c' : Slc) (own : List LinkRequest) (asked : List Exchange) := exec .linkSlot s = .next ⟨s.pending, { s.dev with
      slc := { c' with
        slot := (c.slot + 1) % 5
        slotIn := 20
        sent := (LinkRequest.busPoll :: own).map fun r => 
          let c := crc16 (Config.requestBytes r)
          ⟨r, Config.requestBytes r ++ [c.extractLsb' 8 8, c.extractLsb' 0 8]⟩
        awaiting := .busPoll :: asked } }⟩
    (∀ n : StringId, n.num = c.slot →
      after c [.scanPoll n (if s.dev.bal.run.string = n then s.dev.bal.commanded else 0)] [.scanPoll n]) ∧
    (4 ≤ c.slot → c.identityList = [] → after c [] []) ∧
    (4 ≤ c.slot → ∀ n rest, c.identityList = n :: rest →
      after { c with
        identityList := rest
        monitors := c.monitors.set n { s.dev.monitor n with
          attempts := (s.dev.monitor n).attempts + 1, identityTimer := some 200 } }
        [.identityRequest n] [.identityRequest n])

/-- R1, R3 to R13, R15: an answer whose exchange is not in progress is not taken; any other ends its exchange. One whose last two
bytes are not the CRC over those before them, most significant byte first, or that is no answer to its poll or has a wrong entry count, is discarded and counted. A scan record is held, saturated, with its record age at 0,
moves the monitor, and goes to CSU, SWC and, from a PRESENT monitor, BAL; a bus record ends staleness and goes to GWM and SWC; an identity
record of an INTERROGATING monitor decides between PRESENT, stale from an age of 400 ms on, and UNRECOGNIZED, both off the identity list,
and any other is not taken. The model's choices: Logs 1, 7, 8, 9 and 41. -/
def Obligations.AnswersAreAcceptedOrDiscarded : Prop :=
  ∀ s : State,
    let ended (x : Exchange) : Device := { s.dev with slc := { s.dev.slc with awaiting := s.dev.slc.awaiting.erase x } }
    (∀ x : Exchange, x ∉ s.dev.slc.awaiting →
      (∀ a, exec (.scanRecord x a) s = .next s) ∧ (∀ a, exec (.busRecord x a) s = .next s) ∧
      ∀ a, exec (.identityRecord x a) s = .next s) ∧
    (∀ x : Exchange, x ∈ s.dev.slc.awaiting →
      let c := (ended x).slc
      let counted : Device := { s.dev with slc := match x with
        | .busPoll => { c with busDiscarded := min 65535 (c.busDiscarded + 1) }
        | .scanPoll n | .identityRequest n => { c with
          monitors := c.monitors.set n { s.dev.monitor n with discarded := min 65535 ((s.dev.monitor n).discarded + 1) } } }
      let discards (i : Instr) := exec i s = .next ⟨s.pending, counted⟩
      (∀ a, (∀ n, x = .scanPoll n → ¬EndsWithCheck a.bytes ∨ a.fields.modules.length < 8 ∨ 16 < a.fields.modules.length ∨
        (s.dev.monitor n).state = .present ∧ (s.dev.monitor n).learned ≠ some a.fields.modules.length) →
        discards (.scanRecord x a)) ∧
      (∀ a, (x = .busPoll → ¬EndsWithCheck a.bytes) → discards (.busRecord x a)) ∧
      (∀ a, (∀ n, x = .identityRequest n → ¬EndsWithCheck a.bytes) → discards (.identityRecord x a))) ∧
    (∀ (n : StringId) (a : LinkAnswer ScanRecord), .scanPoll n ∈ s.dev.slc.awaiting →
      let m := s.dev.monitor n
      let r := a.fields.saturated
      let c := (ended (.scanPoll n)).slc
      EndsWithCheck a.bytes → 8 ≤ a.fields.modules.length → a.fields.modules.length ≤ 16 →
      (m.state = .present → m.learned = some a.fields.modules.length) →
      ∃ t, exec (.scanRecord (.scanPoll n) a) s = .next t ∧ t.pending = s.pending ∧
        let after (m' : Monitor) (list : List StringId) (hs : List Instr) := t.dev = { s.dev with
          slc := { c with monitors := c.monitors.set n m', identityList := list }
          handoffs := s.dev.handoffs ++ hs }
        let list := c.identityList
        let joined := if n ∈ list then list else list ++ [n]
        let opens := m.state = .absent ∨ m.state = .unrecognized ∧ m.reinterrogate = true
        let hard : List Instr := [.csuEvaluation n (.hardOnly r), .swcScanRecord n r.current r.voltage]
        (opens → after { m with
            held := some r, age := some 0, state := .interrogating, reason := .none, attempts := 0, reinterrogate := false }
          joined (.monitorStateReport n :: hard)) ∧
        (¬opens → m.state ≠ .present → after { m with held := some r, age := some 0 } list hard) ∧
        (m.state = .present → ∃ gap, (gap = true ↔ ∃ h, m.held = some h ∧ r.sequence ≠ h.sequence + 1) ∧
          after { m with held := some r, age := some 0, stale := false, staleIn := some 400 } list
            [.csuEvaluation n (.full r gap), .swcScanRecord n r.current r.voltage,
              .balanceRecord n (r.modules.map (·.vmax)) r.bleed])) ∧
    (∀ a : LinkAnswer BusRecord, .busPoll ∈ s.dev.slc.awaiting → EndsWithCheck a.bytes →
      exec (.busRecord .busPoll a) s = .next ⟨s.pending, { s.dev with
        slc := { (ended .busPoll).slc with bus := a.fields.saturated, busStale := false, busTimer := some 100 }
        handoffs := s.dev.handoffs ++ [.gridRecord a.fields.saturated, .swcBusRecord a.fields.saturated.dc] }⟩) ∧
    ∀ (n : StringId) (a : LinkAnswer Identity), .identityRequest n ∈ s.dev.slc.awaiting → EndsWithCheck a.bytes →
      ∃ t, exec (.identityRecord (.identityRequest n) a) s = .next t ∧ t.pending = s.pending ∧
        let m := s.dev.monitor n
        let d := ended (.identityRequest n)
        let fits := (a.fields.modules : Int) = s.dev.item .t2 (32 + 2 * n.num) ∧
          (a.fields.chemistry : Int) = s.dev.item .t2 (33 + 2 * n.num)
        let age := m.age.getD 0
        (m.state ≠ .interrogating → t.dev = d) ∧
        (m.state = .interrogating → ¬fits → Unrecognized d t.dev n { m with identity := some a.fields } .mismatch) ∧
        (m.state = .interrogating → fits → t.dev = { d with
          slc := { d.slc with
            monitors := d.slc.monitors.set n { m with
              state := .present, identity := some a.fields, identityTimer := none, learned := some a.fields.modules
              stale := decide (400 ≤ age), staleIn := some (if 400 ≤ age then 100 else 400 - age) }
            identityList := d.slc.identityList.filter (· != n) }
          handoffs := d.handoffs ++ (.eventOccurrence ⟨.monitorAppeared, .string n, none, false⟩ ::
            .monitorStateReport n :: (if 400 ≤ age then [.csuEvaluation n .staleExpiry] else [])) })

/-- R8, R13, R14, R15: SLC's timers. The first identity expiry rejoins the list, the second ends in UNRECOGNIZED; a stale expiry below
2000 ms goes to CSU; a loss clears the monitor but its discard count and is reported; a stale bus goes to GWM and SWC. The model's
choices: Logs 1 and 3. -/
def Obligations.LinkTimersExpire : Prop :=
  ∀ (s : State),
    (∀ n, let m := s.dev.monitor n
      let list := s.dev.slc.identityList
      (m.identityTimer = none → exec (.identityTimerExpiry n) s = .next s) ∧
      (m.identityTimer ≠ none → m.attempts ≤ 1 → exec (.identityTimerExpiry n) s = .next ⟨s.pending, { s.dev with
        slc := { s.dev.slc with
          monitors := s.dev.slc.monitors.set n { m with identityTimer := none }
          identityList := if n ∈ list then list else list ++ [n] } }⟩) ∧
      (m.identityTimer ≠ none → 1 < m.attempts →
        ∃ d, exec (.identityTimerExpiry n) s = .next ⟨s.pending, d⟩ ∧ Unrecognized s.dev d n m .noIdentity)) ∧
    (∀ n age left, let m := s.dev.monitor n
      m.state = .present → m.age = some age → m.staleIn = some left →
      (age + left < 2000 → exec (.staleExpiry n) s = .next ⟨s.pending, { s.dev with
        slc := { s.dev.slc with monitors := s.dev.slc.monitors.set n { m with
          stale := true, age := some (age + left), staleIn := some 100 } }
        handoffs := s.dev.handoffs ++ [.csuEvaluation n .staleExpiry] }⟩) ∧
      (2000 ≤ age + left → exec (.staleExpiry n) s = .next s)) ∧
    (∀ n, let m := s.dev.monitor n
      (m.state = .absent → exec (.monitorLoss n) s = .next s) ∧
      (m.state ≠ .absent → exec (.monitorLoss n) s = .next ⟨s.pending, { s.dev with
        slc := { s.dev.slc with
          monitors := s.dev.slc.monitors.set n { Monitor.reset with discarded := m.discarded }
          identityList := s.dev.slc.identityList.filter (· != n) }
        handoffs := s.dev.handoffs ++ [.eventOccurrence ⟨.monitorLost, .string n, some m.state.code, false⟩,
          .monitorStateReport n, .swcMonitorLoss n, .balMonitorLoss n] }⟩)) ∧
    (s.dev.slc.busTimer ≠ none → exec .busStaleOnset s = .next ⟨s.pending, { s.dev with
      slc := { s.dev.slc with busStale := true, busTimer := none }
      handoffs := s.dev.handoffs ++ [.gwmBusStale, .swcBusStale] }⟩)

/-! ## Supervision -/

/-- R20 to R30, R33, R34: an evaluation applies the hard checks, then the channels, then derives the health: a record of a PRESENT string
all seven, another's none, a stale expiry MEAS alone; SLC's report of a monitor state derives the health alone, and a weld adds the cause
WELD. A changed health goes to SWC and BAL, a new cause raises STRING_LOCKOUT and asks for an update, and ENV hears of every evaluation.
The model's choices: Logs 1 and 10. -/
def Obligations.EvaluationsMoveTheChannels : Prop :=
  ∀ (n : StringId) (s : State),
    let d := s.dev
    let u := d.sup n
    let L := d.limitOf
    let H := d.holdOf
    let event (c : EventClass) (detail : Nat) : Instr := .eventOccurrence ⟨c, .string n, some detail, false⟩
    let edge (k : Channel) (before after : Bool) : List Instr :=
      if before = after then [] else [event (if after then .channelTripped else .channelCleared) k.num]
    let ends (i : Instr) (mid : List Instr) (last : Health → List Instr) (after : StringSup → Prop) :=
      ∃ v : StringSup, exec i s = .next ⟨s.pending, { d with
        csu := ⟨d.csu.strings.set n v⟩
        handoffs := d.handoffs.erase i ++ (mid ++
          (if v.health = u.health then [] else [.healthHandoffSwc n v.health, .balHealthHandoff n v.health]) ++
          last v.health) }⟩ ∧
      HealthIs v.causes (d.monitor n).state v.channels v.health ∧ after v
    let hears (h : Health) : List Instr := if h = u.health then [] else [.envelopeRecomputation (.health n h)]
    let hard (r : ScanRecord) : Channel → Bool
      | .ov => r.modules.any fun m => decide (d.threshold n 1 < m.vmax)
      | .uv => r.modules.any fun m => decide (m.vmin < d.threshold n 3)
      | .ot => r.modules.any fun m => m.temp.any fun x => decide (d.threshold n 5 < x)
      | _ => false
    let held : Channel → Bool
      | .ov => u.causes.ovHard | .uv => u.causes.uvHard | .ot => u.causes.otHard | _ => false
    let causes (r : ScanRecord) : Causes := { u.causes with
      ovHard := u.causes.ovHard || hard r .ov, uvHard := u.causes.uvHard || hard r .uv
      otHard := u.causes.otHard || hard r .ot }
    let hardEvents (r : ScanRecord) : List Instr := [Channel.ov, .uv, .ot].flatMap fun k =>
      if hard r k then edge k (u.channels.get k).tripped true ++
        (if held k then [] else [event .stringLockout (2 ^ k.num), .updateRequest]) else []
    let hit (r : ScanRecord) (k : Channel) : ChannelRec :=
      if hard r k then { u.channels.get k with counter := 255, tripped := true, pinned := true } else u.channels.get k
    let adjusted (k : Channel) (c : ChannelRec) : Bool :=
      if c.pinned ∨ c.limit = L k ∧ c.hold = H k then c.tripped else decide (L k ≤ min c.counter (L k + H k))
    let edges (c : Channel → ChannelRec) (v : StringSup) : List Instr := Channel.all.flatMap fun k =>
      edge k (c k).tripped (adjusted k (c k)) ++ edge k (adjusted k (c k)) (v.channels.get k).tripped
    let fails (r : ScanRecord) (gap : Bool) : Channel → Prop
      | .ov => ∃ m ∈ r.modules, d.threshold n 0 < m.vmax
      | .uv => ∃ m ∈ r.modules, m.vmin < d.threshold n 2
      | .ot => ∃ m ∈ r.modules, ∃ x, m.temp = some x ∧ d.threshold n 4 < x
      | .spread => d.threshold n 6 < r.vmax - r.vmin
      | .oc => d.threshold n 7 < (r.current.natAbs : Int)
      | .tsens => ∃ m ∈ r.modules, m.temp = none
      | .meas => gap = true ∨ r.selfTestFail = true
    let copy (r : ScanRecord) : EnvCopy := ⟨r.modules.map (·.temp), r.vmax, r.vmin, r.voltage⟩
    (∀ r gap, ∃ mid, ends (.csuEvaluation n (.full r gap)) (hardEvents r ++ mid)
      (fun h => [.envelopeRecomputation (.evaluation n (some (copy r)) h)]) fun v =>
        v.causes = causes r ∧ mid = edges (hit r) v ∧ (∀ k, v.failing.get k = true ↔ fails r gap k) ∧
        ∀ k, Evaluated (hit r k) (v.channels.get k) (L k) (H k) (v.failing.get k)) ∧
    (∀ r, ends (.csuEvaluation n (.hardOnly r)) (hardEvents r)
      (fun h => [.envelopeRecomputation (.evaluation n (some (copy r)) h)]) fun v =>
        v.causes = causes r ∧ v.failing = u.failing ∧ ∀ k, v.channels.get k = hit r k) ∧
    (∃ mid, ends (.csuEvaluation n .staleExpiry) mid (fun h => [.envelopeRecomputation (.evaluation n none h)]) fun v =>
      let c := u.channels.meas
      mid = edge .meas c.tripped (adjusted .meas c) ++ edge .meas (adjusted .meas c) v.channels.meas.tripped ∧
      v.causes = u.causes ∧ (∀ k, v.failing.get k = true ↔ k = .meas) ∧
      Evaluated c v.channels.meas (L .meas) (H .meas) true ∧
      ∀ k, k ≠ .meas → v.channels.get k = u.channels.get k) ∧
    ends (.monitorStateReport n) [] hears (fun v => v = { u with health := v.health }) ∧
    ends (.weldReport n) (if u.causes.weld then [] else [event .stringLockout 8, .updateRequest]) hears
      (fun v => v = { u with health := v.health, causes := { u.causes with weld := true } })

/-! ## Envelope and dispatch -/

/-- R40 to R57, R69: a recomputation takes the input that its event carries, forms contributions, terms, envelope and binding sets, steps
the generation and sets every port's flag where the envelope changed, raises BINDING_SOURCE_CHANGED where a binding set did, and at a
change of the envelope DU brings the grant to the nearer bound and sets its target afresh. The model's choices: Logs 1, 36 and 39. -/
def Obligations.EnvelopeIsRecomputed : Prop :=
  ∀ (i : EnvInput) (s : State), ∃ t, exec (.envelopeRecomputation i) s = .next t ∧ t.pending = s.pending ∧
    let d := s.dev
    let e := t.dev
    let x := e.env
    let string (n : StringId) := d.env.strings.get n
    Only [.handoffs, .env, .du] d e ∧
    (∀ n, x.strings.get n = match i with
      | .evaluation m copy h => if m = n then
          ⟨if h = .absent then none else copy.or (string n).copy, h, (string n).switch, (string n).openPending⟩ else string n
      | .health m h => if m = n then
          ⟨if h = .absent then none else (string n).copy, h, (string n).switch, (string n).openPending⟩ else string n
      | .stringSwitch m st wait => if m = n then ⟨(string n).copy, (string n).health, st, wait⟩ else string n
      | _ => string n) ∧
    x.breaker = (match i with | .breaker st => st | _ => d.env.breaker) ∧
    x.isolation = (match i with | .isolation on => on | _ => d.env.isolation) ∧
    x.thermal = (match i with | .thermal kw => kw | _ => d.env.thermal) ∧
    (x.fireStage, x.fireTest) = (match i with | .fire st test => (st, test) | _ => (d.env.fireStage, d.env.fireTest)) ∧
    x.window = (match i with | .window st => st | _ => d.env.window) ∧
    x.cellStanding = (match i with | .standing .cell st => st | _ => d.env.cellStanding) ∧
    x.ratingChg = d.env.ratingChg ∧ x.ratingDis = d.env.ratingDis ∧ x.ratingWritten = d.env.ratingWritten ∧
    (∀ n, let c := x.contributions.get n
      let class2 := d.item .t2 (33 + 2 * n.num) = 2
      ((x.strings.get n).copy = none → c = .zero) ∧
      ∀ y, (x.strings.get n).copy = some y →
        let T (k : Nat) := d.item .t3 (if class2 then 30 + k else 26 + k)
        (c.counted = true ↔
          (x.strings.get n).switch = .closed ∧ (x.strings.get n).openPending = false ∧ (x.strings.get n).health = .available) ∧
        c.voltage = y.voltage ∧
        (y.vmax ≤ T 0 → c.chgTaper = 1024) ∧ (T 0 < y.vmax → T 1 ≤ y.vmax → c.chgTaper = 0) ∧
        (T 0 < y.vmax → y.vmax < T 1 → c.chgTaper = 1024 * (T 1 - y.vmax) / (T 1 - T 0)) ∧
        (T 2 ≤ y.vmin → c.disTaper = 1024) ∧ (y.vmin < T 2 → y.vmin ≤ T 3 → c.disTaper = 0) ∧
        (y.vmin < T 2 → T 3 < y.vmin → c.disTaper = 1024 * (y.vmin - T 3) / (T 2 - T 3)) ∧
        c.chgCurrent = d.item .t3 24 * c.chgTemp * c.chgTaper / 1048576 ∧
        c.disCurrent = d.item .t3 25 * c.disTemp * c.disTaper / 1048576 ∧
        ((∀ v ∈ y.temps, v = none) → c.chgTemp = 0 ∧ c.disTemp = 0) ∧
        ((∃ v, some v ∈ y.temps) →
          let F (base : Nat) := derateFactor (fun k => d.item .t3 (base + k)) (fun k => d.item .t3 (base + 6 + k))
          (∃ v, some v ∈ y.temps ∧ c.chgTemp = F 0 v) ∧ (∀ v, some v ∈ y.temps → c.chgTemp ≤ F 0 v) ∧
          (∃ v, some v ∈ y.temps ∧ c.disTemp = F 12 v) ∧ ∀ v, some v ∈ y.temps → c.disTemp ≤ F 12 v)) ∧
    EnvelopeFormed e ∧
    (let moved := x.chg ≠ d.env.chg ∨ x.dis ≠ d.env.dis
      let which := (if x.bindChg = d.env.bindChg then 0 else 1) + (if x.bindDis = d.env.bindDis then 0 else 2)
      let below := d.du.granted < -x.chg
      let above := ¬below ∧ x.dis < d.du.granted
      let events (hs : List Instr) := e.handoffs = d.handoffs.erase (.envelopeRecomputation i) ++
        ((if which = 0 then [] else [.eventOccurrence ⟨.bindingSourceChanged, .table 4, some which, false⟩]) ++ hs)
      (¬moved → x.generation = d.env.generation ∧ x.changed = d.env.changed ∧ e.du = d.du ∧ events []) ∧
      (moved → x.generation = d.env.generation + 1 ∧ (∀ p, x.changed.get p = true) ∧
        (below → events [.eventOccurrence ⟨.dispatchClamped, .table 5, some 1, false⟩]) ∧
        (above → events [.eventOccurrence ⟨.dispatchClamped, .table 5, some 2, false⟩]) ∧
        (¬below → ¬above → events []) ∧
        let g := if d.forced = true then 0 else if below then -x.chg else if x.dis < d.du.granted then x.dis else d.du.granted
        let target := if d.forced = true then 0 else max (-x.chg) (min x.dis d.du.order)
        e.du = { d.du with
          granted := g
          target := target
          rampTimer := if d.forced = false ∧ d.standing .converter = .inStanding ∧ d.du.reported = true ∧ g ≠ target then
            some (d.du.rampTimer.getD 100) else none }))

/-- R43: the temperature factor of each direction. In table 3, whose breakpoints ascend, the factor of one temperature is the end factor at
and beyond an end, and in a segment is interpolated from the lower breakpoint, the division truncated toward zero: rounded down where the
factors rise, up where they fall, and between the two. A string's factor is the least over its readable modules; with every module OPEN it
is 0 and so is the current limit, whatever counts the string, and such a record fails TSENS. -/
def Obligations.DeratingInterpolates : Prop :=
  (∀ d : Device, SettingsLaw d → ∀ base, base = 0 ∨ base = 12 →
    let T (k : Nat) := d.item .t3 (base + k)
    let F (k : Nat) := d.item .t3 (base + 6 + k)
    (∀ k, k < 5 → T k < T (k + 1)) ∧
    (∀ v, let f := derateFactor T F v
      0 ≤ f ∧ f ≤ 1024 ∧ (v ≤ T 0 → f = F 0) ∧ (T 5 ≤ v → f = F 5) ∧
      ∀ k, k < 5 → T k ≤ v → v < T (k + 1) →
        let rise := F (k + 1) - F k
        f = F k + (rise * (v - T k)).tdiv (T (k + 1) - T k) ∧
        (0 < rise → f = F k + rise * (v - T k) / (T (k + 1) - T k)) ∧
        (rise < 0 → f = F k - (-rise * (v - T k)) / (T (k + 1) - T k)) ∧
        (rise = 0 → f = F k) ∧ (v = T k → f = F k) ∧
        min (F k) (F (k + 1)) ≤ f ∧ f ≤ max (F k) (F (k + 1))) ∧
    ∀ n y, (d.env.strings.get n).copy = some y →
      let c := d.contribution n
      let factor := if base = 0 then c.chgTemp else c.disTemp
      let limit := if base = 0 then c.chgCurrent else c.disCurrent
      (c.counted = true ↔ (d.env.strings.get n).switch = .closed ∧ (d.env.strings.get n).openPending = false ∧
        (d.env.strings.get n).health = .available) ∧
      ((∀ v ∈ y.temps, v = none) → factor = 0 ∧ limit = 0) ∧
      ((∃ v, some v ∈ y.temps) → (∃ v, some v ∈ y.temps ∧ factor = derateFactor T F v) ∧
        ∀ v, some v ∈ y.temps → factor ≤ derateFactor T F v)) ∧
  ∀ (s : State) (n : StringId) (r : ScanRecord) (gap : Bool), r.modules ≠ [] → (∀ m ∈ r.modules, m.temp = none) →
    ∃ t, exec (.csuEvaluation n (.full r gap)) s = .next t ∧ (t.dev.sup n).failing.tsens = true ∧
      Evaluated (s.dev.sup n).channels.tsens (t.dev.sup n).channels.tsens (s.dev.limitOf .tsens) (s.dev.holdOf .tsens) true

/-- R64, R65, R66, R68, R71, R73, R74, R79: a ramp step moves the grant toward the target by at most a tenth of the ramp rate and at least
1; a stale report under a CLOSED breaker forces 0 and is an overrun of detail 2, and one that is stale already stops the timer alone; the
overrun expiry is one of detail 1 and opens the breaker; the Site Port's standing chooses between its order and the fallback. The model's
choices: Logs 1, 3, 14 and 39. -/
def Obligations.DispatchEventsMoveTheGrant : Prop :=
  ∀ s : State, DispatchLaw s.dev →
    let d := s.dev
    let u := d.du
    let closed := (d.sw .g).state = .closed
    let du (v : Du) (hs : List Instr) : Host.Outcome State Fault Refusal :=
      .next ⟨s.pending, { d with du := v, handoffs := d.handoffs ++ hs }⟩
    (u.rampTimer = none → exec .rampStep s = .next s) ∧
    (u.rampTimer ≠ none →
      let size := min (max 1 (d.item .t5 1 / 10)) ((u.target - u.granted).natAbs : Int)
      let g := if u.granted < u.target then u.granted + size else u.granted - size
      exec .rampStep s = du { u with granted := g, rampTimer := if g = u.target then none else some 100 } []) ∧
    (u.reportTimer = none → exec .reportStaleExpiry s = .next s) ∧
    (u.reportTimer ≠ none → ¬closed ∨ u.reportStale = true →
      exec .reportStaleExpiry s = du { u with reportTimer := none } []) ∧
    (u.reportTimer ≠ none → closed → u.reportStale = false → exec .reportStaleExpiry s =
      du { u with
        reportTimer := none, reportStale := true, overrunTimer := none, granted := 0, target := 0, rampTimer := none }
        [.eventOccurrence ⟨.converterOverrun, .port .converter, some 2, false⟩]) ∧
    (u.overrunTimer = none → exec .overrunExpiry s = .next s) ∧
    (u.overrunTimer ≠ none → exec .overrunExpiry s = du { u with overrunTimer := none }
      [.eventOccurrence ⟨.converterOverrun, .port .converter, some 1, false⟩, .forcedOpen]) ∧
    ∀ st : Standing,
      let site := st = .inStanding ∨ st = .lapsed
      let order := d.item .t5 (if site then 0 else 2)
      let target := d.targetFor order
      exec (.siteStandingHandoff st) s = .next ⟨s.pending, { d with
        handoffs := d.handoffs.erase (.siteStandingHandoff st)
        du := { u with
          siteStanding := st
          order := order
          source := if site then .site else .fallback
          target := target
          rampTimer := d.rampFor u.granted target } }⟩

/-! ## Switching -/

/-- R82, R83, R99: how every event at SWC ends: the inhibits are derived afresh, a string's MISMATCH standing exactly while another string
is CLOSED and its voltage lies further than JOIN_WINDOW from the bus voltage, and while ISOLATING a breaker at rest sends every CLOSED
string to OPENING, or to OPEN where its feedback shows open, until all five switches are at rest and the status is ISOLATED. The model's
choices: Logs 15 and 17. -/
def Obligations.SwitchingEventsEndAlike : Prop :=
  ∀ d : Device,
    let e := d.swcEnd
    let follows := d.swc.isolation = .isolating ∧ Resting d .g
    InhibitLaw e ∧ MismatchDerived e ∧ Only [.handoffs, .swc] d e ∧
    (¬follows → (∀ n, e.sw n = { d.sw n with inhibits := (e.sw n).inhibits }) ∧ e.handoffs = d.handoffs) ∧
    (follows → ∀ n, ((d.sw n).state ≠ .closed ∨ n = .g → e.sw n = { d.sw n with inhibits := (e.sw n).inhibits }) ∧
      ((d.sw n).state = .closed → n ≠ .g → (e.sw n).selection = none ∧ (e.sw n).openDelay = none ∧
        (d.pins.feedback.get n = true → (e.sw n).state = .opening ∧ (e.sw n).timer = some 200) ∧
        (d.pins.feedback.get n = false → (e.sw n).state = .opened))) ∧
    (d.swc.isolation = .isolating → (e.swc.isolation = .isolated ↔ ∀ n, Resting e n) ∧
      (e.swc.isolation = .isolating ↔ ∃ n, ¬Resting e n)) ∧
    (d.swc.isolation ≠ .isolating → e.swc.isolation = d.swc.isolation) ∧
    e.swc = { d.swc with switches := e.swc.switches, isolation := e.swc.isolation }

/-- R81, R88, R89, R90, R91, R92: a feedback that changes completes a close or an opening, clears a weld, finds a weld at rest, or is a
dropout; the pre-charge and close feedback timers fail the close, and the open feedback timer finds a weld. A change of the breaker ends
the isolation timer and reaches DU. The model's choices: Logs 1, 3, 15, 16, 39 and 45. -/
def Obligations.FeedbackDecidesTheOperation : Prop :=
  (∀ (n : SwitchId) (shut : Bool) (s : State),
    (s.dev.pins.feedback.get n = shut → exec (.feedbackChange n shut) s = .next s) ∧
    (s.dev.pins.feedback.get n ≠ shut → ∃ e, exec (.feedbackChange n shut) s = .next ⟨s.pending, e⟩ ∧
      let d : Device := { s.dev with pins := { s.dev.pins with feedback := s.dev.pins.feedback.set n shut } }
      let r := d.sw n
      let done (detail : Nat) : List Instr := [.eventOccurrence ⟨.switchDone, .switch n, some detail, false⟩]
      let moved (st : SwitchState) (result : LastResult) : SwitchRec :=
        { r with state := st, selection := none, openDelay := none, timer := none, lastResult := result }
      (shut = true →
        (r.state = .opened ∨ r.state = .precharging → Welded d e n) ∧
        (r.state = .closing → SwitchMoved d e n { moved .closed .done with badJoin := false } (done 1)) ∧
        (r.state = .closed ∨ r.state = .opening ∨ r.state = .welded → e = d.swcEnd)) ∧
      (shut = false →
        (r.state = .closed → FailedOpen d e n 4) ∧
        (r.state = .opening → SwitchMoved d e n
          (moved .opened (if r.lastResult = .aborted then .aborted else .done)) (done 2)) ∧
        (r.state = .welded → SwitchMoved d e n (moved .opened r.lastResult) (done 3)) ∧
        (r.state = .opened ∨ r.state = .precharging ∨ r.state = .closing → e = d.swcEnd)))) ∧
  ∀ s : State,
    (∀ n : StringId, ∃ e, exec (.prechargeExpiry n) s = .next ⟨s.pending, e⟩ ∧
      ((s.dev.sw n.switch).state = .precharging → FailedOpen s.dev e n.switch 1) ∧
      ((s.dev.sw n.switch).state ≠ .precharging → e = s.dev)) ∧
    ∀ n : SwitchId,
      (∃ e, exec (.closeFeedbackExpiry n) s = .next ⟨s.pending, e⟩ ∧
        ((s.dev.sw n).state = .closing → FailedOpen s.dev e n 2) ∧ ((s.dev.sw n).state ≠ .closing → e = s.dev)) ∧
      ∃ e, exec (.openFeedbackExpiry n) s = .next ⟨s.pending, e⟩ ∧
        ((s.dev.sw n).state = .opening → Welded s.dev e n) ∧ ((s.dev.sw n).state ≠ .opening → e = s.dev)

/-- R93, R94, R95, R99: what forces a switch open, each at its switch: GWM's or DU's request, the open-delay timer, the isolation timer,
the first converter report of at most OVR_ABS, a lockout, and, at all five, a fire stage that enters ALARM or RELEASED. A soft trip leaves
a CLOSED string open-pending for 500 ms and aborts a closing one. The model's choices: Logs 1, 3, 15 and 17. -/
def Obligations.ForcedOpensReachTheSwitches : Prop :=
  ∀ s : State,
    let d := s.dev
    (∃ e, exec .forcedOpen s = .next ⟨s.pending, e⟩ ∧ ForcedOpen (d.took .forcedOpen) e .g) ∧
    (∀ n : StringId, ∃ e, exec (.openDelayExpiry n) s = .next ⟨s.pending, e⟩ ∧
      ((d.sw n.switch).openDelay = none → e = d) ∧ ((d.sw n.switch).openDelay ≠ none → ForcedOpen d e n.switch)) ∧
    (∃ e, exec .isolationTimerExpiry s = .next ⟨s.pending, e⟩ ∧
      (d.swc.isolationTimer = none → e = d) ∧
      (d.swc.isolationTimer ≠ none → ForcedOpen { d with swc := { d.swc with isolationTimer := none } } e .g)) ∧
    (∀ kw : Int, ∃ e, exec (.isolationConverterReport kw) s = .next ⟨s.pending, e⟩ ∧
      let m := d.took (.isolationConverterReport kw)
      let opens := d.swc.isolationTimer ≠ none ∧ (kw.natAbs : Int) ≤ d.item .t5 5
      (¬opens → e = m) ∧ (opens → ForcedOpen { m with swc := { d.swc with isolationTimer := none } } e .g)) ∧
    (∀ st : FireStage, ∃ e, exec (.fireStageHandoffSwc st) s = .next ⟨s.pending, e⟩ ∧ e.swc.fireStage = st ∧
      let m : Device := { d.took (.fireStageHandoffSwc st) with swc := { d.swc with fireStage := st } }
      let forces := (st = .alarm ∨ st = .released) ∧ d.swc.fireStage ≠ st
      (¬forces → e = m.swcEnd) ∧
      (forces → ∀ n,
        let moves := (d.sw n).state = .closed ∨ (d.sw n).state = .precharging ∨ (d.sw n).state = .closing
        (e.sw n).selection = none ∧ (¬moves → (e.sw n).state = (d.sw n).state) ∧
        (moves → (e.sw n).openDelay = none ∧ (e.sw n).state = if d.pins.feedback.get n then .opening else .opened) ∧
        ((d.sw n).state = .precharging ∨ (d.sw n).state = .closing → (e.sw n).lastResult = .aborted))) ∧
    ∀ (n : StringId) (h : Health), ∃ e, exec (.healthHandoffSwc n h) s = .next ⟨s.pending, e⟩ ∧
      let m : Device := { d.took (.healthHandoffSwc n h) with swc := { d.swc with health := d.swc.health.set n h } }
      let old := d.swc.health.get n
      let r := d.sw n.switch
      let locks := h = .lockedOut ∧ old ≠ .lockedOut
      let soft := old = .available ∧ h ≠ .available ∧ ¬locks
      let closing := r.state = .precharging ∨ r.state = .closing
      (locks → ForcedOpen m e n.switch) ∧
      (soft → r.state = .closed → r.openDelay = none → e = Device.swcEnd
        { m.withSwitch n.switch { r with openDelay := some 500 } with
          handoffs := m.handoffs ++ [.envelopeRecomputation (.stringSwitch n .closed true)] }) ∧
      (soft → closing → ForcedOpen (m.withSwitch n.switch { r with interrupted := r.interrupted || h == .absent }) e n.switch) ∧
      (¬locks → ¬soft ∨ ¬(r.state = .closed ∧ r.openDelay = none) ∧ ¬closing → e = m.swcEnd)

/-- R15, R82, R83, R88, R94, R95, R101: SWC holds what the records and hand-offs bring it: a low current opens an open-pending string, a
bus voltage within MATCH_WINDOW brings a PRECHARGING string to CLOSING for 200 ms, and a loss interrupts a string that is closing. The
model's choices: Logs 1 and 37. -/
def Obligations.RecordsReachTheSwitches : Prop :=
  ∀ s : State,
    let d := s.dev
    (∀ (n : StringId) (i v : Int), ∃ e, exec (.swcScanRecord n i v) s = .next ⟨s.pending, e⟩ ∧
      let m : Device :=
        { d.took (.swcScanRecord n i v) with swc := { d.swc with samples := d.swc.samples.set n (some ⟨i, v⟩) } }
      let opens := (d.sw n.switch).openDelay ≠ none ∧ i.natAbs ≤ 20
      (¬opens → e = m.swcEnd) ∧ (opens → ForcedOpen m e n.switch)) ∧
    (∀ dc : Int, ∃ m : Device, exec (.swcBusRecord dc) s = .next ⟨s.pending, m.swcEnd⟩ ∧
      Only [.handoffs, .swc] d m ∧ m.swc = { d.swc with busVoltage := dc, busStale := false, switches := m.swc.switches } ∧
      m.sw .g = d.sw .g ∧
      ∀ n : StringId,
        let near := ((dc - ((d.swc.samples.get n).map (·.voltage)).getD 0).natAbs : Int) ≤ d.item .t11 19
        let joins := (d.sw n.switch).state = .precharging ∧ near
        (¬joins → m.sw n.switch = d.sw n.switch) ∧
        (joins → Instr.envelopeRecomputation (.stringSwitch n .closing false) ∈ m.handoffs ∧ m.sw n.switch =
          { d.sw n.switch with state := .closing, selection := none, openDelay := none, timer := some 200 })) ∧
    (∀ n : StringId, exec (.swcMonitorLoss n) s = .next ⟨s.pending,
      let m := d.took (.swcMonitorLoss n)
      let r := d.sw n.switch
      let closing := r.state == .precharging || r.state == .closing
      { m with swc := { d.swc with
        samples := d.swc.samples.set n none
        switches := d.swc.switches.set n.switch { r with interrupted := r.interrupted || closing } } }.swcEnd⟩) ∧
    exec .swcBusStale s = .next ⟨s.pending, { d.took .swcBusStale with swc := { d.swc with busStale := true } }.swcEnd⟩ ∧
    ∀ w : WindowState, exec (.gridWindowHandoffSwc w) s =
      .next ⟨s.pending, { d.took (.gridWindowHandoffSwc w) with swc := { d.swc with window := w } }.swcEnd⟩

/-! ## The grid window -/

/-- R100 to R104: GWM by its state: records, staleness, the breaker's reports and the three timers. A record is normal in voltage exactly
when every phase lies in the normal band, lies in the high trip band exactly when a phase does, in the low trip band when a phase does and
none in the high; the frequency settings rise by 10000 at 60 Hz. The model's choices: Logs 1, 3, 26 and 29. -/
def Obligations.GridWindowMoves : Prop :=
  (∀ (d : Device) (r : BusRecord), SettingsLaw d →
    let c := d.classify r
    let ratios := [r.phase1, r.phase2, r.phase3].map fun v => 1000 * v / d.item .t10 0
    let f := r.freq - if d.item .t10 1 = 1 then 10000 else 0
    (c.volt = .normal ↔ ∀ x ∈ ratios, d.item .t10 3 ≤ x ∧ x ≤ d.item .t10 4) ∧
    (c.volt = .highTrip ↔ ∃ x ∈ ratios, d.item .t10 5 < x) ∧
    (c.volt = .lowTrip ↔ (∃ x ∈ ratios, x < d.item .t10 2) ∧ ∀ x ∈ ratios, x ≤ d.item .t10 5) ∧
    (c.volt = .highRide ↔ (∃ x ∈ ratios, d.item .t10 4 < x) ∧ ∀ x ∈ ratios, d.item .t10 2 ≤ x ∧ x ≤ d.item .t10 5) ∧
    c.ratio ∈ ratios ∧
    (c.freq = .trip ↔ f < d.item .t10 9 ∨ d.item .t10 12 < f) ∧
    (c.freq = .normal ↔ d.item .t10 10 ≤ f ∧ f ≤ d.item .t10 11)) ∧
  ∀ s : State,
    let g := s.dev.gwm
    (∀ r : BusRecord, ∃ e, exec (.gridRecord r) s = .next ⟨s.pending, e⟩ ∧
      let d := s.dev.took (.gridRecord r)
      let c := s.dev.classify r
      let g' : Gwm := { g with last := some c, busStale := false }
      let normal := c.volt = .normal ∧ c.freq = .normal
      let high := c.volt = .highTrip
      (g.window = .holdOff → normal → e = d.withGwm { g' with holdOffRunning := true }) ∧
      (g.window = .holdOff → ¬normal → e = d.withGwm (g'.heldOff d)) ∧
      (g.window = .permitted → ¬normal → PermissionLost d e g') ∧
      (g.window = .tripped ∨ (g.window = .permitted ∨ g.window = .inWindow) ∧ normal → e = d.withGwm g') ∧
      (g.window = .rideThrough → normal → WindowMoved d e { g' with ride := none, trip := none } .inWindow []) ∧
      (g.window = .inWindow ∨ g.window = .rideThrough → high → GridTripped d e g' 1) ∧
      (g.window = .inWindow → ¬normal → ¬high →
        ∃ m, WindowMoved d m { g' with ride := none, trip := none } .rideThrough [] ∧ RideRecord m e c m.gwm) ∧
      (g.window = .rideThrough → ¬normal → ¬high → RideRecord d e c g')) ∧
    (∃ e, exec .gwmBusStale s = .next ⟨s.pending, e⟩ ∧
      let d := s.dev.took .gwmBusStale
      let g' : Gwm := { g with busStale := true }
      (g.window = .holdOff → e = d.withGwm (g'.heldOff d)) ∧ (g.window = .permitted → PermissionLost d e g') ∧
      (g.window = .inWindow → WindowMoved d e
        { g' with ride := some ⟨0, none⟩, trip := some ⟨0, 200, .busStale⟩ } .rideThrough []) ∧
      (g.window = .rideThrough → e = d.withGwm
        { g' with ride := some (g.ride.getD ⟨0, none⟩), trip := some (g.trip.getD ⟨0, 200, .busStale⟩) }) ∧
      (g.window = .tripped → e = d.withGwm g')) ∧
    (∀ st : SwitchState, ∃ e, exec (.breakerReportGwm st) s = .next ⟨s.pending, e⟩ ∧
      let d := s.dev.took (.breakerReportGwm st)
      let g' : Gwm := { g with breaker := st }
      let joined := g.window = .inWindow ∨ g.window = .rideThrough ∨ g.window = .tripped
      (g.window = .holdOff → st = .closed → e = { d.withGwm g' with handoffs := d.handoffs ++ [.forcedOpen] }) ∧
      (g.window = .permitted → st = .closed → WindowMoved d e g' .inWindow []) ∧
      (joined → st ≠ .closed → WindowMoved d e
        { g' with
          ride := none, trip := none, holdOffLeft := 1000 * d.itemNat .t10 15
          holdOffRunning := !g.busStale && g.last.any fun c => c.volt == .normal && c.freq == .normal }
        .holdOff []) ∧
      (joined → st = .closed → e = d.withGwm g') ∧ (¬joined → st ≠ .closed → e = d.withGwm g')) ∧
    (∃ e, exec .holdOffExpiry s = .next ⟨s.pending, e⟩ ∧
      (g.window = .holdOff → g.holdOffRunning = true → WindowMoved s.dev e
        { g with holdOffLeft := 0, holdOffRunning := false } .permitted
        [.eventOccurrence ⟨.gridReconnectPermitted, .switch .g, none, false⟩]) ∧
      (g.window ≠ .holdOff ∨ g.holdOffRunning = false → e = s.dev)) ∧
    (∃ e, exec .rideThroughExpiry s = .next ⟨s.pending, e⟩ ∧
      let runs := g.window = .rideThrough ∧ ∃ t x, g.ride = some t ∧ t.limit = some x
      (runs → GridTripped s.dev e g 3) ∧ (¬runs → e = s.dev)) ∧
    ∃ e, exec .tripDelayExpiry s = .next ⟨s.pending, e⟩ ∧
      (g.trip = none ∨ g.window ≠ .rideThrough → e = s.dev) ∧
      ∀ t, g.trip = some t → g.window = .rideThrough →
        GridTripped s.dev e g (match t.cause with | .lowVoltage => 2 | .frequency => 4 | .busStale => 5)

/-! ## The cooling loop -/

/-- R108 to R113, R116, R118, R119, R121, R123: a cooling sample takes the analog inputs, SLC's offer and table 8. With valid
data it sets the demanded count, the mode, the outputs asked for, stops and starts stages, forms THERMAL and the thermal hold; without, it
is BLIND, with every stage stopped at the entry. The pump want and the outputs follow. The model's choices: Logs 3, 10, 23, 25 and 27. -/
def Obligations.CoolingSampleRunsTheLoop : Prop :=
  ∀ (supply ret ambient : Int) (s : State), SettingsLaw s.dev → s.dev.clc.demanded ≤ 3 →
    ∃ e, exec (.coolingSample supply ret ambient) s = .next ⟨s.pending, e⟩ ∧
      let d := s.dev
      let old := d.clc
      let x := e.clc
      let set := d.item .t8
      let analog (v : Int) : Option Int := some (max (-400) (min 1250 v))
      let runs (c : Stage) := (d.stage c).state = .running
      Only [.handoffs, .pins, .clc] d e ∧
      e.pins = { d.pins with supply := supply, coolantReturn := ret, ambient := ambient } ∧
      x.supply = analog supply ∧ x.coolantReturn = analog ret ∧ x.ambient = analog ambient ∧
      x.tmax = d.slc.tmax ∧ x.tmin = d.slc.tmin ∧ x.sampleIn = 1000 ∧ x.settings = d.settings.get .t8 ∧ x.zones = old.zones ∧
      x.stringClosed = old.stringClosed ∧ x.exhaustFault = old.exhaustFault ∧ OutputsFollow d e ∧
      (d.slc.tmax = none → ∃ stages stops y y' hs,
        let taken : Clc := { old with
          supply := analog supply, coolantReturn := analog ret, ambient := analog ambient, tmax := d.slc.tmax, tmin := d.slc.tmin
          sampleIn := 1000, settings := d.settings.get .t8 }
        let enters := old.mode ≠ .blind
        StagesStopped d stages stops ∧
        (enters → ThermalFormed { taken with
          mode := .blind, demanded := 0, fanAsked := 50, heaterAsked := 0, stages := stages } True y hs) ∧
        (¬enters → ThermalFormed taken True y hs) ∧
        PumpFollows d y y' [] ∧ x = y'.withOutputs x ∧
        e.handoffs = d.handoffs ++
          ((if enters then stops ++ [.eventOccurrence ⟨.coolingFault, .table 8, some 1, false⟩] else []) ++ hs)) ∧
      ∀ hi lo, d.slc.tmax = some hi → d.slc.tmin = some lo →
        let prev := if old.mode = .blind then .idle else old.mode
        let count := if old.mode = .blind then 0 else old.demanded
        let n := x.demanded
        let first (m : Nat) := set 4 + (m - 1 : Nat) * set 5
        let wanted := (Stage.all.filter fun c => (d.stage c).state != .failed).take n
        let stops (c : Stage) := runs c ∧ c ∉ wanted ∧ 120000 ≤ (d.stage c).since
        let free := 30000 ≤ old.sinceStart ∧ old.flow = .confirmed ∧ old.batteryFire = false
        let starts (c : Stage) := c ∈ wanted ∧ (d.stage c).state = .off ∧
          (∀ b ∈ wanted, b.num < c.num → (d.stage b).state = .running) ∧ 180000 ≤ (d.stage c).since ∧ free
        x.lastTmax = some hi ∧
        (n ≤ 3 ∧ (count < n → first n < hi) ∧ (count ≤ n → n < 3 → hi ≤ first (n + 1)) ∧
          (n < count → hi < first (n + 1) - set 6) ∧ (0 < n → n ≤ count → first n - set 6 ≤ hi)) ∧
        (0 < n ∨ (∃ c, runs c) → x.mode = .chill) ∧
        (n = 0 → (∀ c, ¬runs c) →
          let warm := if prev = .cool ∨ prev = .chill then set 2 ≤ hi else set 3 < hi
          let cold := if prev = .heat then lo ≤ set 1 else lo < set 0
          (warm → x.mode = .cool) ∧ (¬warm → cold → x.mode = .heat) ∧ (¬warm → ¬cold → x.mode = .idle)) ∧
        (x.mode = .cool ∨ x.mode = .chill →
          x.fanAsked = min 100 (max 20 ((hi - set 2) * 100 / (set 4 - set 2))) ∧ x.heaterAsked = 0) ∧
        (x.mode = .idle → x.fanAsked = 0 ∧ x.heaterAsked = 0) ∧
        (x.mode = .heat → x.fanAsked = 0 ∧ x.heaterAsked =
          if lo < set 0 - 100 ∨ lo ≤ set 0 - 50 ∧ prev = .heat ∧ old.heaterAsked = 2 then 2 else 1) ∧
        (∀ c, (stops c → e.stage c = ⟨.off, 0, none⟩) ∧
          (starts c → e.stage c = ⟨.running, 0, if d.pins.runFeedback.get c then none else some 5000⟩) ∧
          (¬stops c → ¬starts c → e.stage c = d.stage c)) ∧
        ((∃ c, starts c) → x.sinceStart = 0) ∧ ((∀ c, ¬starts c) → x.sinceStart = old.sinceStart) ∧
        (let temp := if hi ≤ set 7 then 9999 else if set 8 ≤ hi then 0 else set 9 * (set 8 - hi) / (set 8 - set 7)
          let stage := if set 4 < hi then
            set 9 * (Stage.all.filter fun c => (d.stage c).state != .failed).length / 3 else 9999
          let flow := if old.flow = .fault then set 10 else 9999
          x.tempCap = temp ∧ x.stageCap = stage ∧ x.flowCap = flow ∧ x.thermal = min temp (min stage flow)) ∧
        x.thermalHold = (if set 11 ≤ hi then true else if hi ≤ set 11 - 20 then false else old.thermalHold) ∧
        (∃ moves, e.handoffs = d.handoffs ++ (moves ++
            (if x.thermal = old.thermal then [] else [.envelopeRecomputation (.thermal x.thermal.toNat)]) ++
            (if x.thermalHold = old.thermalHold then [] else [.thermalHoldHandoff x.thermalHold])) ∧
          ∀ i, i ∈ moves ↔ ∃ c, (stops c ∧ i = .eventOccurrence ⟨.coolingStageChange, .stage c, some 2, false⟩) ∨
            (starts c ∧ i = .eventOccurrence ⟨.coolingStageChange, .stage c, some 1, false⟩)) ∧
        PumpFollows d
          { x with pump := old.pump, flow := old.flow, phase := old.phase, flowTimer := old.flowTimer } x []

/-- R114, R116, R117, R118, R120, R121, R123: the cooling loop's feedback, flow and timer events and the hand-offs it takes, under table 8
as the last sample took it. A stage whose feedback stays away fails; flow is confirmed, lost, tried and proved; the exhaust fan's fault is
raised once; the zones' stages stop the cooling of a burning battery zone, and a CLOSED string wants the pump. The model's choices: Logs
1, 3 and 25. -/
def Obligations.CoolingEventsMoveTheLoop : Prop :=
  ∀ s : State,
    let d := s.dev
    let x := d.clc
    let same (i : Instr) := exec i s = .next s
    let pins (q : Pins) : Device := { d with pins := q }
    let stage (c : Stage) (r : CoolStage) : Clc := { x with stages := x.stages.set c r }
    (∀ c running, (d.pins.runFeedback.get c = running → same (.runFeedbackChange c running)) ∧
      (d.pins.runFeedback.get c ≠ running → exec (.runFeedbackChange c running) s = .next ⟨s.pending,
        { pins { d.pins with runFeedback := d.pins.runFeedback.set c running } with
          clc := if (d.stage c).state = .running then
            stage c { d.stage c with timer := if running then none else some 5000 } else x }⟩)) ∧
    (∀ c, ((d.stage c).timer = none → same (.runFeedbackExpiry c)) ∧
      ((d.stage c).timer ≠ none → ∃ e y hs, exec (.runFeedbackExpiry c) s = .next ⟨s.pending, e⟩ ∧
        ThermalFormed (stage c ⟨.failed, 0, none⟩) True y hs ∧ OutputsFollow d e ∧
        e = { d with
          clc := y.withOutputs e.clc
          handoffs := d.handoffs ++ (.eventOccurrence ⟨.coolingStageChange, .stage c, some 2, false⟩ ::
            .eventOccurrence ⟨.coolingFault, .stage c, some 2, false⟩ :: hs) })) ∧
    (∀ flow, (d.pins.flow = flow → same (.flowSwitchChange flow)) ∧
      (d.pins.flow ≠ flow → ∃ e, exec (.flowSwitchChange flow) s = .next ⟨s.pending, e⟩ ∧
        let m := pins { d.pins with flow := flow }
        let y : Clc :=
          if flow = true then
            (if x.flow = .starting then { x with flow := .confirmed, flowTimer := none }
             else if x.flow = .confirmed then { x with flowTimer := none }
             else if x.flow = .fault ∧ x.phase = .trying then
               { x with pump := true, phase := .proving, flowTimer := some 10000 }
             else x)
          else if x.flow = .confirmed then { x with flowTimer := some 5000 }
          else if x.flow = .fault ∧ x.phase = .proving then
            { x with pump := false, phase := .waiting, flowTimer := some 60000 }
          else x
        e = { m with clc := y.withOutputs e.clc } ∧ OutputsFollow m e)) ∧
    (∀ i detail ready, (i, detail, ready) ∈ [(Instr.flowConfirmExpiry, 3, x.flow == .starting),
        (.flowLossExpiry, 4, x.flow == .confirmed && x.flowTimer.isSome)] →
      (ready = false → same i) ∧
      (ready = true → ∃ e, exec i s = .next ⟨s.pending, e⟩ ∧ FlowFaulted d e detail)) ∧
    (∀ i phase y, (i, phase, y) ∈ [
        (Instr.retryExpiry, FlowPhase.waiting,
          { x with pump := true, phase := if d.pins.flow then .proving else .trying, flowTimer := some 10000 }),
        (.tryExpiry, .trying, { x with pump := false, phase := .waiting, flowTimer := some 60000 })] →
      (x.phase ≠ phase → same i) ∧
      (x.phase = phase → ∃ e, exec i s = .next ⟨s.pending, e⟩ ∧
        e = { d with clc := y.withOutputs e.clc } ∧ OutputsFollow d e)) ∧
    ((x.phase ≠ .proving → same .provingExpiry) ∧
      (x.phase = .proving → ∃ e y hs, exec .provingExpiry s = .next ⟨s.pending, e⟩ ∧ OutputsFollow d e ∧
        ThermalFormed { x with flow := .confirmed, phase := .none, flowTimer := none } True y hs ∧
        e = { d with clc := y.withOutputs e.clc, handoffs := d.handoffs ++ hs })) ∧
    (∀ running, (d.pins.exhaustFeedback = running → same (.exhaustFeedbackChange running)) ∧
      (d.pins.exhaustFeedback ≠ running → exec (.exhaustFeedbackChange running) s = .next ⟨s.pending,
        { pins { d.pins with exhaustFeedback := running } with
          clc := { x with exhaustTimer := if x.exhaust = true ∧ running = false then some 5000 else none } }⟩)) ∧
    ((x.exhaustTimer = none → same .exhaustFeedbackExpiry) ∧
      (x.exhaustTimer ≠ none → exec .exhaustFeedbackExpiry s = .next ⟨s.pending, { d with
        clc := { x with exhaustTimer := none, exhaustFault := true }
        handoffs := d.handoffs ++
          if x.exhaustFault then [] else [.eventOccurrence ⟨.coolingFault, .table 8, some 5, false⟩] }⟩)) ∧
    (∀ zs, ∃ e y y' stages stops hs, exec (.zoneStageHandoffClc zs) s = .next ⟨s.pending, e⟩ ∧
      let m := d.took (.zoneStageHandoffClc zs)
      StagesStopped d stages stops ∧
      y = (if ({ x with zones := zs } : Clc).batteryFire then { x with zones := zs, stages := stages }
        else { x with zones := zs }) ∧
      PumpFollows d y y' hs ∧ OutputsFollow d e ∧
      e = { m with
        clc := y'.withOutputs e.clc
        handoffs := m.handoffs ++ ((if ({ x with zones := zs } : Clc).batteryFire then stops else []) ++ hs) }) ∧
    ∀ n st, ∃ e y hs, exec (.stringStateReportClc n st) s = .next ⟨s.pending, e⟩ ∧
      let m := d.took (.stringStateReportClc n st)
      PumpFollows d { x with stringClosed := x.stringClosed.set n (st == .closed) } y hs ∧ OutputsFollow d e ∧
      e = { m with clc := y.withOutputs e.clc, handoffs := m.handoffs ++ hs }

/-! ## Fire and gas -/

/-- R126 to R129, R136, R138: a loop's raw state starts its confirmation time; a confirmation sets the fault flag afresh, raises
ZONE_FAULT for a new fault, and is judged, or, under test, noted; a gas sample is held, judged against GAS_LOW and GAS_HIGH and taken
alike. The model's choices: Logs 3, 23 and 30. -/
def Obligations.DetectionsMoveTheZones : Prop :=
  ∀ (s : State) (z : Zone),
    let d := s.dev
    let o := d.zone z
    let event (c : EventClass) (detail : Nat) : Instr := .eventOccurrence ⟨c, .zone z, some detail, false⟩
    let stage (r : ZoneRec) : ZoneStage := if r.faultFlag then .fault else .normal
    let faulty (st : LoopState) : Bool := st == .opened || st == .short
    (∀ l raw, let c := o.loop l
      (c.raw = raw → exec (.loopChange z l raw) s = .next s) ∧
      (c.raw ≠ raw → exec (.loopChange z l raw) s = .next ⟨s.pending, d.withZone z (o.setLoop l ⟨raw, c.confirmed,
        if raw = c.confirmed then none
        else if raw = .normal ∨ raw = .active then some 2000 else some 10000⟩)⟩)) ∧
    (∀ l, let c := o.loop l
      let smoke := if l = .smoke then c.raw else o.smoke.confirmed
      let heat := if l = .heat then c.raw else o.heat.confirmed
      let r : ZoneRec := { o.setLoop l ⟨c.raw, c.raw, none⟩ with faultFlag := faulty smoke || faulty heat }
      let fault := faulty c.raw && (!o.faultFlag || faulty c.confirmed && c.confirmed != c.raw)
      let raised : List Instr := if fault then
        [event .zoneFault ((if l = .smoke then 1 else 3) + if c.raw = .short then 1 else 0)] else []
      (c.timer = none → exec (.loopConfirmation z l) s = .next s) ∧
      (c.timer ≠ none → ∃ e, exec (.loopConfirmation z l) s = .next ⟨s.pending, e⟩ ∧
        (o.testTimer ≠ none → ZoneMoved d d e z { r with stage := stage r }
          (raised ++ if c.raw = .active then [event .testDetection (if l = .smoke then 1 else 2)] else [])) ∧
        (o.testTimer = none → ∃ r' hs, Judged (d.withZone z r) z r' hs ∧ ZoneMoved d d e z r' (raised ++ hs)))) ∧
    ∀ (b : BatteryZone) (ppm : Nat), b.zone = z → ∃ e, exec (.gasSample b ppm) s = .next ⟨s.pending, e⟩ ∧
      let level := min 2000 ppm
      let low := decide (d.item .t9 1 ≤ level)
      let high := decide (d.item .t9 2 ≤ level)
      let m : Device := { d with
        pins := { d.pins with gas := d.pins.gas.set b ppm }
        fgu := { d.fgu with gas := d.fgu.gas.set b ⟨some level, low, high, 1000⟩ } }
      (o.testTimer ≠ none → high = true → ZoneMoved d m e z (o.alarmed d) [event .fireAlarm 2]) ∧
      (o.testTimer ≠ none → high = false → ZoneMoved d m e z { o with testGas := low }
        (if low = true ∧ o.testGas = false then [event .testDetection 3] else [])) ∧
      (o.testTimer = none → ∃ r hs, Judged m z r hs ∧ ZoneMoved d m e z r hs)

/-- R126, R130, R131, R132, R137, R138: a confirmed call point takes every zone that is not beyond it through ALARM; the hold button holds
and frees the countdown; its expiry releases with a pulse of 2000 ms and a standing record update; a test's expiry ends it as the service
does. The model's choices: Logs 3 and 30. -/
def Obligations.CallHoldAndTimersMoveTheZones : Prop :=
  ∀ s : State,
    let d := s.dev
    let g := d.fgu
    (∀ operated, (g.callRaw = operated → exec (.callPointChange operated) s = .next s) ∧
      (g.callRaw ≠ operated → exec (.callPointChange operated) s = .next ⟨s.pending, { d with fgu := { g with
        callRaw := operated, callTimer := if operated = g.callConfirmed then none else some 2000 } }⟩)) ∧
    (g.callTimer = none → exec .callPointConfirmation s = .next s) ∧
    (g.callTimer ≠ none →
      let moves (z : Zone) := g.callRaw = true ∧
        ((d.zone z).stage = .normal ∨ (d.zone z).stage = .fault ∨ (d.zone z).stage = .prealarm)
      ∃ zones hs, (∀ z, (moves z → zones.get z = (d.zone z).alarmed d) ∧ (¬moves z → zones.get z = d.zone z)) ∧
        (∀ i, i ∈ hs ↔ ∃ z, moves z ∧ i = .eventOccurrence ⟨.fireAlarm, .zone z, some 3, false⟩) ∧
        let g' := ({ g with callConfirmed := g.callRaw, callTimer := none, zones := zones } : Fgu).settled
        exec .callPointConfirmation s =
          .next ⟨s.pending, { d with fgu := g', handoffs := d.handoffs ++ (hs ++ fireHandoffs g g') }⟩) ∧
    (∀ pressed, (g.holdPressed = pressed → exec (.holdButtonChange pressed) s = .next s) ∧
      (g.holdPressed ≠ pressed → ∃ zones : PerZone ZoneRec,
        (∀ z, let o := d.zone z
          (pressed = true → o.stage = .countdown → zones.get z = { o with stage := .held, releaseTimer := none }) ∧
          (pressed = false → o.stage = .held →
            zones.get z = { o with stage := .countdown, releaseTimer := some (1000 * d.itemNat .t9 0) }) ∧
          (¬(pressed = true ∧ o.stage = .countdown) → ¬(pressed = false ∧ o.stage = .held) → zones.get z = o)) ∧
        let g' := ({ g with holdPressed := pressed, zones := zones } : Fgu).settled
        exec (.holdButtonChange pressed) s =
          .next ⟨s.pending, { d with fgu := g', handoffs := d.handoffs ++ fireHandoffs g g' }⟩)) ∧
    ∀ z : Zone, let o := d.zone z
      (o.releaseTimer = none → exec (.releaseTimerExpiry z) s = .next s) ∧
      (o.releaseTimer ≠ none → ∃ e, exec (.releaseTimerExpiry z) s = .next ⟨s.pending, e⟩ ∧
        ZoneMoved d d e z { o with stage := .released, releaseTimer := none, pulseTimer := some 2000 }
          [.eventOccurrence ⟨.fireReleased, .zone z, none, false⟩, .updateRequest]) ∧
      (o.pulseTimer = none → exec (.pulseTimerExpiry z) s = .next s) ∧
      (o.pulseTimer ≠ none →
        exec (.pulseTimerExpiry z) s = .next ⟨s.pending, d.withZone z { o with pulseTimer := none }⟩) ∧
      (o.testTimer = none → exec (.testTimerExpiry z) s = .next s) ∧
      (o.testTimer ≠ none → ∃ e r hs, exec (.testTimerExpiry z) s = .next ⟨s.pending, e⟩ ∧
        TestEnded d z r hs ∧ ZoneMoved d d e z r hs)

/-! ## Balancing -/

/-- R146 to R150: a record for the run counts, is compared with the older commanded set, and forms the next one; the thermal hold is a
suspend cause; the fire stage, the health, the loss of the monitor, the standing of the owner and the duration end a live run with their
codes. The model's choices: Logs 1 and 3. -/
def Obligations.BalanceEventsMoveTheRun : Prop :=
  ∀ s : State,
    let d := s.dev
    let b := d.bal
    let r := b.run
    let live := r.state.live = true
    (∀ (n : StringId) (vmax : List Int) (bleed : BitVec 16),
      ∃ e, exec (.balanceRecord n vmax bleed) s = .next ⟨s.pending, e⟩ ∧
        let m := d.took (.balanceRecord n vmax bleed)
        let miss := match b.history with
          | older :: _ :: _ => if bleed = older then 0 else b.mismatch + 1
          | _ => b.mismatch
        let counted : Run := { r with records := min 65535 (r.records + 1) }
        let goes (run : Run) (set : BitVec 16) :=
          let h := b.history ++ [set]
          e = { m with bal := { b with run := run, commanded := set, mismatch := miss, history := h.drop (h.length - 2) } }
        let forms := r.state = .running ∨ r.state = .suspended ∧ r.thermalCause = false ∧ r.portCause = false
        (¬(live ∧ r.string = n) → e = m) ∧
        (live → r.string = n → 2 ≤ miss → RunEnded { m with bal := { b with run := counted } } e 10) ∧
        (live → r.string = n → miss < 2 →
          (forms → ∃ set, BleedSet r.target vmax set ∧
            (set = 0 → RunEnded { m with bal := { b with run := { counted with state := .running } } } e 1) ∧
            (set ≠ 0 → goes { counted with state := .running } set)) ∧
          (r.state = .suspendPending → goes { counted with state := .suspended } 0) ∧
          (r.state = .suspended → ¬forms → goes counted b.commanded))) ∧
    (∀ on, exec (.thermalHoldHandoff on) s = .next ⟨s.pending, { d.took (.thermalHoldHandoff on) with
      bal := { b with
        thermalHold := on
        run := if live then { r with
            thermalCause := on
            state := if r.state = .running ∧ (on = true ∨ r.portCause = true) then .suspendPending
              else if r.state = .suspendPending ∧ on = false ∧ r.portCause = false then .running else r.state }
          else r } }⟩) ∧
    (∀ st, ∃ e, exec (.balFireStageHandoff st) s = .next ⟨s.pending, e⟩ ∧
      let m : Device := { d.took (.balFireStageHandoff st) with bal := { b with fireStage := st } }
      let ends := live ∧ (st = .prealarm ∨ st = .alarm ∨ st = .released)
      (ends → RunEnded m e 3) ∧ (¬ends → e = m)) ∧
    (∀ n h, ∃ e, exec (.balHealthHandoff n h) s = .next ⟨s.pending, e⟩ ∧
      let m : Device := { d.took (.balHealthHandoff n h) with bal := { b with health := b.health.set n h } }
      let on := live ∧ r.string = n
      (on → h = .tripped → RunEnded m e 4) ∧ (on → h = .lockedOut → RunEnded m e 5) ∧
      (on → h = .absent → RunEnded m e 6) ∧ (on → h = .unrecognized → RunEnded m e 7) ∧
      (¬on ∨ h = .available ∨ h = .interrogating → e = m)) ∧
    (∀ n, ∃ e, exec (.balMonitorLoss n) s = .next ⟨s.pending, e⟩ ∧
      (live → r.string = n → RunEnded (d.took (.balMonitorLoss n)) e 6) ∧
      (¬live ∨ r.string ≠ n → e = d.took (.balMonitorLoss n))) ∧
    (∀ p st, ∃ e, exec (.balStandingHandoff p st) s = .next ⟨s.pending, e⟩ ∧
      let m : Device := { d.took (.balStandingHandoff p st) with bal := { b with standings := b.standings.set p st } }
      let ends := live ∧ r.owner = some p ∧ (st = .forfeit ∨ st = .barred)
      (ends → RunEnded m e 9) ∧ (¬ends → e = m)) ∧
    ∃ e, exec .durationExpiry s = .next ⟨s.pending, e⟩ ∧
      (r.state = .running → RunEnded { d with bal := { b with run := { r with runningTime := 60000 * r.maxDuration } } } e 2) ∧
      (r.state ≠ .running → e = d)

/-! ## Standing, events and the store -/

/-- R155 to R158: a period's expiry restarts the period and issues a challenge with the next token and the WINDOW as its deadline, an
outstanding one first being a late miss; a BARRED port is issued none. A deadline that expires is a late miss. ANSWER: a value above
0xFFFFFF is RANGE and no miss; with nothing outstanding, a wrong byte or an old generation it is a miss of its kind; a right one closes
the challenge and puts the port IN_STANDING unless it is FORFEIT or BARRED. Where the
standing changes, DU, SWC, ENV and BAL follow it. The model's choices: Logs 1, 3, 6, 12 and 39. -/
def Obligations.ChallengesAndAnswersSetTheStanding : Prop :=
  (∀ (p : Port) (s : State),
    let d := s.dev
    let r := d.port p
    let next (r : PortStanding) : PortStanding := { r with periodIn := d.itemNat .t11 (2 * p.num) }
    let issued (r : PortStanding) : PortStanding := { next r with
      token := some (match r.token with | none => 60 | some t => BitVec.ofNat 8 ((5 * t.toNat + 1) % 256))
      outstanding := true
      issueGeneration := d.env.generation
      deadline := some (d.itemNat .t11 (2 * p.num + 1)) }
    let withPort (r : PortStanding) : Device := { d with sdm := ⟨d.sdm.ports.set p r⟩ }
    (r.standing = .barred → exec (.periodExpiry p) s = .next ⟨s.pending, withPort (next r)⟩) ∧
    (r.standing ≠ .barred → r.outstanding = false →
      exec (.periodExpiry p) s = .next ⟨s.pending, withPort (issued r)⟩) ∧
    (r.standing ≠ .barred → r.outstanding = true → ∃ m, Missed (withPort (next r)) m p .late ∧
      exec (.periodExpiry p) s = .next ⟨s.pending,
        if m.standing p = .barred then m else { m with sdm := ⟨m.sdm.ports.set p (issued (m.port p))⟩ }⟩) ∧
    (r.outstanding = false ∨ r.deadline = none → exec (.deadlineExpiry p) s = .next s) ∧
    (r.outstanding = true → r.deadline ≠ none → ∃ e, exec (.deadlineExpiry p) s = .next ⟨s.pending, e⟩ ∧
      Missed d e p .late)) ∧
  ∀ (p : Port) (f : ItemFrame) (s : State), Takes s (.answer p f) →
    ∃ t, exec (.answer p f) s = .next t ∧
      let r := s.dev.port p
      let right := f.value.toNat / 65536 = (255 + 256 - (r.token.getD 0).toNat + p.num) % 256
      let acknowledged : Int := f.value.toNat % 65536
      let inStep := ((s.dev.env.generation.toNat : Int) - acknowledged) % 65536 ≤
        ((s.dev.env.generation.toNat : Int) - r.issueGeneration.toNat) % 65536
      let answers (result : Result) (value : Word) := ∃ q, (t.dev.link p).pending = some q ∧ q = ⟨4, result, value⟩
      (0xFFFFFF < f.value.toNat → Refuses s t p 4 .range) ∧
      (f.value.toNat ≤ 0xFFFFFF →
        (r.outstanding = false → answers .state 3 ∧ Missed s.dev t.dev p .unasked) ∧
        (r.outstanding = true → ¬right → answers .state 1 ∧ Missed s.dev t.dev p .wrong) ∧
        (r.outstanding = true → right → ¬inStep → answers .state 2 ∧ Missed s.dev t.dev p .stale) ∧
        (r.outstanding = true → right → inStep →
          let st := if r.standing = .forfeit ∨ r.standing = .barred then r.standing else .inStanding
          answers .ok (BitVec.ofNat 32 st.code) ∧
          StandingSet s.dev t.dev p { r with outstanding := false, deadline := none, standing := st }))

/-- R170, R172: a port's attention condition holds while an unmasked class has its flag pending. A port writes its own cursor and mask
whatever its standing and the map, and ACK_EVENTS clears its own flags; READ of
table 12 indexes 8 to 12 shows the incident whose number the port's cursor names, or answers NOT_HELD. The model's choice: Log 6. -/
def Obligations.PortsKeepTheirOwnEventView : Prop :=
  (∀ (p : Port) (d : Device), d.attention p = true ↔
    ∃ c : EventClass, (d.evr.flags.get p).getLsbD c.num = true ∧ (d.evr.masks.get p).getLsbD c.num = false) ∧
  (∀ (p : Port) (f : ValueFrame) (s : State), Takes s (.cursorWrite p f) →
    ∃ t, exec (.cursorWrite p f) s = .next t ∧ Replies s t p 2 .ok (some f.value)
      { s.dev with evr := { s.dev.evr with cursors := s.dev.evr.cursors.set p f.value } }) ∧
  (∀ (p : Port) (f : ValueFrame) (s : State), Takes s (.maskWrite p f) →
    ∃ t, exec (.maskWrite p f) s = .next t ∧
      (0xFFFFFF < f.value.toNat → Refuses s t p 2 .range) ∧
      (f.value.toNat ≤ 0xFFFFFF → Replies s t p 2 .ok (some f.value)
        { s.dev with evr := { s.dev.evr with masks := s.dev.evr.masks.set p (f.value.setWidth 24) } })) ∧
  (∀ (p : Port) (f : ItemFrame) (s : State), Takes s (.ackEvents p f) →
    ∃ t, exec (.ackEvents p f) s = .next t ∧
      (0xFFFFFF < f.value.toNat → Refuses s t p 5 .range) ∧
      (f.value.toNat ≤ 0xFFFFFF →
        let left := s.dev.evr.flags.get p &&& ~~~f.value.setWidth 24
        Replies s t p 5 .ok (some (left.setWidth 32))
          { s.dev with evr := { s.dev.evr with flags := s.dev.evr.flags.set p left } })) ∧
  ∀ (p : Port) (f : ItemFrame) (s : State), f.table = 12 → 8 ≤ f.index.toNat → f.index.toNat ≤ 12 → QueueLaw s.dev →
    s.dev.item .t13 (3 * 12 + p.num) = 1 ∨ MayWrite s.dev p 12 → Takes s (.read p f) →
    ∃ t, exec (.read p f) s = .next t ∧
      ((∀ j ∈ s.dev.evr.queue, j.seq ≠ (s.dev.evr.cursors.get p).toNat) → Refuses s t p 1 .notHeld) ∧
      ∀ j ∈ s.dev.evr.queue, j.seq = (s.dev.evr.cursors.get p).toNat →
        let shows (n : Nat) := Replies s t p 1 .ok (some (BitVec.ofNat 32 n)) s.dev
        (f.index = 8 → shows j.cls.num) ∧ (f.index = 9 → shows j.subject.code) ∧ (f.index = 10 → shows (j.detail.getD 65535)) ∧
        (f.index = 11 → shows j.time) ∧ (f.index = 12 → shows (if j.guarded = true then 1 else 0))

/-- R169, R170, R171: an occurrence counts up to 255, sets its class's flag at every port and takes the next sequence number; its incident
joins the queue, which keeps no older holder of that number. A full queue drops its oldest unprotected incident, or, all protected, its
oldest for a protected one; an unprotected one is then dropped and counted. The model's choice: Log 1. -/
def Obligations.OccurrencesAreRecorded : Prop :=
  ∀ (o : Occurrence) (s : State), QueueLaw s.dev →
    ∃ v, exec (.eventOccurrence o) s = .next ⟨s.pending, { s.dev.took (.eventOccurrence o) with evr := v }⟩ ∧
      let e := s.dev.evr
      let seq := if e.lastSeq < 4294967295 then e.lastSeq + 1 else 1
      let guarded := o.forced = false ∧ (o.cls = .stringLockout ∨ o.cls = .fireAlarm ∨ o.cls = .fireReleased ∨
        o.cls = .gridTrip ∨ o.cls = .switchFailed ∧ o.detail = some 3)
      let others := e.queue.filter fun j => j.seq != seq
      v.lastSeq = seq ∧ v.masks = e.masks ∧ v.cursors = e.cursors ∧ v.time = e.time ∧
      (∀ p, v.flags.get p = e.flags.get p ||| 1#24 <<< o.cls.num) ∧
      (e.counts.length = 24 → v.counts.length = 24 ∧ ∀ c : EventClass, v.counts.getD c.num 0 =
        if c = o.cls then min 255 (e.counts.getD c.num 0 + 1) else e.counts.getD c.num 0) ∧
      ∃ i : Incident, i.seq = seq ∧ i.cls = o.cls ∧ i.subject = o.subject ∧ i.detail = o.detail ∧ i.time = e.time ∧
        (i.guarded = true ↔ guarded) ∧
        (others.length < 32 → v.queue = others ++ [i] ∧ v.dropped = e.dropped) ∧
        (others.length = 32 → ∀ before j after, others = before ++ j :: after → (∀ k ∈ before, k.guarded = true) →
          j.guarded = false → v.queue = before ++ after ++ [i] ∧ v.dropped = e.dropped) ∧
        (others.length = 32 → (∀ k ∈ others, k.guarded = true) →
          (guarded → v.queue = others.tail ++ [i] ∧ v.dropped = e.dropped) ∧
          (¬guarded → v.queue = others ∧ v.dropped = min 65535 (e.dropped + 1)))

/-- R174, R175, R177, R179: an update request starts an update of 20 ms or waits; a completion of a table's or the record's programming makes
the copy good, or leaves it failing with the error flag and STORE_FAILED, and the engine proceeds to a pending update, a pending restart or
IDLE; an integrity check restarts its second and turns to the next table, and one whose table does not pass its kept check sets the restart
pending with cause "self" and marks the table for reload, the restart taking effect at once where nothing holds it back. The model's
choices: Logs 1, 3, 18, 19, 20, 21 and 22. -/
def Obligations.StoreOperationsComplete : Prop :=
  ∀ s : State,
    let d := s.dev
    let x := d.sto
    let failed (tb detail : Nat) : List Instr := [.eventOccurrence ⟨.storeFailed, .table tb, some detail, false⟩]
    (∃ e, exec .updateRequest s = .next ⟨s.pending, e⟩ ∧
      (x.engine = .idle → Proceeded (d.took .updateRequest) e { x with updatePending := true } []) ∧
      (x.engine ≠ .idle → e = { d.took .updateRequest with sto := { x with updatePending := true } })) ∧
    (∀ ok, ∃ m e, exec (.programmingCompletion ok) s = .next ⟨s.pending, e⟩ ∧
      ((∀ tb, x.engine ≠ .storing tb) → e = d) ∧
      ∀ tb, x.engine = .storing tb → Settled m e ∧
        let contents := if tb = .t5 then (d.settings.get tb).set 0 0 else d.settings.get tb
        (ok = true → Proceeded d m { x with copies := x.copies.set tb ⟨contents, true⟩ }
          [.eventOccurrence ⟨.storeDone, .table tb.num, none, false⟩]) ∧
        (ok = false → Proceeded d m { x with
          copies := x.copies.set tb { x.copies.get tb with valid := false }, errors := x.errors.set tb true }
          (failed tb.num 1))) ∧
    (∀ ok, ∃ m e, exec (.updateCompletion ok) s = .next ⟨s.pending, e⟩ ∧
      ((∀ r, x.engine ≠ .updating r) → e = d) ∧
      ∀ r, x.engine = .updating r → Settled m e ∧
        (ok = true → Proceeded d m { x with record := r, recordValid := true, recordError := false } []) ∧
        (ok = false → ∃ any, Proceeded d m
          { x with record := any, recordValid := false, recordError := true, failures := x.failures + 1 } (failed 15 3))) ∧
    ∀ upset, ∃ next m e, exec (.integrityCheck upset) s = .next ⟨s.pending, e⟩ ∧ Settled m e ∧
      (x.checkNext, next) ∈ [(StoredTable.t2, .t3), (.t3, .t5), (.t5, .t8), (.t8, .t9), (.t9, .t10), (.t10, .t11),
        (.t11, .t13), (.t13, .t2)] ∧
      let fails := upset = true ∨ CheckFails d x.checkNext
      (fails → m = { d with
        sto := { x with
          checkNext := next, checkIn := 1000
          restart := match x.restart with | none => some .self | some c => some c
          reload := x.reload.set x.checkNext true }
        handoffs := d.handoffs ++ failed x.checkNext.num 5 }) ∧
      (¬fails → m = { d with sto := { x with checkNext := next, checkIn := 1000 } })

end
end

