-- ==== Sys2Proof/Laws/State.lean ====
section
/-! SUPPORT. What a read gives after a write: the records with one value for each name, and every field of the part after each update of
one block. All hold by computation. -/

namespace Sys2Proof

/-! ## Records with one value for each name -/

@[simp] theorem PerPort.get_set {α : Type} (x : PerPort α) (p p' : Port) (a : α) :
    (x.set p a).get p' = if p' = p then a else x.get p' := by cases p <;> cases p' <;> rfl

theorem PerPort.ext_get {α : Type} {x y : PerPort α} (h : ∀ p, x.get p = y.get p) : x = y := by
  cases x; cases y; congr 1 <;> first | exact h .cell | exact h .converter | exact h .site

@[simp] theorem PerPort.get_ofFn {α : Type} (f : Port → α) (p : Port) : (PerPort.ofFn f).get p = f p := by cases p <;> rfl

@[simp] theorem PerPort.get_map {α β : Type} (f : α → β) (x : PerPort α) (p : Port) : (x.map f).get p = f (x.get p) := by
  cases p <;> rfl

@[simp] theorem PerPort.get_all {α : Type} (a : α) (p : Port) : (PerPort.all a).get p = a := by cases p <;> rfl

@[simp] theorem PerString.get_set {α : Type} (x : PerString α) (s s' : StringId) (a : α) :
    (x.set s a).get s' = if s' = s then a else x.get s' := by cases s <;> cases s' <;> rfl

theorem PerString.ext_get {α : Type} {x y : PerString α} (h : ∀ s, x.get s = y.get s) : x = y := by
  cases x; cases y; congr 1 <;> first | exact h .s0 | exact h .s1 | exact h .s2 | exact h .s3

@[simp] theorem PerString.get_ofFn {α : Type} (f : StringId → α) (s : StringId) : (PerString.ofFn f).get s = f s := by cases s <;> rfl

@[simp] theorem PerString.get_map {α β : Type} (f : α → β) (x : PerString α) (s : StringId) : (x.map f).get s = f (x.get s) := by
  cases s <;> rfl

@[simp] theorem PerString.get_all {α : Type} (a : α) (s : StringId) : (PerString.all a).get s = a := by cases s <;> rfl

@[simp] theorem PerSwitch.get_set {α : Type} (x : PerSwitch α) (n n' : SwitchId) (a : α) :
    (x.set n a).get n' = if n' = n then a else x.get n' := by cases n <;> cases n' <;> rfl

theorem PerSwitch.ext_get {α : Type} {x y : PerSwitch α} (h : ∀ n, x.get n = y.get n) : x = y := by
  cases x; cases y; congr 1 <;> first | exact h .s0 | exact h .s1 | exact h .s2 | exact h .s3 | exact h .g

@[simp] theorem PerSwitch.get_ofFn {α : Type} (f : SwitchId → α) (n : SwitchId) : (PerSwitch.ofFn f).get n = f n := by cases n <;> rfl

@[simp] theorem PerSwitch.get_map {α β : Type} (f : α → β) (x : PerSwitch α) (n : SwitchId) : (x.map f).get n = f (x.get n) := by
  cases n <;> rfl

@[simp] theorem PerSwitch.get_all {α : Type} (a : α) (n : SwitchId) : (PerSwitch.all a).get n = a := by cases n <;> rfl

@[simp] theorem PerZone.get_set {α : Type} (x : PerZone α) (z z' : Zone) (a : α) :
    (x.set z a).get z' = if z' = z then a else x.get z' := by cases z <;> cases z' <;> rfl

theorem PerZone.ext_get {α : Type} {x y : PerZone α} (h : ∀ z, x.get z = y.get z) : x = y := by
  cases x; cases y; congr 1 <;> first | exact h .z0 | exact h .z1 | exact h .z2

@[simp] theorem PerZone.get_map {α β : Type} (f : α → β) (x : PerZone α) (z : Zone) : (x.map f).get z = f (x.get z) := by
  cases z <;> rfl

@[simp] theorem PerZone.get_all {α : Type} (a : α) (z : Zone) : (PerZone.all a).get z = a := by cases z <;> rfl

@[simp] theorem PerBattery.get_set {α : Type} (x : PerBattery α) (z z' : BatteryZone) (a : α) :
    (x.set z a).get z' = if z' = z then a else x.get z' := by cases z <;> cases z' <;> rfl

theorem PerBattery.ext_get {α : Type} {x y : PerBattery α} (h : ∀ z, x.get z = y.get z) : x = y := by
  cases x; cases y; congr 1 <;> first | exact h .z0 | exact h .z1

@[simp] theorem PerBattery.get_map {α β : Type} (f : α → β) (x : PerBattery α) (z : BatteryZone) : (x.map f).get z = f (x.get z) := by
  cases z <;> rfl

@[simp] theorem PerBattery.get_all {α : Type} (a : α) (z : BatteryZone) : (PerBattery.all a).get z = a := by cases z <;> rfl

@[simp] theorem PerStage.get_set {α : Type} (x : PerStage α) (c c' : Stage) (a : α) :
    (x.set c a).get c' = if c' = c then a else x.get c' := by cases c <;> cases c' <;> rfl

theorem PerStage.ext_get {α : Type} {x y : PerStage α} (h : ∀ c, x.get c = y.get c) : x = y := by
  cases x; cases y; congr 1 <;> first | exact h .c1 | exact h .c2 | exact h .c3

@[simp] theorem PerStage.get_map {α β : Type} (f : α → β) (x : PerStage α) (c : Stage) : (x.map f).get c = f (x.get c) := by
  cases c <;> rfl

@[simp] theorem PerStage.get_all {α : Type} (a : α) (c : Stage) : (PerStage.all a).get c = a := by cases c <;> rfl

@[simp] theorem PerChannel.get_set {α : Type} (x : PerChannel α) (k k' : Channel) (a : α) :
    (x.set k a).get k' = if k' = k then a else x.get k' := by cases k <;> cases k' <;> rfl

theorem PerChannel.ext_get {α : Type} {x y : PerChannel α} (h : ∀ k, x.get k = y.get k) : x = y := by
  cases x; cases y; congr 1 <;> first | exact h .ov | exact h .uv | exact h .ot | exact h .spread | exact h .oc | exact h .tsens | exact h .meas

@[simp] theorem PerChannel.get_ofFn {α : Type} (f : Channel → α) (k : Channel) : (PerChannel.ofFn f).get k = f k := by cases k <;> rfl

@[simp] theorem PerChannel.get_all {α : Type} (a : α) (k : Channel) : (PerChannel.all a).get k = a := by cases k <;> rfl

@[simp] theorem PerTable.get_set {α : Type} (x : PerTable α) (t t' : StoredTable) (a : α) :
    (x.set t a).get t' = if t' = t then a else x.get t' := by cases t <;> cases t' <;> rfl

theorem PerTable.ext_get {α : Type} {x y : PerTable α} (h : ∀ t, x.get t = y.get t) : x = y := by
  cases x; cases y; congr 1 <;> first | exact h .t2 | exact h .t3 | exact h .t5 | exact h .t8 | exact h .t9 | exact h .t10 | exact h .t11 | exact h .t13

@[simp] theorem PerTable.get_ofFn {α : Type} (f : StoredTable → α) (t : StoredTable) : (PerTable.ofFn f).get t = f t := by cases t <;> rfl

@[simp] theorem PerTable.get_all {α : Type} (a : α) (t : StoredTable) : (PerTable.all a).get t = a := by cases t <;> rfl

end Sys2Proof

namespace Sys2Proof.Machine

@[simp] theorem State.on_pending (s : State) (f : Device → Device) : (s.on f).pending = s.pending := rfl
@[simp] theorem State.on_dev (s : State) (f : Device → Device) : (s.on f).dev = f s.dev := rfl
theorem State.next_eq (s : State) (f : Device → Device) : s.next f = .next (s.on f) := rfl

/-! ## The fields of the part after an update of one block -/

section
variable (d : Device) (i : Instr)
@[simp] theorem Device.post_handoffs : (d.post i).handoffs = d.handoffs ++ [i] := rfl
@[simp] theorem Device.post_settings : (d.post i).settings = d.settings := rfl
@[simp] theorem Device.post_pins : (d.post i).pins = d.pins := rfl
@[simp] theorem Device.post_slc : (d.post i).slc = d.slc := rfl
@[simp] theorem Device.post_csu : (d.post i).csu = d.csu := rfl
@[simp] theorem Device.post_env : (d.post i).env = d.env := rfl
@[simp] theorem Device.post_du : (d.post i).du = d.du := rfl
@[simp] theorem Device.post_swc : (d.post i).swc = d.swc := rfl
@[simp] theorem Device.post_gwm : (d.post i).gwm = d.gwm := rfl
@[simp] theorem Device.post_clc : (d.post i).clc = d.clc := rfl
@[simp] theorem Device.post_fgu : (d.post i).fgu = d.fgu := rfl
@[simp] theorem Device.post_bal : (d.post i).bal = d.bal := rfl
@[simp] theorem Device.post_sdm : (d.post i).sdm = d.sdm := rfl
@[simp] theorem Device.post_pif : (d.post i).pif = d.pif := rfl
@[simp] theorem Device.post_evr : (d.post i).evr = d.evr := rfl
@[simp] theorem Device.post_sto : (d.post i).sto = d.sto := rfl
end

section
variable (d : Device) (i : Instr)
@[simp] theorem Device.took_handoffs : (d.took i).handoffs = d.handoffs.erase i := rfl
@[simp] theorem Device.took_settings : (d.took i).settings = d.settings := rfl
@[simp] theorem Device.took_pins : (d.took i).pins = d.pins := rfl
@[simp] theorem Device.took_slc : (d.took i).slc = d.slc := rfl
@[simp] theorem Device.took_csu : (d.took i).csu = d.csu := rfl
@[simp] theorem Device.took_env : (d.took i).env = d.env := rfl
@[simp] theorem Device.took_du : (d.took i).du = d.du := rfl
@[simp] theorem Device.took_swc : (d.took i).swc = d.swc := rfl
@[simp] theorem Device.took_gwm : (d.took i).gwm = d.gwm := rfl
@[simp] theorem Device.took_clc : (d.took i).clc = d.clc := rfl
@[simp] theorem Device.took_fgu : (d.took i).fgu = d.fgu := rfl
@[simp] theorem Device.took_bal : (d.took i).bal = d.bal := rfl
@[simp] theorem Device.took_sdm : (d.took i).sdm = d.sdm := rfl
@[simp] theorem Device.took_pif : (d.took i).pif = d.pif := rfl
@[simp] theorem Device.took_evr : (d.took i).evr = d.evr := rfl
@[simp] theorem Device.took_sto : (d.took i).sto = d.sto := rfl
end

section
variable (d : Device) (c : EventClass) (sub : Subject) (n : Option Nat)
@[simp] theorem Device.raise_handoffs : (d.raise c sub n).handoffs = d.handoffs ++ [.eventOccurrence ⟨c, sub, n, false⟩] := rfl
@[simp] theorem Device.raise_settings : (d.raise c sub n).settings = d.settings := rfl
@[simp] theorem Device.raise_pins : (d.raise c sub n).pins = d.pins := rfl
@[simp] theorem Device.raise_slc : (d.raise c sub n).slc = d.slc := rfl
@[simp] theorem Device.raise_csu : (d.raise c sub n).csu = d.csu := rfl
@[simp] theorem Device.raise_env : (d.raise c sub n).env = d.env := rfl
@[simp] theorem Device.raise_du : (d.raise c sub n).du = d.du := rfl
@[simp] theorem Device.raise_swc : (d.raise c sub n).swc = d.swc := rfl
@[simp] theorem Device.raise_gwm : (d.raise c sub n).gwm = d.gwm := rfl
@[simp] theorem Device.raise_clc : (d.raise c sub n).clc = d.clc := rfl
@[simp] theorem Device.raise_fgu : (d.raise c sub n).fgu = d.fgu := rfl
@[simp] theorem Device.raise_bal : (d.raise c sub n).bal = d.bal := rfl
@[simp] theorem Device.raise_sdm : (d.raise c sub n).sdm = d.sdm := rfl
@[simp] theorem Device.raise_pif : (d.raise c sub n).pif = d.pif := rfl
@[simp] theorem Device.raise_evr : (d.raise c sub n).evr = d.evr := rfl
@[simp] theorem Device.raise_sto : (d.raise c sub n).sto = d.sto := rfl
end

section
variable (d : Device) (t : StoredTable) (i : Nat) (v : Int)
@[simp] theorem Device.setItem_handoffs : (d.setItem t i v).handoffs = d.handoffs := rfl
@[simp] theorem Device.setItem_settings : (d.setItem t i v).settings = d.settings.set t ((d.settings.get t).set i v) := rfl
@[simp] theorem Device.setItem_pins : (d.setItem t i v).pins = d.pins := rfl
@[simp] theorem Device.setItem_slc : (d.setItem t i v).slc = d.slc := rfl
@[simp] theorem Device.setItem_csu : (d.setItem t i v).csu = d.csu := rfl
@[simp] theorem Device.setItem_env : (d.setItem t i v).env = d.env := rfl
@[simp] theorem Device.setItem_du : (d.setItem t i v).du = d.du := rfl
@[simp] theorem Device.setItem_swc : (d.setItem t i v).swc = d.swc := rfl
@[simp] theorem Device.setItem_gwm : (d.setItem t i v).gwm = d.gwm := rfl
@[simp] theorem Device.setItem_clc : (d.setItem t i v).clc = d.clc := rfl
@[simp] theorem Device.setItem_fgu : (d.setItem t i v).fgu = d.fgu := rfl
@[simp] theorem Device.setItem_bal : (d.setItem t i v).bal = d.bal := rfl
@[simp] theorem Device.setItem_sdm : (d.setItem t i v).sdm = d.sdm := rfl
@[simp] theorem Device.setItem_pif : (d.setItem t i v).pif = d.pif := rfl
@[simp] theorem Device.setItem_evr : (d.setItem t i v).evr = d.evr := rfl
@[simp] theorem Device.setItem_sto : (d.setItem t i v).sto =
    if inCopy t i then d.sto.keep t ((d.settings.get t).set i v) else d.sto := rfl
end

section
variable (d : Device) (t : StoredTable)
@[simp] theorem Device.keepCheck_handoffs : (d.keepCheck t).handoffs = d.handoffs := rfl
@[simp] theorem Device.keepCheck_settings : (d.keepCheck t).settings = d.settings := rfl
@[simp] theorem Device.keepCheck_pins : (d.keepCheck t).pins = d.pins := rfl
@[simp] theorem Device.keepCheck_slc : (d.keepCheck t).slc = d.slc := rfl
@[simp] theorem Device.keepCheck_csu : (d.keepCheck t).csu = d.csu := rfl
@[simp] theorem Device.keepCheck_env : (d.keepCheck t).env = d.env := rfl
@[simp] theorem Device.keepCheck_du : (d.keepCheck t).du = d.du := rfl
@[simp] theorem Device.keepCheck_swc : (d.keepCheck t).swc = d.swc := rfl
@[simp] theorem Device.keepCheck_gwm : (d.keepCheck t).gwm = d.gwm := rfl
@[simp] theorem Device.keepCheck_clc : (d.keepCheck t).clc = d.clc := rfl
@[simp] theorem Device.keepCheck_fgu : (d.keepCheck t).fgu = d.fgu := rfl
@[simp] theorem Device.keepCheck_bal : (d.keepCheck t).bal = d.bal := rfl
@[simp] theorem Device.keepCheck_sdm : (d.keepCheck t).sdm = d.sdm := rfl
@[simp] theorem Device.keepCheck_pif : (d.keepCheck t).pif = d.pif := rfl
@[simp] theorem Device.keepCheck_evr : (d.keepCheck t).evr = d.evr := rfl
@[simp] theorem Device.keepCheck_sto : (d.keepCheck t).sto = d.sto.keep t (d.settings.get t) := rfl
end

section
variable (x : Sto) (t : StoredTable) (items : List Int)
@[simp] theorem Sto.keep_kept : (x.keep t items).kept = x.kept.set t (storedPart t items) := rfl
@[simp] theorem Sto.keep_copies : (x.keep t items).copies = x.copies := rfl
@[simp] theorem Sto.keep_record : (x.keep t items).record = x.record := rfl
@[simp] theorem Sto.keep_recordValid : (x.keep t items).recordValid = x.recordValid := rfl
@[simp] theorem Sto.keep_errors : (x.keep t items).errors = x.errors := rfl
@[simp] theorem Sto.keep_recordError : (x.keep t items).recordError = x.recordError := rfl
@[simp] theorem Sto.keep_engine : (x.keep t items).engine = x.engine := rfl
@[simp] theorem Sto.keep_opTimer : (x.keep t items).opTimer = x.opTimer := rfl
@[simp] theorem Sto.keep_updatePending : (x.keep t items).updatePending = x.updatePending := rfl
@[simp] theorem Sto.keep_restart : (x.keep t items).restart = x.restart := rfl
@[simp] theorem Sto.keep_reload : (x.keep t items).reload = x.reload := rfl
@[simp] theorem Sto.keep_checkNext : (x.keep t items).checkNext = x.checkNext := rfl
@[simp] theorem Sto.keep_checkIn : (x.keep t items).checkIn = x.checkIn := rfl
@[simp] theorem Sto.keep_failures : (x.keep t items).failures = x.failures := rfl
@[simp] theorem Sto.keep_operations : (x.keep t items).operations = x.operations := rfl
end

section
variable (d : Device) (s : StringId) (f : Monitor → Monitor)
@[simp] theorem Device.modMonitor_handoffs : (d.modMonitor s f).handoffs = d.handoffs := rfl
@[simp] theorem Device.modMonitor_settings : (d.modMonitor s f).settings = d.settings := rfl
@[simp] theorem Device.modMonitor_pins : (d.modMonitor s f).pins = d.pins := rfl
@[simp] theorem Device.modMonitor_slc : (d.modMonitor s f).slc = { d.slc with monitors := d.slc.monitors.set s (f (d.monitor s)) } := rfl
@[simp] theorem Device.modMonitor_csu : (d.modMonitor s f).csu = d.csu := rfl
@[simp] theorem Device.modMonitor_env : (d.modMonitor s f).env = d.env := rfl
@[simp] theorem Device.modMonitor_du : (d.modMonitor s f).du = d.du := rfl
@[simp] theorem Device.modMonitor_swc : (d.modMonitor s f).swc = d.swc := rfl
@[simp] theorem Device.modMonitor_gwm : (d.modMonitor s f).gwm = d.gwm := rfl
@[simp] theorem Device.modMonitor_clc : (d.modMonitor s f).clc = d.clc := rfl
@[simp] theorem Device.modMonitor_fgu : (d.modMonitor s f).fgu = d.fgu := rfl
@[simp] theorem Device.modMonitor_bal : (d.modMonitor s f).bal = d.bal := rfl
@[simp] theorem Device.modMonitor_sdm : (d.modMonitor s f).sdm = d.sdm := rfl
@[simp] theorem Device.modMonitor_pif : (d.modMonitor s f).pif = d.pif := rfl
@[simp] theorem Device.modMonitor_evr : (d.modMonitor s f).evr = d.evr := rfl
@[simp] theorem Device.modMonitor_sto : (d.modMonitor s f).sto = d.sto := rfl
end

section
variable (d : Device) (s : StringId) (f : StringSup → StringSup)
@[simp] theorem Device.modSup_handoffs : (d.modSup s f).handoffs = d.handoffs := rfl
@[simp] theorem Device.modSup_settings : (d.modSup s f).settings = d.settings := rfl
@[simp] theorem Device.modSup_pins : (d.modSup s f).pins = d.pins := rfl
@[simp] theorem Device.modSup_slc : (d.modSup s f).slc = d.slc := rfl
@[simp] theorem Device.modSup_csu : (d.modSup s f).csu = { d.csu with strings := d.csu.strings.set s (f (d.sup s)) } := rfl
@[simp] theorem Device.modSup_env : (d.modSup s f).env = d.env := rfl
@[simp] theorem Device.modSup_du : (d.modSup s f).du = d.du := rfl
@[simp] theorem Device.modSup_swc : (d.modSup s f).swc = d.swc := rfl
@[simp] theorem Device.modSup_gwm : (d.modSup s f).gwm = d.gwm := rfl
@[simp] theorem Device.modSup_clc : (d.modSup s f).clc = d.clc := rfl
@[simp] theorem Device.modSup_fgu : (d.modSup s f).fgu = d.fgu := rfl
@[simp] theorem Device.modSup_bal : (d.modSup s f).bal = d.bal := rfl
@[simp] theorem Device.modSup_sdm : (d.modSup s f).sdm = d.sdm := rfl
@[simp] theorem Device.modSup_pif : (d.modSup s f).pif = d.pif := rfl
@[simp] theorem Device.modSup_evr : (d.modSup s f).evr = d.evr := rfl
@[simp] theorem Device.modSup_sto : (d.modSup s f).sto = d.sto := rfl
end

section
variable (d : Device) (f : Env → Env)
@[simp] theorem Device.modEnv_handoffs : (d.modEnv f).handoffs = d.handoffs := rfl
@[simp] theorem Device.modEnv_settings : (d.modEnv f).settings = d.settings := rfl
@[simp] theorem Device.modEnv_pins : (d.modEnv f).pins = d.pins := rfl
@[simp] theorem Device.modEnv_slc : (d.modEnv f).slc = d.slc := rfl
@[simp] theorem Device.modEnv_csu : (d.modEnv f).csu = d.csu := rfl
@[simp] theorem Device.modEnv_env : (d.modEnv f).env = f d.env := rfl
@[simp] theorem Device.modEnv_du : (d.modEnv f).du = d.du := rfl
@[simp] theorem Device.modEnv_swc : (d.modEnv f).swc = d.swc := rfl
@[simp] theorem Device.modEnv_gwm : (d.modEnv f).gwm = d.gwm := rfl
@[simp] theorem Device.modEnv_clc : (d.modEnv f).clc = d.clc := rfl
@[simp] theorem Device.modEnv_fgu : (d.modEnv f).fgu = d.fgu := rfl
@[simp] theorem Device.modEnv_bal : (d.modEnv f).bal = d.bal := rfl
@[simp] theorem Device.modEnv_sdm : (d.modEnv f).sdm = d.sdm := rfl
@[simp] theorem Device.modEnv_pif : (d.modEnv f).pif = d.pif := rfl
@[simp] theorem Device.modEnv_evr : (d.modEnv f).evr = d.evr := rfl
@[simp] theorem Device.modEnv_sto : (d.modEnv f).sto = d.sto := rfl
end

section
variable (d : Device) (f : Du → Du)
@[simp] theorem Device.modDu_handoffs : (d.modDu f).handoffs = d.handoffs := rfl
@[simp] theorem Device.modDu_settings : (d.modDu f).settings = d.settings := rfl
@[simp] theorem Device.modDu_pins : (d.modDu f).pins = d.pins := rfl
@[simp] theorem Device.modDu_slc : (d.modDu f).slc = d.slc := rfl
@[simp] theorem Device.modDu_csu : (d.modDu f).csu = d.csu := rfl
@[simp] theorem Device.modDu_env : (d.modDu f).env = d.env := rfl
@[simp] theorem Device.modDu_du : (d.modDu f).du = f d.du := rfl
@[simp] theorem Device.modDu_swc : (d.modDu f).swc = d.swc := rfl
@[simp] theorem Device.modDu_gwm : (d.modDu f).gwm = d.gwm := rfl
@[simp] theorem Device.modDu_clc : (d.modDu f).clc = d.clc := rfl
@[simp] theorem Device.modDu_fgu : (d.modDu f).fgu = d.fgu := rfl
@[simp] theorem Device.modDu_bal : (d.modDu f).bal = d.bal := rfl
@[simp] theorem Device.modDu_sdm : (d.modDu f).sdm = d.sdm := rfl
@[simp] theorem Device.modDu_pif : (d.modDu f).pif = d.pif := rfl
@[simp] theorem Device.modDu_evr : (d.modDu f).evr = d.evr := rfl
@[simp] theorem Device.modDu_sto : (d.modDu f).sto = d.sto := rfl
end

section
variable (d : Device) (f : Swc → Swc)
@[simp] theorem Device.modSwc_handoffs : (d.modSwc f).handoffs = d.handoffs := rfl
@[simp] theorem Device.modSwc_settings : (d.modSwc f).settings = d.settings := rfl
@[simp] theorem Device.modSwc_pins : (d.modSwc f).pins = d.pins := rfl
@[simp] theorem Device.modSwc_slc : (d.modSwc f).slc = d.slc := rfl
@[simp] theorem Device.modSwc_csu : (d.modSwc f).csu = d.csu := rfl
@[simp] theorem Device.modSwc_env : (d.modSwc f).env = d.env := rfl
@[simp] theorem Device.modSwc_du : (d.modSwc f).du = d.du := rfl
@[simp] theorem Device.modSwc_swc : (d.modSwc f).swc = f d.swc := rfl
@[simp] theorem Device.modSwc_gwm : (d.modSwc f).gwm = d.gwm := rfl
@[simp] theorem Device.modSwc_clc : (d.modSwc f).clc = d.clc := rfl
@[simp] theorem Device.modSwc_fgu : (d.modSwc f).fgu = d.fgu := rfl
@[simp] theorem Device.modSwc_bal : (d.modSwc f).bal = d.bal := rfl
@[simp] theorem Device.modSwc_sdm : (d.modSwc f).sdm = d.sdm := rfl
@[simp] theorem Device.modSwc_pif : (d.modSwc f).pif = d.pif := rfl
@[simp] theorem Device.modSwc_evr : (d.modSwc f).evr = d.evr := rfl
@[simp] theorem Device.modSwc_sto : (d.modSwc f).sto = d.sto := rfl
end

section
variable (d : Device) (n : SwitchId) (f : SwitchRec → SwitchRec)
@[simp] theorem Device.modSw_handoffs : (d.modSw n f).handoffs = d.handoffs := rfl
@[simp] theorem Device.modSw_settings : (d.modSw n f).settings = d.settings := rfl
@[simp] theorem Device.modSw_pins : (d.modSw n f).pins = d.pins := rfl
@[simp] theorem Device.modSw_slc : (d.modSw n f).slc = d.slc := rfl
@[simp] theorem Device.modSw_csu : (d.modSw n f).csu = d.csu := rfl
@[simp] theorem Device.modSw_env : (d.modSw n f).env = d.env := rfl
@[simp] theorem Device.modSw_du : (d.modSw n f).du = d.du := rfl
@[simp] theorem Device.modSw_swc : (d.modSw n f).swc = { d.swc with switches := d.swc.switches.set n (f (d.swc.switches.get n)) } := rfl
@[simp] theorem Device.modSw_gwm : (d.modSw n f).gwm = d.gwm := rfl
@[simp] theorem Device.modSw_clc : (d.modSw n f).clc = d.clc := rfl
@[simp] theorem Device.modSw_fgu : (d.modSw n f).fgu = d.fgu := rfl
@[simp] theorem Device.modSw_bal : (d.modSw n f).bal = d.bal := rfl
@[simp] theorem Device.modSw_sdm : (d.modSw n f).sdm = d.sdm := rfl
@[simp] theorem Device.modSw_pif : (d.modSw n f).pif = d.pif := rfl
@[simp] theorem Device.modSw_evr : (d.modSw n f).evr = d.evr := rfl
@[simp] theorem Device.modSw_sto : (d.modSw n f).sto = d.sto := rfl
end

section
variable (d : Device) (f : Gwm → Gwm)
@[simp] theorem Device.modGwm_handoffs : (d.modGwm f).handoffs = d.handoffs := rfl
@[simp] theorem Device.modGwm_settings : (d.modGwm f).settings = d.settings := rfl
@[simp] theorem Device.modGwm_pins : (d.modGwm f).pins = d.pins := rfl
@[simp] theorem Device.modGwm_slc : (d.modGwm f).slc = d.slc := rfl
@[simp] theorem Device.modGwm_csu : (d.modGwm f).csu = d.csu := rfl
@[simp] theorem Device.modGwm_env : (d.modGwm f).env = d.env := rfl
@[simp] theorem Device.modGwm_du : (d.modGwm f).du = d.du := rfl
@[simp] theorem Device.modGwm_swc : (d.modGwm f).swc = d.swc := rfl
@[simp] theorem Device.modGwm_gwm : (d.modGwm f).gwm = f d.gwm := rfl
@[simp] theorem Device.modGwm_clc : (d.modGwm f).clc = d.clc := rfl
@[simp] theorem Device.modGwm_fgu : (d.modGwm f).fgu = d.fgu := rfl
@[simp] theorem Device.modGwm_bal : (d.modGwm f).bal = d.bal := rfl
@[simp] theorem Device.modGwm_sdm : (d.modGwm f).sdm = d.sdm := rfl
@[simp] theorem Device.modGwm_pif : (d.modGwm f).pif = d.pif := rfl
@[simp] theorem Device.modGwm_evr : (d.modGwm f).evr = d.evr := rfl
@[simp] theorem Device.modGwm_sto : (d.modGwm f).sto = d.sto := rfl
end

section
variable (d : Device) (f : Clc → Clc)
@[simp] theorem Device.modClc_handoffs : (d.modClc f).handoffs = d.handoffs := rfl
@[simp] theorem Device.modClc_settings : (d.modClc f).settings = d.settings := rfl
@[simp] theorem Device.modClc_pins : (d.modClc f).pins = d.pins := rfl
@[simp] theorem Device.modClc_slc : (d.modClc f).slc = d.slc := rfl
@[simp] theorem Device.modClc_csu : (d.modClc f).csu = d.csu := rfl
@[simp] theorem Device.modClc_env : (d.modClc f).env = d.env := rfl
@[simp] theorem Device.modClc_du : (d.modClc f).du = d.du := rfl
@[simp] theorem Device.modClc_swc : (d.modClc f).swc = d.swc := rfl
@[simp] theorem Device.modClc_gwm : (d.modClc f).gwm = d.gwm := rfl
@[simp] theorem Device.modClc_clc : (d.modClc f).clc = f d.clc := rfl
@[simp] theorem Device.modClc_fgu : (d.modClc f).fgu = d.fgu := rfl
@[simp] theorem Device.modClc_bal : (d.modClc f).bal = d.bal := rfl
@[simp] theorem Device.modClc_sdm : (d.modClc f).sdm = d.sdm := rfl
@[simp] theorem Device.modClc_pif : (d.modClc f).pif = d.pif := rfl
@[simp] theorem Device.modClc_evr : (d.modClc f).evr = d.evr := rfl
@[simp] theorem Device.modClc_sto : (d.modClc f).sto = d.sto := rfl
end

section
variable (d : Device) (c : Stage) (f : CoolStage → CoolStage)
@[simp] theorem Device.modStage_handoffs : (d.modStage c f).handoffs = d.handoffs := rfl
@[simp] theorem Device.modStage_settings : (d.modStage c f).settings = d.settings := rfl
@[simp] theorem Device.modStage_pins : (d.modStage c f).pins = d.pins := rfl
@[simp] theorem Device.modStage_slc : (d.modStage c f).slc = d.slc := rfl
@[simp] theorem Device.modStage_csu : (d.modStage c f).csu = d.csu := rfl
@[simp] theorem Device.modStage_env : (d.modStage c f).env = d.env := rfl
@[simp] theorem Device.modStage_du : (d.modStage c f).du = d.du := rfl
@[simp] theorem Device.modStage_swc : (d.modStage c f).swc = d.swc := rfl
@[simp] theorem Device.modStage_gwm : (d.modStage c f).gwm = d.gwm := rfl
@[simp] theorem Device.modStage_clc : (d.modStage c f).clc = { d.clc with stages := d.clc.stages.set c (f (d.clc.stages.get c)) } := rfl
@[simp] theorem Device.modStage_fgu : (d.modStage c f).fgu = d.fgu := rfl
@[simp] theorem Device.modStage_bal : (d.modStage c f).bal = d.bal := rfl
@[simp] theorem Device.modStage_sdm : (d.modStage c f).sdm = d.sdm := rfl
@[simp] theorem Device.modStage_pif : (d.modStage c f).pif = d.pif := rfl
@[simp] theorem Device.modStage_evr : (d.modStage c f).evr = d.evr := rfl
@[simp] theorem Device.modStage_sto : (d.modStage c f).sto = d.sto := rfl
end

section
variable (d : Device) (f : Fgu → Fgu)
@[simp] theorem Device.modFgu_handoffs : (d.modFgu f).handoffs = d.handoffs := rfl
@[simp] theorem Device.modFgu_settings : (d.modFgu f).settings = d.settings := rfl
@[simp] theorem Device.modFgu_pins : (d.modFgu f).pins = d.pins := rfl
@[simp] theorem Device.modFgu_slc : (d.modFgu f).slc = d.slc := rfl
@[simp] theorem Device.modFgu_csu : (d.modFgu f).csu = d.csu := rfl
@[simp] theorem Device.modFgu_env : (d.modFgu f).env = d.env := rfl
@[simp] theorem Device.modFgu_du : (d.modFgu f).du = d.du := rfl
@[simp] theorem Device.modFgu_swc : (d.modFgu f).swc = d.swc := rfl
@[simp] theorem Device.modFgu_gwm : (d.modFgu f).gwm = d.gwm := rfl
@[simp] theorem Device.modFgu_clc : (d.modFgu f).clc = d.clc := rfl
@[simp] theorem Device.modFgu_fgu : (d.modFgu f).fgu = f d.fgu := rfl
@[simp] theorem Device.modFgu_bal : (d.modFgu f).bal = d.bal := rfl
@[simp] theorem Device.modFgu_sdm : (d.modFgu f).sdm = d.sdm := rfl
@[simp] theorem Device.modFgu_pif : (d.modFgu f).pif = d.pif := rfl
@[simp] theorem Device.modFgu_evr : (d.modFgu f).evr = d.evr := rfl
@[simp] theorem Device.modFgu_sto : (d.modFgu f).sto = d.sto := rfl
end

section
variable (d : Device) (z : Zone) (f : ZoneRec → ZoneRec)
@[simp] theorem Device.modZone_handoffs : (d.modZone z f).handoffs = d.handoffs := rfl
@[simp] theorem Device.modZone_settings : (d.modZone z f).settings = d.settings := rfl
@[simp] theorem Device.modZone_pins : (d.modZone z f).pins = d.pins := rfl
@[simp] theorem Device.modZone_slc : (d.modZone z f).slc = d.slc := rfl
@[simp] theorem Device.modZone_csu : (d.modZone z f).csu = d.csu := rfl
@[simp] theorem Device.modZone_env : (d.modZone z f).env = d.env := rfl
@[simp] theorem Device.modZone_du : (d.modZone z f).du = d.du := rfl
@[simp] theorem Device.modZone_swc : (d.modZone z f).swc = d.swc := rfl
@[simp] theorem Device.modZone_gwm : (d.modZone z f).gwm = d.gwm := rfl
@[simp] theorem Device.modZone_clc : (d.modZone z f).clc = d.clc := rfl
@[simp] theorem Device.modZone_fgu : (d.modZone z f).fgu = { d.fgu with zones := d.fgu.zones.set z (f (d.fgu.zones.get z)) } := rfl
@[simp] theorem Device.modZone_bal : (d.modZone z f).bal = d.bal := rfl
@[simp] theorem Device.modZone_sdm : (d.modZone z f).sdm = d.sdm := rfl
@[simp] theorem Device.modZone_pif : (d.modZone z f).pif = d.pif := rfl
@[simp] theorem Device.modZone_evr : (d.modZone z f).evr = d.evr := rfl
@[simp] theorem Device.modZone_sto : (d.modZone z f).sto = d.sto := rfl
end

section
variable (d : Device) (f : Bal → Bal)
@[simp] theorem Device.modBal_handoffs : (d.modBal f).handoffs = d.handoffs := rfl
@[simp] theorem Device.modBal_settings : (d.modBal f).settings = d.settings := rfl
@[simp] theorem Device.modBal_pins : (d.modBal f).pins = d.pins := rfl
@[simp] theorem Device.modBal_slc : (d.modBal f).slc = d.slc := rfl
@[simp] theorem Device.modBal_csu : (d.modBal f).csu = d.csu := rfl
@[simp] theorem Device.modBal_env : (d.modBal f).env = d.env := rfl
@[simp] theorem Device.modBal_du : (d.modBal f).du = d.du := rfl
@[simp] theorem Device.modBal_swc : (d.modBal f).swc = d.swc := rfl
@[simp] theorem Device.modBal_gwm : (d.modBal f).gwm = d.gwm := rfl
@[simp] theorem Device.modBal_clc : (d.modBal f).clc = d.clc := rfl
@[simp] theorem Device.modBal_fgu : (d.modBal f).fgu = d.fgu := rfl
@[simp] theorem Device.modBal_bal : (d.modBal f).bal = f d.bal := rfl
@[simp] theorem Device.modBal_sdm : (d.modBal f).sdm = d.sdm := rfl
@[simp] theorem Device.modBal_pif : (d.modBal f).pif = d.pif := rfl
@[simp] theorem Device.modBal_evr : (d.modBal f).evr = d.evr := rfl
@[simp] theorem Device.modBal_sto : (d.modBal f).sto = d.sto := rfl
end

section
variable (d : Device) (f : Run → Run)
@[simp] theorem Device.modRun_handoffs : (d.modRun f).handoffs = d.handoffs := rfl
@[simp] theorem Device.modRun_settings : (d.modRun f).settings = d.settings := rfl
@[simp] theorem Device.modRun_pins : (d.modRun f).pins = d.pins := rfl
@[simp] theorem Device.modRun_slc : (d.modRun f).slc = d.slc := rfl
@[simp] theorem Device.modRun_csu : (d.modRun f).csu = d.csu := rfl
@[simp] theorem Device.modRun_env : (d.modRun f).env = d.env := rfl
@[simp] theorem Device.modRun_du : (d.modRun f).du = d.du := rfl
@[simp] theorem Device.modRun_swc : (d.modRun f).swc = d.swc := rfl
@[simp] theorem Device.modRun_gwm : (d.modRun f).gwm = d.gwm := rfl
@[simp] theorem Device.modRun_clc : (d.modRun f).clc = d.clc := rfl
@[simp] theorem Device.modRun_fgu : (d.modRun f).fgu = d.fgu := rfl
@[simp] theorem Device.modRun_bal : (d.modRun f).bal = { d.bal with run := f d.bal.run } := rfl
@[simp] theorem Device.modRun_sdm : (d.modRun f).sdm = d.sdm := rfl
@[simp] theorem Device.modRun_pif : (d.modRun f).pif = d.pif := rfl
@[simp] theorem Device.modRun_evr : (d.modRun f).evr = d.evr := rfl
@[simp] theorem Device.modRun_sto : (d.modRun f).sto = d.sto := rfl
end

section
variable (d : Device) (p : Port) (f : PortStanding → PortStanding)
@[simp] theorem Device.modPort_handoffs : (d.modPort p f).handoffs = d.handoffs := rfl
@[simp] theorem Device.modPort_settings : (d.modPort p f).settings = d.settings := rfl
@[simp] theorem Device.modPort_pins : (d.modPort p f).pins = d.pins := rfl
@[simp] theorem Device.modPort_slc : (d.modPort p f).slc = d.slc := rfl
@[simp] theorem Device.modPort_csu : (d.modPort p f).csu = d.csu := rfl
@[simp] theorem Device.modPort_env : (d.modPort p f).env = d.env := rfl
@[simp] theorem Device.modPort_du : (d.modPort p f).du = d.du := rfl
@[simp] theorem Device.modPort_swc : (d.modPort p f).swc = d.swc := rfl
@[simp] theorem Device.modPort_gwm : (d.modPort p f).gwm = d.gwm := rfl
@[simp] theorem Device.modPort_clc : (d.modPort p f).clc = d.clc := rfl
@[simp] theorem Device.modPort_fgu : (d.modPort p f).fgu = d.fgu := rfl
@[simp] theorem Device.modPort_bal : (d.modPort p f).bal = d.bal := rfl
@[simp] theorem Device.modPort_sdm : (d.modPort p f).sdm = { d.sdm with ports := d.sdm.ports.set p (f (d.port p)) } := rfl
@[simp] theorem Device.modPort_pif : (d.modPort p f).pif = d.pif := rfl
@[simp] theorem Device.modPort_evr : (d.modPort p f).evr = d.evr := rfl
@[simp] theorem Device.modPort_sto : (d.modPort p f).sto = d.sto := rfl
end

section
variable (d : Device) (p : Port) (f : PortLink → PortLink)
@[simp] theorem Device.modLink_handoffs : (d.modLink p f).handoffs = d.handoffs := rfl
@[simp] theorem Device.modLink_settings : (d.modLink p f).settings = d.settings := rfl
@[simp] theorem Device.modLink_pins : (d.modLink p f).pins = d.pins := rfl
@[simp] theorem Device.modLink_slc : (d.modLink p f).slc = d.slc := rfl
@[simp] theorem Device.modLink_csu : (d.modLink p f).csu = d.csu := rfl
@[simp] theorem Device.modLink_env : (d.modLink p f).env = d.env := rfl
@[simp] theorem Device.modLink_du : (d.modLink p f).du = d.du := rfl
@[simp] theorem Device.modLink_swc : (d.modLink p f).swc = d.swc := rfl
@[simp] theorem Device.modLink_gwm : (d.modLink p f).gwm = d.gwm := rfl
@[simp] theorem Device.modLink_clc : (d.modLink p f).clc = d.clc := rfl
@[simp] theorem Device.modLink_fgu : (d.modLink p f).fgu = d.fgu := rfl
@[simp] theorem Device.modLink_bal : (d.modLink p f).bal = d.bal := rfl
@[simp] theorem Device.modLink_sdm : (d.modLink p f).sdm = d.sdm := rfl
@[simp] theorem Device.modLink_pif : (d.modLink p f).pif = { d.pif with ports := d.pif.ports.set p (f (d.link p)) } := rfl
@[simp] theorem Device.modLink_evr : (d.modLink p f).evr = d.evr := rfl
@[simp] theorem Device.modLink_sto : (d.modLink p f).sto = d.sto := rfl
end

section
variable (d : Device) (f : Sto → Sto)
@[simp] theorem Device.modSto_handoffs : (d.modSto f).handoffs = d.handoffs := rfl
@[simp] theorem Device.modSto_settings : (d.modSto f).settings = d.settings := rfl
@[simp] theorem Device.modSto_pins : (d.modSto f).pins = d.pins := rfl
@[simp] theorem Device.modSto_slc : (d.modSto f).slc = d.slc := rfl
@[simp] theorem Device.modSto_csu : (d.modSto f).csu = d.csu := rfl
@[simp] theorem Device.modSto_env : (d.modSto f).env = d.env := rfl
@[simp] theorem Device.modSto_du : (d.modSto f).du = d.du := rfl
@[simp] theorem Device.modSto_swc : (d.modSto f).swc = d.swc := rfl
@[simp] theorem Device.modSto_gwm : (d.modSto f).gwm = d.gwm := rfl
@[simp] theorem Device.modSto_clc : (d.modSto f).clc = d.clc := rfl
@[simp] theorem Device.modSto_fgu : (d.modSto f).fgu = d.fgu := rfl
@[simp] theorem Device.modSto_bal : (d.modSto f).bal = d.bal := rfl
@[simp] theorem Device.modSto_sdm : (d.modSto f).sdm = d.sdm := rfl
@[simp] theorem Device.modSto_pif : (d.modSto f).pif = d.pif := rfl
@[simp] theorem Device.modSto_evr : (d.modSto f).evr = d.evr := rfl
@[simp] theorem Device.modSto_sto : (d.modSto f).sto = f d.sto := rfl
end

/-! ## Named reads after an update -/

theorem Device.modMonitor_monitor (d : Device) (s s' : StringId) (f : Monitor → Monitor) :
    (d.modMonitor s f).monitor s' = if s' = s then f (d.monitor s) else d.monitor s' := by
  cases s <;> cases s' <;> rfl

theorem Device.modSup_sup (d : Device) (s s' : StringId) (f : StringSup → StringSup) :
    (d.modSup s f).sup s' = if s' = s then f (d.sup s) else d.sup s' := by
  cases s <;> cases s' <;> rfl

theorem Device.modSw_sw (d : Device) (n n' : SwitchId) (f : SwitchRec → SwitchRec) :
    (d.modSw n f).sw n' = if n' = n then f (d.sw n) else d.sw n' := by
  cases n <;> cases n' <;> rfl

theorem Device.modStage_stage (d : Device) (c c' : Stage) (f : CoolStage → CoolStage) :
    (d.modStage c f).stage c' = if c' = c then f (d.stage c) else d.stage c' := by
  cases c <;> cases c' <;> rfl

theorem Device.modZone_zone (d : Device) (z z' : Zone) (f : ZoneRec → ZoneRec) :
    (d.modZone z f).zone z' = if z' = z then f (d.zone z) else d.zone z' := by
  cases z <;> cases z' <;> rfl

theorem Device.modPort_port (d : Device) (p p' : Port) (f : PortStanding → PortStanding) :
    (d.modPort p f).port p' = if p' = p then f (d.port p) else d.port p' := by
  cases p <;> cases p' <;> rfl

theorem Device.modLink_link (d : Device) (p p' : Port) (f : PortLink → PortLink) :
    (d.modLink p f).link p' = if p' = p then f (d.link p) else d.link p' := by
  cases p <;> cases p' <;> rfl

end Sys2Proof.Machine
end

