-- ==== Sys2Proof/Laws/Cooling.lean ====
section
/-! SUPPORT. What the shared operations of CLC do: stopping the stages, forming THERMAL, the pump want, the outputs, the flow fault. -/

namespace Sys2Proof.Machine

/-- R113: stopping every stage changes the stages that run and tells of them in order. -/
theorem Device.stopStages_stopped (d : Device) : ∃ stages hs, StagesStopped d stages hs ∧
    d.stopStages = { d with clc := { d.clc with stages := stages }, handoffs := d.handoffs ++ hs } := by
  refine ⟨⟨if (d.stage .c1).state = .running then ⟨.off, 0, none⟩ else d.stage .c1,
    if (d.stage .c2).state = .running then ⟨.off, 0, none⟩ else d.stage .c2,
    if (d.stage .c3).state = .running then ⟨.off, 0, none⟩ else d.stage .c3⟩, _, ⟨fun c => ?_, rfl⟩, ?_⟩
  · cases c <;> rfl
  · by_cases h1 : (d.clc.stages.c1).state = .running <;> by_cases h2 : (d.clc.stages.c2).state = .running <;>
      by_cases h3 : (d.clc.stages.c3).state = .running <;>
      simp [Device.stopStages, Device.each, Device.stopStage, Device.when, Stage.all, Device.stage, Device.modStage, Device.modClc,
        PerStage.get, PerStage.set, Device.raise, Device.post, h1, h2, h3]

/-- R118: THERMAL and its parts. -/
theorem Device.formThermal_formed (d : Device) : ∃ x hs, ThermalFormed d.clc True x hs ∧
    d.formThermal = { d with clc := x, handoffs := d.handoffs ++ hs } := by
  refine ⟨_, _, ⟨fun h => absurd trivial h, fun _ => ⟨rfl, rfl⟩⟩, ?_⟩
  have st : d.stageCapAt = fun tmax => if d.clc.settings.getD 4 0 < tmax then
      d.clc.settings.getD 9 0 * ((Stage.all.filter fun c => (d.clc.stages.get c).state != .failed).length : Int) / 3 else 9999 := rfl
  have temp : d.tempCapAt = tempCapOf d.clc.settings := rfl
  simp only [Device.formThermal, Device.modClc, Device.postIf, Device.post, st, temp, Device.coolItem]
  generalize min ((d.clc.lastTmax.map (tempCapOf d.clc.settings)).getD 9999) _ = kw
  by_cases h : kw = d.clc.thermal <;> simp [h]

/-- R116. -/
theorem Clc.pumpWanted_iff (x : Clc) : x.pumpWanted = true ↔ PumpWanted x := by
  have : (StringId.all.any x.stringClosed.get = true) ↔ ∃ n, x.stringClosed.get n = true := by
    simp only [List.any_eq_true]
    exact ⟨fun ⟨n, _, h⟩ => ⟨n, h⟩, fun ⟨n, h⟩ => ⟨n, by cases n <;> simp [StringId.all], h⟩⟩
  simp [Clc.pumpWanted, PumpWanted, this, or_assoc]

/-- R116, R117: the pump want acted on. -/
theorem Device.formPump_follows (d : Device) : ∃ x hs, PumpFollows d d.clc x hs ∧
    d.formPump = { d with clc := x, handoffs := d.handoffs ++ hs } := by
  have same : d = { d with clc := d.clc, handoffs := d.handoffs ++ [] } := by simp
  unfold Device.formPump PumpFollows
  by_cases hf : d.clc.flow = .fault <;> by_cases hw : PumpWanted d.clc
  · have hb := d.clc.pumpWanted_iff.mpr hw
    by_cases hp : d.clc.phase = .held
    · exact ⟨_, [], by simp [hf, hw, hp]; rfl, by simp [hf, hb, hp, Device.when, Device.tryFlow, Device.modClc]⟩
    · exact ⟨d.clc, [], by simp [hf, hw, hp], by simp [hf, hb, hp, Device.when]⟩
  · have hb : d.clc.pumpWanted = false := by simpa [← d.clc.pumpWanted_iff] using hw
    exact ⟨_, [], by simp [hf, hw]; rfl, by simp [hf, hb, Device.modClc]⟩
  · have hb := d.clc.pumpWanted_iff.mpr hw
    by_cases hp : d.clc.pump = true
    · exact ⟨d.clc, [], by simp [hf, hw, hp], by simp [hf, hb, hp, Device.when]⟩
    · by_cases hx : d.pins.flow = true
      · exact ⟨_, [], by simp [hf, hw, hp, hx]; rfl, by simp [hf, hb, hp, hx, Device.when, Device.startFlow, Device.modClc]⟩
      · exact ⟨_, [], by simp [hf, hw, hp, hx]; rfl, by simp [hf, hb, hp, hx, Device.when, Device.startFlow, Device.modClc]⟩
  · have hb : d.clc.pumpWanted = false := by simpa [← d.clc.pumpWanted_iff] using hw
    by_cases hp : d.clc.pump = true
    · obtain ⟨stages, hs, h, he⟩ :=
        (d.modClc fun x => { x with pump := false, flow := .none, flowTimer := none }).stopStages_stopped
      refine ⟨_, hs, ?_, by simpa [hf, hb, hp, Device.when] using he⟩
      simp only [hf, hw, hp, ne_eq, not_false_eq_true, false_implies, true_implies, true_and, Bool.true_eq_false]
      exact ⟨stages, h, rfl⟩
    · exact ⟨d.clc, [], by simp [hf, hw, hp], by simp [hf, hb, hp, Device.when]⟩

/-- R121, R120: deriving the outputs changes nothing else. -/
theorem Device.deriveOutputs_eq (d : Device) : d.deriveOutputs = { d with clc := d.clc.withOutputs d.deriveOutputs.clc } := rfl

/-- R121, R120: the outputs, for an event that began at d and found the exhaust fan as d has it. -/
theorem Device.deriveOutputs_follow {d m : Device} (h1 : m.clc.exhaust = d.clc.exhaust)
    (h2 : m.clc.exhaustTimer = d.clc.exhaustTimer) : OutputsFollow d m.deriveOutputs := by
  have cold : (∀ v, m.clc.supply = some v → v < m.coolItem 12) ↔
      m.clc.supply.any (fun t => decide (m.coolItem 12 ≤ t)) = false := by
    cases m.clc.supply <;> simp
  have cut : m.deriveOutputs.clc.batteryFire = m.clc.batteryFire := rfl
  unfold OutputsFollow
  rw [← h1, ← h2]
  simp only [cut]
  refine ⟨?_, ?_, ?_, ?_, ?_, ?_, ?_⟩
  · simp [Device.deriveOutputs, Device.modClc, Device.outputs, Clc.batteryPrealarm]
  · simp [Device.deriveOutputs, Device.modClc, Device.outputs, Clc.batteryPrealarm, Clc.roomFire]
    tauto
  · simp [Device.deriveOutputs, Device.modClc, Device.outputs, Clc.batteryPrealarm]
    tauto
  · intro h; simp [Device.deriveOutputs, Device.modClc, Device.outputs, h]
  · intro h h3
    have : m.clc.mode = .blind := h3
    simp [Device.deriveOutputs, Device.modClc, Device.outputs, h, this]
  · intro h h3
    have : m.clc.mode ≠ .blind := h3
    have c : (∀ v, m.deriveOutputs.clc.supply = some v → v < m.deriveOutputs.clc.settings.getD 12 0) ↔ _ := cold
    refine ⟨by simp [Device.deriveOutputs, Device.modClc, Device.outputs, h, this], ?_, ?_⟩
    · rintro ⟨h4, h5⟩
      have h4 : m.clc.flow = .confirmed := h4
      have h5 := c.mp h5
      simp only [Device.deriveOutputs, Device.modClc, Device.outputs, h, this, h4, h5]
      simp
    · intro h4
      have : m.clc.flow = .confirmed → m.clc.supply.any (fun t => decide (m.coolItem 12 ≤ t)) = true := by
        intro hf
        by_contra hc
        exact h4 ⟨hf, c.mpr (by simpa using hc)⟩
      simp only [Device.deriveOutputs, Device.modClc, Device.outputs]
      by_cases hf : m.clc.flow = .confirmed
      · rw [if_pos (Or.inr (Or.inr (Or.inr (this hf))))]
      · rw [if_pos (Or.inr (Or.inr (Or.inl hf)))]
  · simp [Device.deriveOutputs, Device.modClc, Device.outputs, exhaustTimerAfter]
    cases m.pins.exhaustFeedback <;> cases m.clc.batteryFire <;> cases m.clc.batteryPrealarm <;> simp

/-- R117, R118: a flow fault. -/
theorem Device.flowFault_faulted (d : Device) (detail : Nat) : FlowFaulted d (d.flowFault detail) detail := by
  obtain ⟨stages, stops, h1, e1⟩ := (d.modClc fun x => { x with flow := .fault }).stopStages_stopped
  obtain ⟨x, hs, h2, e2⟩ := (((d.modClc fun x => { x with flow := .fault }).stopStages.waitFlow).raise .coolingFault (.table 8)
    (some detail)).formThermal_formed
  rw [e1] at e2 h2
  have e3 : d.flowFault detail = Device.deriveOutputs
      { (d.raise .coolingFault (.table 8) (some detail)) with
        clc := x
        handoffs := d.handoffs ++ stops ++ [.eventOccurrence ⟨.coolingFault, .table 8, some detail, false⟩] ++ hs } := by
    simp only [Device.flowFault, e1, e2]
    simp [Device.raise, Device.post, Device.waitFlow, Device.modClc]
  have hx : x.exhaust = d.clc.exhaust ∧ x.exhaustTimer = d.clc.exhaustTimer := by
    obtain ⟨rfl, -⟩ := h2.2 trivial
    exact ⟨rfl, rfl⟩
  refine ⟨stages, stops, hs, x, h1, h2, ?_, ?_⟩
  · rw [e3]
    conv_lhs => rw [Device.deriveOutputs_eq]
    simp [Device.raise, Device.post, List.append_assoc]
  · rw [e3]
    exact Device.deriveOutputs_follow hx.1 hx.2

end Sys2Proof.Machine
end

