-- ==== Sys2Proof/Laws/Fire.lean ====
section
/-! SUPPORT. What the shared operations of FGU do: the passage through ALARM, the judgment of a zone, the end of a test, and what follows an
event. -/

namespace Sys2Proof.Machine

/-- A replaced zone record is the one that reads. -/
theorem Device.modZone_eq (d : Device) (z : Zone) (f : ZoneRec → ZoneRec) : d.modZone z f = d.withZone z (f (d.zone z)) := rfl

theorem Device.withZone_zone (d : Device) (z : Zone) (r : ZoneRec) : (d.withZone z r).zone z = r := by
  cases z <;> rfl

theorem Fgu.withZone_withZone (g : Fgu) (z : Zone) (r r' : ZoneRec) : (g.withZone z r).withZone z r' = g.withZone z r' := by
  cases z <;> rfl

theorem Fgu.withZone_self (g : Fgu) (z : Zone) : g.withZone z (g.zones.get z) = g := by
  cases z <;> rfl

/-- R129, R131: the passage through ALARM. -/
theorem Device.alarm_eq (d : Device) (z : Zone) (k : Nat) : d.alarm z k = { d with
    fgu := d.fgu.withZone z ((d.zone z).alarmed d)
    handoffs := d.handoffs ++ [.eventOccurrence ⟨.fireAlarm, .zone z, some k, false⟩] } := by
  unfold Device.alarm Device.countdown ZoneRec.alarmed
  by_cases h : d.fgu.holdPressed = true
  · cases z <;> simp [h, Device.modZone, Device.modFgu, Device.raise, Device.post, Fgu.withZone, Device.zone, PerZone.get, PerZone.set]
  · cases z <;> simp [h, Device.modZone, Device.modFgu, Device.raise, Device.post, Fgu.withZone, Device.zone, PerZone.get, PerZone.set,
      Device.releaseDelay, Device.itemNat, Device.item]

/-- R129: the judgment of a zone changes its record and raises events, as `Judged` says. -/
theorem Device.judgeZone_judged (d : Device) (z : Zone) : ∃ r hs, Judged d z r hs ∧
    d.judgeZone z = { d with fgu := d.fgu.withZone z r, handoffs := d.handoffs ++ hs } := by
  have same : d = { d with fgu := d.fgu.withZone z (d.zone z), handoffs := d.handoffs ++ [] } := by
    simp [Device.zone, Fgu.withZone_self]
  unfold Device.judgeZone
  have al : d.fgu.alarming z = true ↔ d.fgu.gasHigh z = true ∨ 2 ≤ (d.fgu.kinds z).length := by simp [Fgu.alarming]
  by_cases ha : d.fgu.alarming z = true
  · have hy := al.mp ha
    cases hs : (d.zone z).stage
    case normal | fault =>
      refine ⟨_, _, ?_, by simpa only [ha, if_true] using d.alarm_eq z _⟩
      simp [Judged, hs, hy, Fgu.alarmDetail]
    case prealarm =>
      refine ⟨_, _, ?_, by simpa only [ha, Device.when, if_true] using d.alarm_eq z _⟩
      simp [Judged, hs, hy, Fgu.alarmDetail]
    all_goals exact ⟨_, _, by simp [Judged, hs], same⟩
  · have hn := (not_congr al).mp ha
    cases hs : (d.zone z).stage
    case normal | fault =>
      cases hk : d.fgu.kinds z with
      | nil =>
        refine ⟨{ d.zone z with stage := (d.zone z).byFlag }, [], ?_, ?_⟩
        · simp [Judged, hs, hk, ZoneRec.byFlag] at hn ⊢
          simp [hn]
        · simp [ha, Device.modZone, Device.modFgu, Fgu.withZone, Device.zone]
      | cons k rest =>
        have rest_nil : rest = [] := by
          rw [hk] at hn
          cases rest <;> simp at hn ⊢
        refine ⟨{ d.zone z with stage := .prealarm }, [.eventOccurrence ⟨.firePrealarm, .zone z, some k, false⟩], ?_, ?_⟩
        · subst rest_nil
          simp [Judged, hs, hk] at hn ⊢
          simp [hn]
        · simp [ha, Device.modZone, Device.modFgu, Fgu.withZone, Device.zone, Device.raise, Device.post]
    case prealarm => exact ⟨d.zone z, [], by simp [Judged, hs, hn], by simpa [ha, Device.when] using same⟩
    all_goals exact ⟨_, _, by simp [Judged, hs], same⟩

/-- R137: the end of a test. -/
theorem Device.endTest_ended (d : Device) (z : Zone) : ∃ r hs, TestEnded d z r hs ∧
    d.endTest z = { d with fgu := d.fgu.withZone z r, handoffs := d.handoffs ++ hs } := by
  obtain ⟨r, hs, hj, he⟩ := (d.withZone z { d.zone z with testTimer := none, testGas := false }).judgeZone_judged z
  refine ⟨r, hs, hj, he.trans ?_⟩
  simp [Device.withZone, Fgu.withZone_withZone]

/-- R126, R128: a confirmation of loop l, and the fault flag afresh with its event. -/
theorem Device.confirmLoop_eq (d : Device) (z : Zone) (l : Loop) :
    let o := d.zone z
    let c := o.loop l
    let faulty (st : LoopState) : Bool := st == .opened || st == .short
    let smoke := if l = .smoke then c.raw else o.smoke.confirmed
    let heat := if l = .heat then c.raw else o.heat.confirmed
    let fault := faulty c.raw && (!o.faultFlag || faulty c.confirmed && c.confirmed != c.raw)
    (d.modZone z fun r => r.setLoop l ⟨c.raw, c.raw, none⟩).formFault z l c.confirmed = { d with
      fgu := d.fgu.withZone z { o.setLoop l ⟨c.raw, c.raw, none⟩ with faultFlag := faulty smoke || faulty heat }
      handoffs := d.handoffs ++ if fault then
        [.eventOccurrence ⟨.zoneFault, .zone z, some ((if l = .smoke then 1 else 3) + if c.raw = .short then 1 else 0), false⟩]
        else [] } := by
  have hf : ∀ st : LoopState, LoopState.faulty st = (st == .opened || st == .short) := by intro st; cases st <;> rfl
  intro o c faulty smoke heat fault
  cases l <;> cases z <;>
    simp only [o, c, faulty, smoke, heat, fault, Device.formFault, Device.modZone, Device.modFgu, Device.zone, PerZone.get,
      PerZone.set, ZoneRec.setLoop, ZoneRec.loop, Device.raise, Device.post, hf, Device.when, Fgu.withZone, faultDetail, boolNat] <;>
    split <;> simp_all

/-- R138: what follows an event at FGU. -/
theorem Device.fguEvent_eq (d : Device) (f : Device → Device) : d.fguEvent f = { f d with
    fgu := (f d).fgu.settled
    handoffs := (f d).handoffs ++ fireHandoffs d.fgu (f d).fgu.settled } := by
  have post : (f d).fgu.zones.map (·.posture) ≠ d.fgu.zones.map (·.posture) ↔
      (Zone.all.any fun z => ((f d).fgu.zones.get z).posture != (d.fgu.zones.get z).posture) = true := by
    simp [Zone.all, PerZone.map, PerZone.get]
    tauto
  have post' : (f d).fgu.settled.zones = (f d).fgu.zones := rfl
  simp only [Device.fguEvent, Device.modFgu, Device.when, Device.postIf, Device.post, fireHandoffs, post', post]
  have ht : (f d).fgu.settled.testing = (f d).fgu.testing := rfl
  have hst : (f d).fgu.settled.stationStage = (f d).fgu.formStage := rfl
  by_cases h1 : (f d).fgu.formStage = d.fgu.stationStage <;> by_cases h2 : (f d).fgu.testing = d.fgu.testing <;>
    by_cases h3 : (Zone.all.any fun z => ((f d).fgu.zones.get z).posture != (d.fgu.zones.get z).posture) = true <;>
    simp [h1, h2, h3, ht, hst, Fgu.testing, Fgu.settled, Fgu.shown] <;> simp_all [Fgu.testing, Fgu.settled, Fgu.shown, PerZone.map]

/-- R138: an event at FGU whose effect is one zone's record and events. -/
theorem Device.fguEvent_moved {d m : Device} {f : Device → Device} {z : Zone} {r : ZoneRec} {hs : List Instr}
    (h : f d = { m with fgu := m.fgu.withZone z r, handoffs := d.handoffs ++ hs }) : ZoneMoved d m (d.fguEvent f) z r hs := by
  unfold ZoneMoved
  rw [d.fguEvent_eq f, h]
  simp

end Sys2Proof.Machine
end

