-- ==== Sys2Proof/Laws/Frames.lean ====
section
/-! SUPPORT. For each operation, which blocks it may change: at most those named. `foo_only` says it of one use, `Only.foo` chains it. -/

namespace Sys2Proof.Machine

set_option Elab.async false

theorem Only.refl (bs : List Block) (d : Device) : Only bs d d := fun b _ => by cases b <;> rfl

theorem Only.trans {bs : List Block} {d e f : Device} (h : Only bs d e) (k : Only bs e f) : Only bs d f := fun b hb => by
  have h1 := h b hb
  have h2 := k b hb
  cases b <;> exact Eq.trans h2 h1

theorem Only.mono {bs cs : List Block} {d e : Device} (h : Only bs d e) (hb : ∀ b ∈ bs, b ∈ cs) : Only cs d e :=
  fun b hc => h b fun m => hc (hb b m)

theorem Only.when {bs : List Block} {d e : Device} (h : Only bs d e) (c : Bool) (f : Device → Device)
    (hf : ∀ x, Only bs d x → Only bs d (f x)) : Only bs d (e.when c f) := by
  unfold Device.when; split
  · exact hf e h
  · exact h

theorem Only.each {bs : List Block} {d e : Device} {α : Type} (h : Only bs d e) (xs : List α) (f : α → Device → Device)
    (hf : ∀ a x, Only bs d x → Only bs d (f a x)) : Only bs d (e.each xs f) := by
  unfold Device.each
  induction xs generalizing e with
  | nil => exact h
  | cons a xs ih => exact ih (hf a e h)

theorem Only.ite {bs : List Block} {d a b : Device} (c : Prop) [Decidable c] (h : Only bs d a) (k : Only bs d b) :
    Only bs d (if c then a else b) := by split <;> assumption

/-! ## Shared operations -/

theorem post_only (d : Device) (i : Instr) : Only [.handoffs] d (d.post i) := by
  intro b hb; cases b <;> first | rfl | simp at hb

theorem Only.post {bs : List Block} {d e : Device} (h : Only bs d e) (i : Instr)
    (hb : ∀ b ∈ ([.handoffs] : List Block), b ∈ bs := by decide) : Only bs d (e.post i) := h.trans ((post_only e i).mono hb)

theorem took_only (d : Device) (i : Instr) : Only [.handoffs] d (d.took i) := by
  intro b hb; cases b <;> first | rfl | simp at hb

theorem Only.took {bs : List Block} {d e : Device} (h : Only bs d e) (i : Instr)
    (hb : ∀ b ∈ ([.handoffs] : List Block), b ∈ bs := by decide) : Only bs d (e.took i) := h.trans ((took_only e i).mono hb)

theorem raise_only (d : Device) (c : EventClass) (u : Subject) (n : Option Nat) : Only [.handoffs] d (d.raise c u n) := by
  intro b hb; cases b <;> first | rfl | simp at hb

theorem Only.raise {bs : List Block} {d e : Device} (h : Only bs d e) (c : EventClass) (u : Subject) (n : Option Nat)
    (hb : ∀ b ∈ ([.handoffs] : List Block), b ∈ bs := by decide) : Only bs d (e.raise c u n) := h.trans ((raise_only e c u n).mono hb)

theorem postIf_only (d : Device) (c : Bool) (i : Instr) : Only [.handoffs] d (d.postIf c i) := by
  unfold Device.postIf; exact .ite _ ((Only.refl _ d).post i) (.refl _ d)

theorem Only.postIf {bs : List Block} {d e : Device} (h : Only bs d e) (c : Bool) (i : Instr)
    (hb : ∀ b ∈ ([.handoffs] : List Block), b ∈ bs := by decide) : Only bs d (e.postIf c i) := h.trans ((postIf_only e c i).mono hb)

theorem keepCheck_only (d : Device) (t : StoredTable) : Only [.sto] d (d.keepCheck t) := by
  intro b hb; cases b <;> first | rfl | simp at hb

theorem Only.keepCheck {bs : List Block} {d e : Device} (h : Only bs d e) (t : StoredTable)
    (hb : ∀ b ∈ ([.sto] : List Block), b ∈ bs := by decide) : Only bs d (e.keepCheck t) := h.trans ((keepCheck_only e t).mono hb)

theorem setItem_only (d : Device) (t : StoredTable) (i : Nat) (v : Int) : Only [.settings, .sto] d (d.setItem t i v) := by
  intro b hb; cases b <;> first | rfl | simp at hb

theorem Only.setItem {bs : List Block} {d e : Device} (h : Only bs d e) (t : StoredTable) (i : Nat) (v : Int)
    (hb : ∀ b ∈ ([.settings, .sto] : List Block), b ∈ bs := by decide) : Only bs d (e.setItem t i v) := h.trans ((setItem_only e t i v).mono hb)

theorem modMonitor_only (d : Device) (s : StringId) (f : Monitor → Monitor) : Only [.slc] d (d.modMonitor s f) := by
  intro b hb; cases b <;> first | rfl | simp at hb

theorem Only.modMonitor {bs : List Block} {d e : Device} (h : Only bs d e) (s : StringId) (f : Monitor → Monitor)
    (hb : ∀ b ∈ ([.slc] : List Block), b ∈ bs := by decide) : Only bs d (e.modMonitor s f) := h.trans ((modMonitor_only e s f).mono hb)

theorem modSup_only (d : Device) (s : StringId) (f : StringSup → StringSup) : Only [.csu] d (d.modSup s f) := by
  intro b hb; cases b <;> first | rfl | simp at hb

theorem Only.modSup {bs : List Block} {d e : Device} (h : Only bs d e) (s : StringId) (f : StringSup → StringSup)
    (hb : ∀ b ∈ ([.csu] : List Block), b ∈ bs := by decide) : Only bs d (e.modSup s f) := h.trans ((modSup_only e s f).mono hb)

theorem modChannel_only (d : Device) (s : StringId) (k : Channel) (f : ChannelRec → ChannelRec) : Only [.csu] d (d.modChannel s k f) := by
  intro b hb; cases b <;> first | rfl | simp at hb

theorem Only.modChannel {bs : List Block} {d e : Device} (h : Only bs d e) (s : StringId) (k : Channel) (f : ChannelRec → ChannelRec)
    (hb : ∀ b ∈ ([.csu] : List Block), b ∈ bs := by decide) : Only bs d (e.modChannel s k f) := h.trans ((modChannel_only e s k f).mono hb)

theorem modEnv_only (d : Device) (f : Env → Env) : Only [.env] d (d.modEnv f) := by
  intro b hb; cases b <;> first | rfl | simp at hb

theorem Only.modEnv {bs : List Block} {d e : Device} (h : Only bs d e) (f : Env → Env)
    (hb : ∀ b ∈ ([.env] : List Block), b ∈ bs := by decide) : Only bs d (e.modEnv f) := h.trans ((modEnv_only e f).mono hb)

theorem modDu_only (d : Device) (f : Du → Du) : Only [.du] d (d.modDu f) := by
  intro b hb; cases b <;> first | rfl | simp at hb

theorem Only.modDu {bs : List Block} {d e : Device} (h : Only bs d e) (f : Du → Du)
    (hb : ∀ b ∈ ([.du] : List Block), b ∈ bs := by decide) : Only bs d (e.modDu f) := h.trans ((modDu_only e f).mono hb)

theorem modSwc_only (d : Device) (f : Swc → Swc) : Only [.swc] d (d.modSwc f) := by
  intro b hb; cases b <;> first | rfl | simp at hb

theorem Only.modSwc {bs : List Block} {d e : Device} (h : Only bs d e) (f : Swc → Swc)
    (hb : ∀ b ∈ ([.swc] : List Block), b ∈ bs := by decide) : Only bs d (e.modSwc f) := h.trans ((modSwc_only e f).mono hb)

theorem modSw_only (d : Device) (n : SwitchId) (f : SwitchRec → SwitchRec) : Only [.swc] d (d.modSw n f) := by
  intro b hb; cases b <;> first | rfl | simp at hb

theorem Only.modSw {bs : List Block} {d e : Device} (h : Only bs d e) (n : SwitchId) (f : SwitchRec → SwitchRec)
    (hb : ∀ b ∈ ([.swc] : List Block), b ∈ bs := by decide) : Only bs d (e.modSw n f) := h.trans ((modSw_only e n f).mono hb)

theorem modGwm_only (d : Device) (f : Gwm → Gwm) : Only [.gwm] d (d.modGwm f) := by
  intro b hb; cases b <;> first | rfl | simp at hb

theorem Only.modGwm {bs : List Block} {d e : Device} (h : Only bs d e) (f : Gwm → Gwm)
    (hb : ∀ b ∈ ([.gwm] : List Block), b ∈ bs := by decide) : Only bs d (e.modGwm f) := h.trans ((modGwm_only e f).mono hb)

theorem modClc_only (d : Device) (f : Clc → Clc) : Only [.clc] d (d.modClc f) := by
  intro b hb; cases b <;> first | rfl | simp at hb

theorem Only.modClc {bs : List Block} {d e : Device} (h : Only bs d e) (f : Clc → Clc)
    (hb : ∀ b ∈ ([.clc] : List Block), b ∈ bs := by decide) : Only bs d (e.modClc f) := h.trans ((modClc_only e f).mono hb)

theorem modStage_only (d : Device) (c : Stage) (f : CoolStage → CoolStage) : Only [.clc] d (d.modStage c f) := by
  intro b hb; cases b <;> first | rfl | simp at hb

theorem Only.modStage {bs : List Block} {d e : Device} (h : Only bs d e) (c : Stage) (f : CoolStage → CoolStage)
    (hb : ∀ b ∈ ([.clc] : List Block), b ∈ bs := by decide) : Only bs d (e.modStage c f) := h.trans ((modStage_only e c f).mono hb)

theorem modFgu_only (d : Device) (f : Fgu → Fgu) : Only [.fgu] d (d.modFgu f) := by
  intro b hb; cases b <;> first | rfl | simp at hb

theorem Only.modFgu {bs : List Block} {d e : Device} (h : Only bs d e) (f : Fgu → Fgu)
    (hb : ∀ b ∈ ([.fgu] : List Block), b ∈ bs := by decide) : Only bs d (e.modFgu f) := h.trans ((modFgu_only e f).mono hb)

theorem modZone_only (d : Device) (z : Zone) (f : ZoneRec → ZoneRec) : Only [.fgu] d (d.modZone z f) := by
  intro b hb; cases b <;> first | rfl | simp at hb

theorem Only.modZone {bs : List Block} {d e : Device} (h : Only bs d e) (z : Zone) (f : ZoneRec → ZoneRec)
    (hb : ∀ b ∈ ([.fgu] : List Block), b ∈ bs := by decide) : Only bs d (e.modZone z f) := h.trans ((modZone_only e z f).mono hb)

theorem modBal_only (d : Device) (f : Bal → Bal) : Only [.bal] d (d.modBal f) := by
  intro b hb; cases b <;> first | rfl | simp at hb

theorem Only.modBal {bs : List Block} {d e : Device} (h : Only bs d e) (f : Bal → Bal)
    (hb : ∀ b ∈ ([.bal] : List Block), b ∈ bs := by decide) : Only bs d (e.modBal f) := h.trans ((modBal_only e f).mono hb)

theorem modRun_only (d : Device) (f : Run → Run) : Only [.bal] d (d.modRun f) := by
  intro b hb; cases b <;> first | rfl | simp at hb

theorem Only.modRun {bs : List Block} {d e : Device} (h : Only bs d e) (f : Run → Run)
    (hb : ∀ b ∈ ([.bal] : List Block), b ∈ bs := by decide) : Only bs d (e.modRun f) := h.trans ((modRun_only e f).mono hb)

theorem setCauses_only (d : Device) (f : Run → Run) : Only [.bal] d (d.setCauses f) := by
  intro b hb; cases b <;> first | rfl | simp at hb

theorem Only.setCauses {bs : List Block} {d e : Device} (h : Only bs d e) (f : Run → Run)
    (hb : ∀ b ∈ ([.bal] : List Block), b ∈ bs := by decide) : Only bs d (e.setCauses f) := h.trans ((setCauses_only e f).mono hb)

theorem modPort_only (d : Device) (p : Port) (f : PortStanding → PortStanding) : Only [.sdm] d (d.modPort p f) := by
  intro b hb; cases b <;> first | rfl | simp at hb

theorem Only.modPort {bs : List Block} {d e : Device} (h : Only bs d e) (p : Port) (f : PortStanding → PortStanding)
    (hb : ∀ b ∈ ([.sdm] : List Block), b ∈ bs := by decide) : Only bs d (e.modPort p f) := h.trans ((modPort_only e p f).mono hb)

theorem modLink_only (d : Device) (p : Port) (f : PortLink → PortLink) : Only [.pif] d (d.modLink p f) := by
  intro b hb; cases b <;> first | rfl | simp at hb

theorem Only.modLink {bs : List Block} {d e : Device} (h : Only bs d e) (p : Port) (f : PortLink → PortLink)
    (hb : ∀ b ∈ ([.pif] : List Block), b ∈ bs := by decide) : Only bs d (e.modLink p f) := h.trans ((modLink_only e p f).mono hb)

theorem modSto_only (d : Device) (f : Sto → Sto) : Only [.sto] d (d.modSto f) := by
  intro b hb; cases b <;> first | rfl | simp at hb

theorem Only.modSto {bs : List Block} {d e : Device} (h : Only bs d e) (f : Sto → Sto)
    (hb : ∀ b ∈ ([.sto] : List Block), b ∈ bs := by decide) : Only bs d (e.modSto f) := h.trans ((modSto_only e f).mono hb)

/-! ## SLC -/

theorem joinList_only (d : Device) (s : StringId) : Only [.slc] d (d.joinList s) := by
  unfold Device.joinList; split <;> (intro b hb; cases b <;> first | rfl | simp at hb)

theorem Only.joinList {bs : List Block} {d e : Device} (h : Only bs d e) (s : StringId)
    (hb : ∀ b ∈ ([.slc] : List Block), b ∈ bs := by decide) : Only bs d (e.joinList s) := h.trans ((joinList_only e s).mono hb)

theorem leaveList_only (d : Device) (s : StringId) : Only [.slc] d (d.leaveList s) := by
  intro b hb; cases b <;> first | rfl | simp at hb

theorem Only.leaveList {bs : List Block} {d e : Device} (h : Only bs d e) (s : StringId)
    (hb : ∀ b ∈ ([.slc] : List Block), b ∈ bs := by decide) : Only bs d (e.leaveList s) := h.trans ((leaveList_only e s).mono hb)

theorem discardString_only (d : Device) (s : StringId) : Only [.slc] d (d.discardString s) := by
  intro b hb; cases b <;> first | rfl | simp at hb

theorem Only.discardString {bs : List Block} {d e : Device} (h : Only bs d e) (s : StringId)
    (hb : ∀ b ∈ ([.slc] : List Block), b ∈ bs := by decide) : Only bs d (e.discardString s) := h.trans ((discardString_only e s).mono hb)

theorem discardBus_only (d : Device)  : Only [.slc] d (d.discardBus) := by
  intro b hb; cases b <;> first | rfl | simp at hb

theorem Only.discardBus {bs : List Block} {d e : Device} (h : Only bs d e) 
    (hb : ∀ b ∈ ([.slc] : List Block), b ∈ bs := by decide) : Only bs d (e.discardBus) := h.trans ((discardBus_only e ).mono hb)

theorem discard_only (d : Device) (x : Exchange) : Only [.slc] d (d.discard x) := by
  cases x <;> (intro b hb; cases b <;> first | rfl | simp at hb)

theorem Only.discard {bs : List Block} {d e : Device} (h : Only bs d e) (x : Exchange)
    (hb : ∀ b ∈ ([.slc] : List Block), b ∈ bs := by decide) : Only bs d (e.discard x) := h.trans ((discard_only e x).mono hb)

theorem interrogate_only (d : Device) (s : StringId) : Only [.handoffs, .slc] d (d.interrogate s) := by
  exact (((Only.refl _ d).modMonitor _ _).joinList _).post _

theorem Only.interrogate {bs : List Block} {d e : Device} (h : Only bs d e) (s : StringId)
    (hb : ∀ b ∈ ([.handoffs, .slc] : List Block), b ∈ bs := by decide) : Only bs d (e.interrogate s) := h.trans ((interrogate_only e s).mono hb)

theorem deliverHard_only (d : Device) (s : StringId) (r : ScanRecord) : Only [.handoffs] d (d.deliverHard s r) := by
  exact ((Only.refl _ d).post _).post _

theorem Only.deliverHard {bs : List Block} {d e : Device} (h : Only bs d e) (s : StringId) (r : ScanRecord)
    (hb : ∀ b ∈ ([.handoffs] : List Block), b ∈ bs := by decide) : Only bs d (e.deliverHard s r) := h.trans ((deliverHard_only e s r).mono hb)

theorem deliverFull_only (d : Device) (s : StringId) (r : ScanRecord) (g : Bool) : Only [.handoffs] d (d.deliverFull s r g) := by
  exact (((Only.refl _ d).post _).post _).post _

theorem Only.deliverFull {bs : List Block} {d e : Device} (h : Only bs d e) (s : StringId) (r : ScanRecord) (g : Bool)
    (hb : ∀ b ∈ ([.handoffs] : List Block), b ∈ bs := by decide) : Only bs d (e.deliverFull s r g) := h.trans ((deliverFull_only e s r g).mono hb)

theorem acceptScan_only (d : Device) (s : StringId) (r : ScanRecord) : Only [.handoffs, .slc] d (d.acceptScan s r) := by
  have k : Only [.handoffs, .slc] d (d.modMonitor s (·.hold r)) := (Only.refl _ d).modMonitor _ _
  unfold Device.acceptScan
  dsimp only
  split
  · exact (k.interrogate _).deliverHard _ _
  · exact k.deliverHard _ _
  · exact (k.when _ _ fun x h => h.interrogate _).deliverHard _ _
  · exact (k.modMonitor _ _).deliverFull _ _ _

theorem Only.acceptScan {bs : List Block} {d e : Device} (h : Only bs d e) (s : StringId) (r : ScanRecord)
    (hb : ∀ b ∈ ([.handoffs, .slc] : List Block), b ∈ bs := by decide) : Only bs d (e.acceptScan s r) := h.trans ((acceptScan_only e s r).mono hb)

theorem acceptBus_only (d : Device) (r : BusRecord) : Only [.handoffs, .slc] d (d.acceptBus r) := by
  refine Only.trans (e := { d with slc := { d.slc with bus := r, busStale := false, busTimer := some 100 } }) ?_ (((Only.refl _ _).post _).post _)
  intro b hb; cases b <;> first | rfl | simp at hb

theorem Only.acceptBus {bs : List Block} {d e : Device} (h : Only bs d e) (r : BusRecord)
    (hb : ∀ b ∈ ([.handoffs, .slc] : List Block), b ∈ bs := by decide) : Only bs d (e.acceptBus r) := h.trans ((acceptBus_only e r).mono hb)

theorem unrecognize_only (d : Device) (s : StringId) (w : Reason) : Only [.handoffs, .slc] d (d.unrecognize s w) := by
  exact ((((Only.refl _ d).modMonitor _ _).leaveList _).raise _ _ _).post _

theorem Only.unrecognize {bs : List Block} {d e : Device} (h : Only bs d e) (s : StringId) (w : Reason)
    (hb : ∀ b ∈ ([.handoffs, .slc] : List Block), b ∈ bs := by decide) : Only bs d (e.unrecognize s w) := h.trans ((unrecognize_only e s w).mono hb)

theorem enterPresent_only (d : Device) (s : StringId) (n : Nat) : Only [.handoffs, .slc] d (d.enterPresent s n) := by
  exact (((((Only.refl _ d).modMonitor _ _).leaveList _).raise _ _ _).post _).postIf _ _

theorem Only.enterPresent {bs : List Block} {d e : Device} (h : Only bs d e) (s : StringId) (n : Nat)
    (hb : ∀ b ∈ ([.handoffs, .slc] : List Block), b ∈ bs := by decide) : Only bs d (e.enterPresent s n) := h.trans ((enterPresent_only e s n).mono hb)

theorem acceptIdentity_only (d : Device) (s : StringId) (i : Identity) : Only [.handoffs, .slc] d (d.acceptIdentity s i) := by
  refine (Only.refl _ d).when _ _ fun x h => ?_
  have k := h.modMonitor s (fun m => { m with identity := some i, identityTimer := none })
  dsimp only
  split
  · exact k.enterPresent _ _
  · exact k.unrecognize _ _

theorem Only.acceptIdentity {bs : List Block} {d e : Device} (h : Only bs d e) (s : StringId) (i : Identity)
    (hb : ∀ b ∈ ([.handoffs, .slc] : List Block), b ∈ bs := by decide) : Only bs d (e.acceptIdentity s i) := h.trans ((acceptIdentity_only e s i).mono hb)

theorem expectationRewritten_only (d : Device) (s : StringId) : Only [.handoffs, .slc] d (d.expectationRewritten s) := by
  unfold Device.expectationRewritten
  dsimp only
  split
  · exact .refl _ d
  · exact .refl _ d
  · exact .ite _ (.refl _ d) ((Only.refl _ d).unrecognize _ _)
  · exact (Only.refl _ d).modMonitor _ _

theorem Only.expectationRewritten {bs : List Block} {d e : Device} (h : Only bs d e) (s : StringId)
    (hb : ∀ b ∈ ([.handoffs, .slc] : List Block), b ∈ bs := by decide) : Only bs d (e.expectationRewritten s) := h.trans ((expectationRewritten_only e s).mono hb)

theorem identitySlot_only (d : Device)  : Only [.slc] d (d.identitySlot.1) := by
  unfold Device.identitySlot
  split
  · exact .refl _ d
  · rename_i s rest _
    refine Only.trans (e := { d with slc := { d.slc with identityList := rest } }) ?_ ((Only.refl _ _).modMonitor _ _)
    intro b hb; cases b <;> first | rfl | simp at hb

theorem Only.identitySlot {bs : List Block} {d e : Device} (h : Only bs d e) 
    (hb : ∀ b ∈ ([.slc] : List Block), b ∈ bs := by decide) : Only bs d (e.identitySlot.1) := h.trans ((identitySlot_only e ).mono hb)

/-- An answer changes at most what its taking does, and SLC. -/
theorem Only.answered {bs : List Block} {d e : Device} (h : Only bs d e) (x : Exchange) (f : Device → Device)
    (hf : ∀ y, Only bs d y → Only bs d (f y)) (hb : ∀ b ∈ ([.slc] : List Block), b ∈ bs := by decide) :
    Only bs d (e.answered x f) := by
  refine h.when _ _ fun y k => hf _ (k.trans (Only.mono ?_ hb))
  intro b hb; cases b <;> first | rfl | simp at hb

/-- R1: an answer whose exchange is not in progress changes nothing. -/
theorem answered_idle {d : Device} {x : Exchange} (h : x ∉ d.slc.awaiting) (f : Device → Device) : d.answered x f = d := by
  simp [Device.answered, Device.when, h]

/-- R1: an answer whose exchange is in progress is taken, and the exchange is over. -/
theorem answered_taken {d : Device} {x : Exchange} (h : x ∈ d.slc.awaiting) (f : Device → Device) :
    d.answered x f = f { d with slc := { d.slc with awaiting := d.slc.awaiting.erase x } } := by
  simp [Device.answered, Device.when, h]

/-! ## CSU -/

theorem raiseEdge_only (d : Device) (s : StringId) (k : Channel) (x : Bool) (y : Bool) : Only [.handoffs] d (d.raiseEdge s k x y) := by
  unfold Device.raiseEdge; exact .ite _ (.refl _ d) ((Only.refl _ d).raise _ _ _)

theorem Only.raiseEdge {bs : List Block} {d e : Device} (h : Only bs d e) (s : StringId) (k : Channel) (x : Bool) (y : Bool)
    (hb : ∀ b ∈ ([.handoffs] : List Block), b ∈ bs := by decide) : Only bs d (e.raiseEdge s k x y) := h.trans ((raiseEdge_only e s k x y).mono hb)

theorem evaluateChannel_only (d : Device) (s : StringId) (f : Bool) (k : Channel) : Only [.handoffs, .csu] d (d.evaluateChannel s f k) := by
  exact (((Only.refl _ d).modChannel _ _ _).raiseEdge _ _ _ _).raiseEdge _ _ _ _

theorem Only.evaluateChannel {bs : List Block} {d e : Device} (h : Only bs d e) (s : StringId) (f : Bool) (k : Channel)
    (hb : ∀ b ∈ ([.handoffs, .csu] : List Block), b ∈ bs := by decide) : Only bs d (e.evaluateChannel s f k) := h.trans ((evaluateChannel_only e s f k).mono hb)

theorem addCause_only (d : Device) (s : StringId) (c : Cause) : Only [.handoffs, .csu] d (d.addCause s c) := by
  exact (Only.refl _ d).when _ _ fun x h => ((h.modSup _ _).raise _ _ _).post _

theorem Only.addCause {bs : List Block} {d e : Device} (h : Only bs d e) (s : StringId) (c : Cause)
    (hb : ∀ b ∈ ([.handoffs, .csu] : List Block), b ∈ bs := by decide) : Only bs d (e.addCause s c) := h.trans ((addCause_only e s c).mono hb)

theorem hardHit_only (d : Device) (s : StringId) (c : HardCheck) : Only [.handoffs, .csu] d (d.hardHit s c) := by
  exact (((Only.refl _ d).modChannel _ _ _).raiseEdge _ _ _ _).addCause _ _

theorem Only.hardHit {bs : List Block} {d e : Device} (h : Only bs d e) (s : StringId) (c : HardCheck)
    (hb : ∀ b ∈ ([.handoffs, .csu] : List Block), b ∈ bs := by decide) : Only bs d (e.hardHit s c) := h.trans ((hardHit_only e s c).mono hb)

theorem applyHard_only (d : Device) (s : StringId) (r : ScanRecord) : Only [.handoffs, .csu] d (d.applyHard s r) := by
  exact (Only.refl _ d).each _ _ fun a x h => h.when _ _ fun y k => k.hardHit _ _

theorem Only.applyHard {bs : List Block} {d e : Device} (h : Only bs d e) (s : StringId) (r : ScanRecord)
    (hb : ∀ b ∈ ([.handoffs, .csu] : List Block), b ∈ bs := by decide) : Only bs d (e.applyHard s r) := h.trans ((applyHard_only e s r).mono hb)

theorem deriveHealth_only (d : Device) (s : StringId) : Only [.handoffs, .csu] d (d.deriveHealth s) := by
  unfold Device.deriveHealth; exact .ite _ (.refl _ d) ((((Only.refl _ d).modSup _ _).post _).post _)

theorem Only.deriveHealth {bs : List Block} {d e : Device} (h : Only bs d e) (s : StringId)
    (hb : ∀ b ∈ ([.handoffs, .csu] : List Block), b ∈ bs := by decide) : Only bs d (e.deriveHealth s) := h.trans ((deriveHealth_only e s).mono hb)

theorem deriveHealthAlone_only (d : Device) (s : StringId) : Only [.handoffs, .csu] d (d.deriveHealthAlone s) := by
  exact ((Only.refl _ d).deriveHealth _).postIf _ _

theorem Only.deriveHealthAlone {bs : List Block} {d e : Device} (h : Only bs d e) (s : StringId)
    (hb : ∀ b ∈ ([.handoffs, .csu] : List Block), b ∈ bs := by decide) : Only bs d (e.deriveHealthAlone s) := h.trans ((deriveHealthAlone_only e s).mono hb)

theorem endEvaluation_only (d : Device) (s : StringId) (c : Option EnvCopy) : Only [.handoffs, .csu] d (d.endEvaluation s c) := by
  exact ((Only.refl _ d).deriveHealth _).post _

theorem Only.endEvaluation {bs : List Block} {d e : Device} (h : Only bs d e) (s : StringId) (c : Option EnvCopy)
    (hb : ∀ b ∈ ([.handoffs, .csu] : List Block), b ∈ bs := by decide) : Only bs d (e.endEvaluation s c) := h.trans ((endEvaluation_only e s c).mono hb)

theorem evaluateFull_only (d : Device) (s : StringId) (r : ScanRecord) (g : Bool) : Only [.handoffs, .csu] d (d.evaluateFull s r g) := by
  refine Only.endEvaluation (Only.modSup (Only.each (((Only.refl _ d)).applyHard _ _) _ _ ?_) _ _) _ _
  exact fun a x h => h.evaluateChannel _ _ _

theorem Only.evaluateFull {bs : List Block} {d e : Device} (h : Only bs d e) (s : StringId) (r : ScanRecord) (g : Bool)
    (hb : ∀ b ∈ ([.handoffs, .csu] : List Block), b ∈ bs := by decide) : Only bs d (e.evaluateFull s r g) := h.trans ((evaluateFull_only e s r g).mono hb)

theorem evaluateHard_only (d : Device) (s : StringId) (r : ScanRecord) : Only [.handoffs, .csu] d (d.evaluateHard s r) := by
  exact ((Only.refl _ d).applyHard _ _).endEvaluation _ _

theorem Only.evaluateHard {bs : List Block} {d e : Device} (h : Only bs d e) (s : StringId) (r : ScanRecord)
    (hb : ∀ b ∈ ([.handoffs, .csu] : List Block), b ∈ bs := by decide) : Only bs d (e.evaluateHard s r) := h.trans ((evaluateHard_only e s r).mono hb)

theorem evaluateStale_only (d : Device) (s : StringId) : Only [.handoffs, .csu] d (d.evaluateStale s) := by
  exact (((Only.refl _ d).evaluateChannel _ _ _).modSup _ _).endEvaluation _ _

theorem Only.evaluateStale {bs : List Block} {d e : Device} (h : Only bs d e) (s : StringId)
    (hb : ∀ b ∈ ([.handoffs, .csu] : List Block), b ∈ bs := by decide) : Only bs d (e.evaluateStale s) := h.trans ((evaluateStale_only e s).mono hb)

theorem releaseLockout_only (d : Device) (s : StringId) : Only [.handoffs, .csu] d (d.releaseLockout s) := by
  refine Only.deriveHealthAlone (Only.each (((Only.refl _ d).modSup _ _).post _) _ _ ?_) _
  exact fun a x h => h.modChannel _ _ _

theorem Only.releaseLockout {bs : List Block} {d e : Device} (h : Only bs d e) (s : StringId)
    (hb : ∀ b ∈ ([.handoffs, .csu] : List Block), b ∈ bs := by decide) : Only bs d (e.releaseLockout s) := h.trans ((releaseLockout_only e s).mono hb)

/-! ## DU -/

theorem duOrder_only (d : Device)  : Only [.du] d (d.duOrder) := by
  unfold Device.duOrder; exact .ite _ ((Only.refl _ d).modDu _) ((Only.refl _ d).modDu _)

theorem Only.duOrder {bs : List Block} {d e : Device} (h : Only bs d e) 
    (hb : ∀ b ∈ ([.du] : List Block), b ∈ bs := by decide) : Only bs d (e.duOrder) := h.trans ((duOrder_only e ).mono hb)

theorem duRefresh_only (d : Device)  : Only [.du] d (d.duRefresh) := by
  exact (Only.refl _ d).modDu _

theorem Only.duRefresh {bs : List Block} {d e : Device} (h : Only bs d e) 
    (hb : ∀ b ∈ ([.du] : List Block), b ∈ bs := by decide) : Only bs d (e.duRefresh) := h.trans ((duRefresh_only e ).mono hb)

theorem duEnvelopeEvent_only (d : Device)  : Only [.handoffs, .du] d (d.duEnvelopeEvent) := by
  unfold Device.duEnvelopeEvent
  exact (Only.ite _ (((Only.refl _ d).modDu _).raise _ _ _) (.ite _ (((Only.refl _ d).modDu _).raise _ _ _) (.refl _ d))).duRefresh

theorem Only.duEnvelopeEvent {bs : List Block} {d e : Device} (h : Only bs d e) 
    (hb : ∀ b ∈ ([.handoffs, .du] : List Block), b ∈ bs := by decide) : Only bs d (e.duEnvelopeEvent) := h.trans ((duEnvelopeEvent_only e ).mono hb)

theorem duBreakerChanged_only (d : Device)  : Only [.du] d (d.duBreakerChanged) := by
  unfold Device.duBreakerChanged; exact (Only.ite _ ((Only.refl _ d).modDu _) ((Only.refl _ d).modDu _)).duRefresh

theorem Only.duBreakerChanged {bs : List Block} {d e : Device} (h : Only bs d e) 
    (hb : ∀ b ∈ ([.du] : List Block), b ∈ bs := by decide) : Only bs d (e.duBreakerChanged) := h.trans ((duBreakerChanged_only e ).mono hb)

theorem duJudge_only (d : Device)  : Only [.du] d (d.duJudge) := by
  unfold Device.duJudge; exact .ite _ ((Only.refl _ d).modDu _) ((Only.refl _ d).modDu _)

theorem Only.duJudge {bs : List Block} {d e : Device} (h : Only bs d e) 
    (hb : ∀ b ∈ ([.du] : List Block), b ∈ bs := by decide) : Only bs d (e.duJudge) := h.trans ((duJudge_only e ).mono hb)

theorem duReport_only (d : Device) (v : Int) : Only [.du] d (d.duReport v) := by
  exact ((((Only.refl _ d).modDu _).duRefresh).modDu _).when _ _ fun x h => h.duJudge

theorem Only.duReport {bs : List Block} {d e : Device} (h : Only bs d e) (v : Int)
    (hb : ∀ b ∈ ([.du] : List Block), b ∈ bs := by decide) : Only bs d (e.duReport v) := h.trans ((duReport_only e v).mono hb)

/-! ## ENV -/

theorem envForm_only (d : Device)  : Only [.env] d (d.envForm) := by
  exact (Only.refl _ d).modEnv _

theorem Only.envForm {bs : List Block} {d e : Device} (h : Only bs d e) 
    (hb : ∀ b ∈ ([.env] : List Block), b ∈ bs := by decide) : Only bs d (e.envForm) := h.trans ((envForm_only e ).mono hb)

theorem envRecompute_only (d : Device)  : Only [.handoffs, .env, .du] d (d.envRecompute) := by
  exact ((((Only.refl _ d).envForm).when _ _ fun x h => h.modEnv _).when _ _ fun x h => h.raise _ _ _).when _ _ fun x h => h.duEnvelopeEvent

theorem Only.envRecompute {bs : List Block} {d e : Device} (h : Only bs d e) 
    (hb : ∀ b ∈ ([.handoffs, .env, .du] : List Block), b ∈ bs := by decide) : Only bs d (e.envRecompute) := h.trans ((envRecompute_only e ).mono hb)

theorem clearGenerationFlag_only (d : Device) (p : Port) : Only [.env] d (d.clearGenerationFlag p) := by
  exact (Only.refl _ d).modEnv _

theorem Only.clearGenerationFlag {bs : List Block} {d e : Device} (h : Only bs d e) (p : Port)
    (hb : ∀ b ∈ ([.env] : List Block), b ∈ bs := by decide) : Only bs d (e.clearGenerationFlag p) := h.trans ((clearGenerationFlag_only e p).mono hb)

/-! ## SWC -/

theorem deriveInhibits_only (d : Device)  : Only [.swc] d (d.deriveInhibits) := by
  exact (Only.refl _ d).modSwc _

theorem Only.deriveInhibits {bs : List Block} {d e : Device} (h : Only bs d e) 
    (hb : ∀ b ∈ ([.swc] : List Block), b ∈ bs := by decide) : Only bs d (e.deriveInhibits) := h.trans ((deriveInhibits_only e ).mono hb)

theorem reportString_only (d : Device) (s : StringId) : Only [.handoffs] d (d.reportString s) := by
  exact (Only.refl _ d).post _

theorem Only.reportString {bs : List Block} {d e : Device} (h : Only bs d e) (s : StringId)
    (hb : ∀ b ∈ ([.handoffs] : List Block), b ∈ bs := by decide) : Only bs d (e.reportString s) := h.trans ((reportString_only e s).mono hb)

theorem reportState_only (d : Device) (n : SwitchId) : Only [.handoffs, .du] d (d.reportState n) := by
  unfold Device.reportState
  split
  · exact ((Only.refl _ d).reportString _).post _
  · exact (((Only.refl _ d).post _).post _).duBreakerChanged

theorem Only.reportState {bs : List Block} {d e : Device} (h : Only bs d e) (n : SwitchId)
    (hb : ∀ b ∈ ([.handoffs, .du] : List Block), b ∈ bs := by decide) : Only bs d (e.reportState n) := h.trans ((reportState_only e n).mono hb)

theorem changeState_only (d : Device) (n : SwitchId) (st : SwitchState) (t : Option Nat) : Only [.handoffs, .swc, .du] d (d.changeState n st t) := by
  exact (((Only.refl _ d).modSw _ _).when _ _ fun x h => h.modSwc _).reportState _

theorem Only.changeState {bs : List Block} {d e : Device} (h : Only bs d e) (n : SwitchId) (st : SwitchState) (t : Option Nat)
    (hb : ∀ b ∈ ([.handoffs, .swc, .du] : List Block), b ∈ bs := by decide) : Only bs d (e.changeState n st t) := h.trans ((changeState_only e n st t).mono hb)

theorem setResult_only (d : Device) (n : SwitchId) (r : LastResult) : Only [.swc] d (d.setResult n r) := by
  exact (Only.refl _ d).modSw _ _

theorem Only.setResult {bs : List Block} {d e : Device} (h : Only bs d e) (n : SwitchId) (r : LastResult)
    (hb : ∀ b ∈ ([.swc] : List Block), b ∈ bs := by decide) : Only bs d (e.setResult n r) := h.trans ((setResult_only e n r).mono hb)

theorem failOpen_only (d : Device) (n : SwitchId) (k : Nat) : Only [.handoffs, .swc, .du] d (d.failOpen n k) := by
  exact (((Only.refl _ d).changeState _ _ _).modSw _ _).raise _ _ _

theorem Only.failOpen {bs : List Block} {d e : Device} (h : Only bs d e) (n : SwitchId) (k : Nat)
    (hb : ∀ b ∈ ([.handoffs, .swc, .du] : List Block), b ∈ bs := by decide) : Only bs d (e.failOpen n k) := h.trans ((failOpen_only e n k).mono hb)

theorem finishOpen_only (d : Device) (n : SwitchId) : Only [.handoffs, .swc, .du] d (d.finishOpen n) := by
  exact (((Only.refl _ d).changeState _ _ _).modSw _ _).raise _ _ _

theorem Only.finishOpen {bs : List Block} {d e : Device} (h : Only bs d e) (n : SwitchId)
    (hb : ∀ b ∈ ([.handoffs, .swc, .du] : List Block), b ∈ bs := by decide) : Only bs d (e.finishOpen n) := h.trans ((finishOpen_only e n).mono hb)

theorem enterOpening_only (d : Device) (n : SwitchId) : Only [.handoffs, .swc, .du] d (d.enterOpening n) := by
  unfold Device.enterOpening; exact .ite _ ((Only.refl _ d).changeState _ _ _) ((Only.refl _ d).finishOpen _)

theorem Only.enterOpening {bs : List Block} {d e : Device} (h : Only bs d e) (n : SwitchId)
    (hb : ∀ b ∈ ([.handoffs, .swc, .du] : List Block), b ∈ bs := by decide) : Only bs d (e.enterOpening n) := h.trans ((enterOpening_only e n).mono hb)

theorem weld_only (d : Device) (n : SwitchId) : Only [.handoffs, .swc, .du] d (d.weld n) := by
  have k := ((Only.refl _ d) : Only [.handoffs, .swc, .du] d d).changeState n .welded none |>.setResult n .failed |>.raise .switchFailed (.switch n) (some 3)
  unfold Device.weld
  split
  · exact k.post _
  · exact k.modSw _ _

theorem Only.weld {bs : List Block} {d e : Device} (h : Only bs d e) (n : SwitchId)
    (hb : ∀ b ∈ ([.handoffs, .swc, .du] : List Block), b ∈ bs := by decide) : Only bs d (e.weld n) := h.trans ((weld_only e n).mono hb)

theorem dropSelection_only (d : Device) (n : SwitchId) : Only [.swc] d (d.dropSelection n) := by
  exact (Only.refl _ d).modSw _ _

theorem Only.dropSelection {bs : List Block} {d e : Device} (h : Only bs d e) (n : SwitchId)
    (hb : ∀ b ∈ ([.swc] : List Block), b ∈ bs := by decide) : Only bs d (e.dropSelection n) := h.trans ((dropSelection_only e n).mono hb)

theorem forceOpen_only (d : Device) (n : SwitchId) : Only [.handoffs, .swc, .du] d (d.forceOpen n) := by
  unfold Device.forceOpen
  split
  · exact (Only.refl _ d).enterOpening _
  · exact ((Only.refl _ d).setResult _ _).enterOpening _
  · exact ((Only.refl _ d).setResult _ _).enterOpening _
  all_goals exact (Only.refl _ d).dropSelection _

theorem Only.forceOpen {bs : List Block} {d e : Device} (h : Only bs d e) (n : SwitchId)
    (hb : ∀ b ∈ ([.handoffs, .swc, .du] : List Block), b ∈ bs := by decide) : Only bs d (e.forceOpen n) := h.trans ((forceOpen_only e n).mono hb)

theorem isolationStep_only (d : Device)  : Only [.handoffs, .swc, .du] d (d.isolationStep) := by
  refine (Only.refl _ d).when _ _ fun x h => ?_
  refine Only.when ?_ _ _ fun y k => k.modSwc _
  exact h.when _ _ fun y k => k.each _ _ fun a z m => m.when _ _ fun w q => q.forceOpen _

theorem Only.isolationStep {bs : List Block} {d e : Device} (h : Only bs d e) 
    (hb : ∀ b ∈ ([.handoffs, .swc, .du] : List Block), b ∈ bs := by decide) : Only bs d (e.isolationStep) := h.trans ((isolationStep_only e ).mono hb)

theorem swcEnd_only (d : Device)  : Only [.handoffs, .swc, .du] d (d.swcEnd) := by
  exact ((Only.refl _ d).isolationStep).deriveInhibits

theorem Only.swcEnd {bs : List Block} {d e : Device} (h : Only bs d e) 
    (hb : ∀ b ∈ ([.handoffs, .swc, .du] : List Block), b ∈ bs := by decide) : Only bs d (e.swcEnd) := h.trans ((swcEnd_only e ).mono hb)

theorem isolationStart_only (d : Device)  : Only [.handoffs, .swc, .du] d (d.isolationStart) := by
  refine Only.swcEnd (Only.when ?_ _ _ fun y k => k.modSwc _)
  exact ((Only.refl _ d).modSwc _).each _ _ fun a x h => h.when _ _ fun y k => k.forceOpen _

theorem Only.isolationStart {bs : List Block} {d e : Device} (h : Only bs d e) 
    (hb : ∀ b ∈ ([.handoffs, .swc, .du] : List Block), b ∈ bs := by decide) : Only bs d (e.isolationStart) := h.trans ((isolationStart_only e ).mono hb)

theorem judgeMatch_only (d : Device) (s : StringId) : Only [.handoffs, .swc, .du] d (d.judgeMatch s) := by
  exact (Only.refl _ d).when _ _ fun x h => h.changeState _ _ _

theorem Only.judgeMatch {bs : List Block} {d e : Device} (h : Only bs d e) (s : StringId)
    (hb : ∀ b ∈ ([.handoffs, .swc, .du] : List Block), b ∈ bs := by decide) : Only bs d (e.judgeMatch s) := h.trans ((judgeMatch_only e s).mono hb)

theorem softTrip_only (d : Device) (s : StringId) (y : Health) : Only [.handoffs, .swc, .du] d (d.softTrip s y) := by
  unfold Device.softTrip
  dsimp only
  split
  · exact (Only.refl _ d).when _ _ fun x k => (k.modSw _ _).reportString _
  · exact ((Only.refl _ d).when _ _ fun x k => k.modSw _ _).forceOpen _
  · exact ((Only.refl _ d).when _ _ fun x k => k.modSw _ _).forceOpen _
  all_goals exact .refl _ d

theorem Only.softTrip {bs : List Block} {d e : Device} (h : Only bs d e) (s : StringId) (y : Health)
    (hb : ∀ b ∈ ([.handoffs, .swc, .du] : List Block), b ∈ bs := by decide) : Only bs d (e.softTrip s y) := h.trans ((softTrip_only e s y).mono hb)

theorem swcStandingChanged_only (d : Device) (p : Port) : Only [.handoffs, .swc, .du] d (d.swcStandingChanged p) := by
  refine Only.swcEnd (Only.when (Only.refl _ d) _ _ fun x h => ?_)
  exact h.each _ _ fun a y k => k.when _ _ fun z m => m.dropSelection _

theorem Only.swcStandingChanged {bs : List Block} {d e : Device} (h : Only bs d e) (p : Port)
    (hb : ∀ b ∈ ([.handoffs, .swc, .du] : List Block), b ∈ bs := by decide) : Only bs d (e.swcStandingChanged p) := h.trans ((swcStandingChanged_only e p).mono hb)

theorem startOperation_only (d : Device) (n : SwitchId) (a : Action) : Only [.handoffs, .swc, .du] d (d.startOperation n a) := by
  unfold Device.startOperation
  split
  · split <;> exact ((Only.refl _ d).modSw _ _).changeState _ _ _
  · exact (Only.refl _ d).enterOpening _

theorem Only.startOperation {bs : List Block} {d e : Device} (h : Only bs d e) (n : SwitchId) (a : Action)
    (hb : ∀ b ∈ ([.handoffs, .swc, .du] : List Block), b ∈ bs := by decide) : Only bs d (e.startOperation n a) := h.trans ((startOperation_only e n a).mono hb)

theorem dropSelections_only (d : Device) (p : Port) : Only [.swc] d (d.dropSelections p) := by
  exact (Only.refl _ d).each _ _ fun a x h => h.when _ _ fun y k => k.dropSelection _

theorem Only.dropSelections {bs : List Block} {d e : Device} (h : Only bs d e) (p : Port)
    (hb : ∀ b ∈ ([.swc] : List Block), b ∈ bs := by decide) : Only bs d (e.dropSelections p) := h.trans ((dropSelections_only e p).mono hb)

/-! ## GWM -/

theorem setWindow_only (d : Device) (w : WindowState) : Only [.handoffs, .gwm] d (d.setWindow w) := by
  exact (((Only.refl _ d).modGwm _).post _).post _

theorem Only.setWindow {bs : List Block} {d e : Device} (h : Only bs d e) (w : WindowState)
    (hb : ∀ b ∈ ([.handoffs, .gwm] : List Block), b ∈ bs := by decide) : Only bs d (e.setWindow w) := h.trans ((setWindow_only e w).mono hb)

theorem fullHoldOff_only (d : Device) (r : Bool) : Only [.gwm] d (d.fullHoldOff r) := by
  exact (Only.refl _ d).modGwm _

theorem Only.fullHoldOff {bs : List Block} {d e : Device} (h : Only bs d e) (r : Bool)
    (hb : ∀ b ∈ ([.gwm] : List Block), b ∈ bs := by decide) : Only bs d (e.fullHoldOff r) := h.trans ((fullHoldOff_only e r).mono hb)

theorem stopGridTimers_only (d : Device)  : Only [.gwm] d (d.stopGridTimers) := by
  exact (Only.refl _ d).modGwm _

theorem Only.stopGridTimers {bs : List Block} {d e : Device} (h : Only bs d e) 
    (hb : ∀ b ∈ ([.gwm] : List Block), b ∈ bs := by decide) : Only bs d (e.stopGridTimers) := h.trans ((stopGridTimers_only e ).mono hb)

theorem enterHoldOff_only (d : Device)  : Only [.handoffs, .gwm] d (d.enterHoldOff) := by
  exact (((Only.refl _ d).stopGridTimers).fullHoldOff _).setWindow _

theorem Only.enterHoldOff {bs : List Block} {d e : Device} (h : Only bs d e) 
    (hb : ∀ b ∈ ([.handoffs, .gwm] : List Block), b ∈ bs := by decide) : Only bs d (e.enterHoldOff) := h.trans ((enterHoldOff_only e ).mono hb)

theorem losePermission_only (d : Device)  : Only [.handoffs, .gwm] d (d.losePermission) := by
  exact (((Only.refl _ d).fullHoldOff _).setWindow _).postIf _ _

theorem Only.losePermission {bs : List Block} {d e : Device} (h : Only bs d e) 
    (hb : ∀ b ∈ ([.handoffs, .gwm] : List Block), b ∈ bs := by decide) : Only bs d (e.losePermission) := h.trans ((losePermission_only e ).mono hb)

theorem gridTrip_only (d : Device) (k : Nat) : Only [.handoffs, .gwm] d (d.gridTrip k) := by
  exact ((((Only.refl _ d).stopGridTimers).raise _ _ _).post _).setWindow _

theorem Only.gridTrip {bs : List Block} {d e : Device} (h : Only bs d e) (k : Nat)
    (hb : ∀ b ∈ ([.handoffs, .gwm] : List Block), b ∈ bs := by decide) : Only bs d (e.gridTrip k) := h.trans ((gridTrip_only e k).mono hb)

theorem rideRecord_only (d : Device) (c : GridClass) : Only [.handoffs, .gwm] d (d.rideRecord c) := by
  unfold Device.rideRecord; exact .ite _ ((Only.refl _ d).gridTrip _) ((Only.refl _ d).modGwm _)

theorem Only.rideRecord {bs : List Block} {d e : Device} (h : Only bs d e) (c : GridClass)
    (hb : ∀ b ∈ ([.handoffs, .gwm] : List Block), b ∈ bs := by decide) : Only bs d (e.rideRecord c) := h.trans ((rideRecord_only e c).mono hb)

theorem windowRecord_only (d : Device) (c : GridClass) : Only [.handoffs, .gwm] d (d.windowRecord c) := by
  unfold Device.windowRecord
  split
  · exact .ite _ ((Only.refl _ d).modGwm _) ((Only.refl _ d).fullHoldOff _)
  · exact .ite _ (.refl _ d) ((Only.refl _ d).losePermission)
  · exact .ite _ (.refl _ d) (.ite _ ((Only.refl _ d).gridTrip _) ((((Only.refl _ d).stopGridTimers).setWindow _).rideRecord _))
  · exact .ite _ (((Only.refl _ d).stopGridTimers).setWindow _) (.ite _ ((Only.refl _ d).gridTrip _) ((Only.refl _ d).rideRecord _))
  · exact .refl _ d

theorem Only.windowRecord {bs : List Block} {d e : Device} (h : Only bs d e) (c : GridClass)
    (hb : ∀ b ∈ ([.handoffs, .gwm] : List Block), b ∈ bs := by decide) : Only bs d (e.windowRecord c) := h.trans ((windowRecord_only e c).mono hb)

theorem staleDelay_only (d : Device)  : Only [.gwm] d (d.staleDelay) := by
  exact (Only.refl _ d).modGwm _

theorem Only.staleDelay {bs : List Block} {d e : Device} (h : Only bs d e) 
    (hb : ∀ b ∈ ([.gwm] : List Block), b ∈ bs := by decide) : Only bs d (e.staleDelay) := h.trans ((staleDelay_only e ).mono hb)

/-! ## CLC -/

theorem stopStage_only (d : Device) (c : Stage) : Only [.handoffs, .clc] d (d.stopStage c) := by
  exact (Only.refl _ d).when _ _ fun x h => (h.modStage _ _).raise _ _ _

theorem Only.stopStage {bs : List Block} {d e : Device} (h : Only bs d e) (c : Stage)
    (hb : ∀ b ∈ ([.handoffs, .clc] : List Block), b ∈ bs := by decide) : Only bs d (e.stopStage c) := h.trans ((stopStage_only e c).mono hb)

theorem stopStages_only (d : Device)  : Only [.handoffs, .clc] d (d.stopStages) := by
  exact (Only.refl _ d).each _ _ fun a x h => h.stopStage _

theorem Only.stopStages {bs : List Block} {d e : Device} (h : Only bs d e) 
    (hb : ∀ b ∈ ([.handoffs, .clc] : List Block), b ∈ bs := by decide) : Only bs d (e.stopStages) := h.trans ((stopStages_only e ).mono hb)

theorem startStage_only (d : Device) (c : Stage) : Only [.handoffs, .clc] d (d.startStage c) := by
  exact (((Only.refl _ d).modStage _ _).modClc _).raise _ _ _

theorem Only.startStage {bs : List Block} {d e : Device} (h : Only bs d e) (c : Stage)
    (hb : ∀ b ∈ ([.handoffs, .clc] : List Block), b ∈ bs := by decide) : Only bs d (e.startStage c) := h.trans ((startStage_only e c).mono hb)

theorem runStages_only (d : Device)  : Only [.handoffs, .clc] d (d.runStages) := by
  unfold Device.runStages
  have k : Only [.handoffs, .clc] d (d.each Stage.all fun c d' => d'.when (!(d.clc.available.take d.clc.demanded).contains c && decide (120000 ≤ (d'.stage c).since)) (·.stopStage c)) :=
    (Only.refl _ d).each _ _ fun a x h => h.when _ _ fun y m => m.stopStage _
  dsimp only
  split
  · exact k.when _ _ fun x h => h.startStage _
  · exact k

theorem Only.runStages {bs : List Block} {d e : Device} (h : Only bs d e) 
    (hb : ∀ b ∈ ([.handoffs, .clc] : List Block), b ∈ bs := by decide) : Only bs d (e.runStages) := h.trans ((runStages_only e ).mono hb)

theorem formThermal_only (d : Device)  : Only [.handoffs, .clc] d (d.formThermal) := by
  exact ((Only.refl _ d).modClc _).postIf _ _

theorem Only.formThermal {bs : List Block} {d e : Device} (h : Only bs d e) 
    (hb : ∀ b ∈ ([.handoffs, .clc] : List Block), b ∈ bs := by decide) : Only bs d (e.formThermal) := h.trans ((formThermal_only e ).mono hb)

theorem setHold_only (d : Device) (t : Int) : Only [.handoffs, .clc] d (d.setHold t) := by
  exact ((Only.refl _ d).modClc _).postIf _ _

theorem Only.setHold {bs : List Block} {d e : Device} (h : Only bs d e) (t : Int)
    (hb : ∀ b ∈ ([.handoffs, .clc] : List Block), b ∈ bs := by decide) : Only bs d (e.setHold t) := h.trans ((setHold_only e t).mono hb)

theorem startFlow_only (d : Device)  : Only [.clc] d (d.startFlow) := by
  unfold Device.startFlow; exact .ite _ ((Only.refl _ d).modClc _) ((Only.refl _ d).modClc _)

theorem Only.startFlow {bs : List Block} {d e : Device} (h : Only bs d e) 
    (hb : ∀ b ∈ ([.clc] : List Block), b ∈ bs := by decide) : Only bs d (e.startFlow) := h.trans ((startFlow_only e ).mono hb)

theorem tryFlow_only (d : Device)  : Only [.clc] d (d.tryFlow) := by
  exact (Only.refl _ d).modClc _

theorem Only.tryFlow {bs : List Block} {d e : Device} (h : Only bs d e) 
    (hb : ∀ b ∈ ([.clc] : List Block), b ∈ bs := by decide) : Only bs d (e.tryFlow) := h.trans ((tryFlow_only e ).mono hb)

theorem waitFlow_only (d : Device)  : Only [.clc] d (d.waitFlow) := by
  exact (Only.refl _ d).modClc _

theorem Only.waitFlow {bs : List Block} {d e : Device} (h : Only bs d e) 
    (hb : ∀ b ∈ ([.clc] : List Block), b ∈ bs := by decide) : Only bs d (e.waitFlow) := h.trans ((waitFlow_only e ).mono hb)

theorem formPump_only (d : Device)  : Only [.handoffs, .clc] d (d.formPump) := by
  unfold Device.formPump
  refine .ite _ (.ite _ ((Only.refl _ d).when _ _ fun x h => h.tryFlow) ((Only.refl _ d).modClc _)) (.ite _ ((Only.refl _ d).when _ _ fun x h => h.startFlow) ?_)
  exact (Only.refl _ d).when _ _ fun x h => (h.modClc _).stopStages

theorem Only.formPump {bs : List Block} {d e : Device} (h : Only bs d e) 
    (hb : ∀ b ∈ ([.handoffs, .clc] : List Block), b ∈ bs := by decide) : Only bs d (e.formPump) := h.trans ((formPump_only e ).mono hb)

theorem deriveOutputs_only (d : Device)  : Only [.clc] d (d.deriveOutputs) := by
  exact (Only.refl _ d).modClc _

theorem Only.deriveOutputs {bs : List Block} {d e : Device} (h : Only bs d e) 
    (hb : ∀ b ∈ ([.clc] : List Block), b ∈ bs := by decide) : Only bs d (e.deriveOutputs) := h.trans ((deriveOutputs_only e ).mono hb)

theorem sampleBlind_only (d : Device)  : Only [.handoffs, .clc] d (d.sampleBlind) := by
  exact (Only.refl _ d).when _ _ fun x h => ((h.modClc _).stopStages).raise _ _ _

theorem Only.sampleBlind {bs : List Block} {d e : Device} (h : Only bs d e) 
    (hb : ∀ b ∈ ([.handoffs, .clc] : List Block), b ∈ bs := by decide) : Only bs d (e.sampleBlind) := h.trans ((sampleBlind_only e ).mono hb)

theorem sampleValid_only (d : Device) (a : Int) (b : Int) : Only [.handoffs, .clc] d (d.sampleValid a b) := by
  exact ((((Only.refl _ d).modClc _).modClc _).modClc _).runStages

theorem Only.sampleValid {bs : List Block} {d e : Device} (h : Only bs d e) (a : Int) (b : Int)
    (hb : ∀ b ∈ ([.handoffs, .clc] : List Block), b ∈ bs := by decide) : Only bs d (e.sampleValid a b) := h.trans ((sampleValid_only e a b).mono hb)

theorem sampleInputs_only (d : Device) (a : Int) (b : Int) (c : Int) : Only [.pins, .clc] d (d.sampleInputs a b c) := by
  intro b hb; cases b <;> first | rfl | simp at hb

theorem Only.sampleInputs {bs : List Block} {d e : Device} (h : Only bs d e) (a : Int) (b : Int) (c : Int)
    (hb : ∀ b ∈ ([.pins, .clc] : List Block), b ∈ bs := by decide) : Only bs d (e.sampleInputs a b c) := h.trans ((sampleInputs_only e a b c).mono hb)

theorem flowFault_only (d : Device) (k : Nat) : Only [.handoffs, .clc] d (d.flowFault k) := by
  exact ((((((Only.refl _ d).modClc _).stopStages).waitFlow).raise _ _ _).formThermal).deriveOutputs

theorem Only.flowFault {bs : List Block} {d e : Device} (h : Only bs d e) (k : Nat)
    (hb : ∀ b ∈ ([.handoffs, .clc] : List Block), b ∈ bs := by decide) : Only bs d (e.flowFault k) := h.trans ((flowFault_only e k).mono hb)

theorem clearStage_only (d : Device) (c : Stage) : Only [.clc] d (d.clearStage c) := by
  exact (Only.refl _ d).when _ _ fun x h => h.modStage _ _

theorem Only.clearStage {bs : List Block} {d e : Device} (h : Only bs d e) (c : Stage)
    (hb : ∀ b ∈ ([.clc] : List Block), b ∈ bs := by decide) : Only bs d (e.clearStage c) := h.trans ((clearStage_only e c).mono hb)

theorem clearCooling_only (d : Device) (w : List Stage) (x : Bool) : Only [.handoffs, .clc] d (d.clearCooling w x) := by
  exact (((Only.refl _ d).each _ _ fun a x h => h.clearStage _).when _ _ fun x h => h.modClc _).when _ _ fun x h => h.formThermal

theorem Only.clearCooling {bs : List Block} {d e : Device} (h : Only bs d e) (w : List Stage) (x : Bool)
    (hb : ∀ b ∈ ([.handoffs, .clc] : List Block), b ∈ bs := by decide) : Only bs d (e.clearCooling w x) := h.trans ((clearCooling_only e w x).mono hb)

/-! ## FGU -/

theorem countdown_only (d : Device) (z : Zone) : Only [.fgu] d (d.countdown z) := by
  unfold Device.countdown; exact .ite _ ((Only.refl _ d).modZone _ _) ((Only.refl _ d).modZone _ _)

theorem Only.countdown {bs : List Block} {d e : Device} (h : Only bs d e) (z : Zone)
    (hb : ∀ b ∈ ([.fgu] : List Block), b ∈ bs := by decide) : Only bs d (e.countdown z) := h.trans ((countdown_only e z).mono hb)

theorem alarm_only (d : Device) (z : Zone) (k : Nat) : Only [.handoffs, .fgu] d (d.alarm z k) := by
  exact (((Only.refl _ d).modZone _ _).raise _ _ _).countdown _

theorem Only.alarm {bs : List Block} {d e : Device} (h : Only bs d e) (z : Zone) (k : Nat)
    (hb : ∀ b ∈ ([.handoffs, .fgu] : List Block), b ∈ bs := by decide) : Only bs d (e.alarm z k) := h.trans ((alarm_only e z k).mono hb)

theorem judgeZone_only (d : Device) (z : Zone) : Only [.handoffs, .fgu] d (d.judgeZone z) := by
  unfold Device.judgeZone
  split
  · refine .ite _ ((Only.refl _ d).alarm _ _) ?_
    split
    · exact ((Only.refl _ d).modZone _ _).raise _ _ _
    · exact (Only.refl _ d).modZone _ _
  · refine .ite _ ((Only.refl _ d).alarm _ _) ?_
    split
    · exact ((Only.refl _ d).modZone _ _).raise _ _ _
    · exact (Only.refl _ d).modZone _ _
  · exact (Only.refl _ d).when _ _ fun x h => h.alarm _ _
  all_goals exact .refl _ d

theorem Only.judgeZone {bs : List Block} {d e : Device} (h : Only bs d e) (z : Zone)
    (hb : ∀ b ∈ ([.handoffs, .fgu] : List Block), b ∈ bs := by decide) : Only bs d (e.judgeZone z) := h.trans ((judgeZone_only e z).mono hb)

theorem endTest_only (d : Device) (z : Zone) : Only [.handoffs, .fgu] d (d.endTest z) := by
  exact ((Only.refl _ d).modZone _ _).judgeZone _

theorem Only.endTest {bs : List Block} {d e : Device} (h : Only bs d e) (z : Zone)
    (hb : ∀ b ∈ ([.handoffs, .fgu] : List Block), b ∈ bs := by decide) : Only bs d (e.endTest z) := h.trans ((endTest_only e z).mono hb)

theorem fguEvent_only (d : Device) (f : Device → Device) (bs : List Block) (hf : Only bs d (f d)) (hh : .handoffs ∈ bs)
    (hg : .fgu ∈ bs) : Only bs d (d.fguEvent f) := by
  have hH : ∀ b ∈ ([.handoffs] : List Block), b ∈ bs := by simpa using hh
  have hG : ∀ b ∈ ([.fgu] : List Block), b ∈ bs := by simpa using hg
  exact Only.postIf (Only.when (hf.modFgu _ hG) _ _ fun x h => ((h.post _ hH).post _ hH).post _ hH) _ _ hH

theorem formFault_only (d : Device) (z : Zone) (l : Loop) (o : LoopState) : Only [.handoffs, .fgu] d (d.formFault z l o) := by
  exact ((Only.refl _ d).modZone _ _).when _ _ fun x h => h.raise _ _ _

theorem Only.formFault {bs : List Block} {d e : Device} (h : Only bs d e) (z : Zone) (l : Loop) (o : LoopState)
    (hb : ∀ b ∈ ([.handoffs, .fgu] : List Block), b ∈ bs := by decide) : Only bs d (e.formFault z l o) := h.trans ((formFault_only e z l o).mono hb)

theorem testLoop_only (d : Device) (z : Zone) (l : Loop) : Only [.handoffs, .fgu] d (d.testLoop z l) := by
  exact ((Only.refl _ d).modZone _ _).when _ _ fun x h => h.raise _ _ _

theorem Only.testLoop {bs : List Block} {d e : Device} (h : Only bs d e) (z : Zone) (l : Loop)
    (hb : ∀ b ∈ ([.handoffs, .fgu] : List Block), b ∈ bs := by decide) : Only bs d (e.testLoop z l) := h.trans ((testLoop_only e z l).mono hb)

theorem readGas_only (d : Device) (z : BatteryZone) (n : Nat) : Only [.pins, .fgu] d (d.readGas z n) := by
  intro b hb; cases b <;> first | rfl | simp at hb

theorem Only.readGas {bs : List Block} {d e : Device} (h : Only bs d e) (z : BatteryZone) (n : Nat)
    (hb : ∀ b ∈ ([.pins, .fgu] : List Block), b ∈ bs := by decide) : Only bs d (e.readGas z n) := h.trans ((readGas_only e z n).mono hb)

theorem testSample_only (d : Device) (z : Zone) : Only [.handoffs, .fgu] d (d.testSample z) := by
  unfold Device.testSample; exact .ite _ ((Only.refl _ d).alarm _ _) (((Only.refl _ d).modZone _ _).when _ _ fun x h => h.raise _ _ _)

theorem Only.testSample {bs : List Block} {d e : Device} (h : Only bs d e) (z : Zone)
    (hb : ∀ b ∈ ([.handoffs, .fgu] : List Block), b ∈ bs := by decide) : Only bs d (e.testSample z) := h.trans ((testSample_only e z).mono hb)

theorem callZone_only (d : Device) (z : Zone) : Only [.handoffs, .fgu] d (d.callZone z) := by
  unfold Device.callZone
  split
  · exact (Only.refl _ d).alarm _ _
  · exact (Only.refl _ d).alarm _ _
  · exact (Only.refl _ d).alarm _ _
  all_goals exact .refl _ d

theorem Only.callZone {bs : List Block} {d e : Device} (h : Only bs d e) (z : Zone)
    (hb : ∀ b ∈ ([.handoffs, .fgu] : List Block), b ∈ bs := by decide) : Only bs d (e.callZone z) := h.trans ((callZone_only e z).mono hb)

theorem holdZone_only (d : Device) (b : Bool) (z : Zone) : Only [.fgu] d (d.holdZone b z) := by
  unfold Device.holdZone
  split
  · exact (Only.refl _ d).countdown _
  · exact (Only.refl _ d).countdown _
  · exact .refl _ d

theorem Only.holdZone {bs : List Block} {d e : Device} (h : Only bs d e) (b : Bool) (z : Zone)
    (hb : ∀ b ∈ ([.fgu] : List Block), b ∈ bs := by decide) : Only bs d (e.holdZone b z) := h.trans ((holdZone_only e b z).mono hb)

/-! ## BAL -/

theorem endRun_only (d : Device) (k : Nat) : Only [.handoffs, .bal] d (d.endRun k) := by
  exact (((Only.refl _ d).modRun _).modBal _).raise _ _ _

theorem Only.endRun {bs : List Block} {d e : Device} (h : Only bs d e) (k : Nat)
    (hb : ∀ b ∈ ([.handoffs, .bal] : List Block), b ∈ bs := by decide) : Only bs d (e.endRun k) := h.trans ((endRun_only e k).mono hb)

theorem formBleed_only (d : Device) (v : List Int) : Only [.handoffs, .bal] d (d.formBleed v) := by
  unfold Device.formBleed; exact .ite _ (((Only.refl _ d).modRun _).endRun _) (((Only.refl _ d).modRun _).modBal _)

theorem Only.formBleed {bs : List Block} {d e : Device} (h : Only bs d e) (v : List Int)
    (hb : ∀ b ∈ ([.handoffs, .bal] : List Block), b ∈ bs := by decide) : Only bs d (e.formBleed v) := h.trans ((formBleed_only e v).mono hb)

theorem bleedStep_only (d : Device) (v : List Int) : Only [.handoffs, .bal] d (d.bleedStep v) := by
  unfold Device.bleedStep
  split
  · exact (Only.refl _ d).formBleed _
  · exact ((Only.refl _ d).modBal _).modRun _
  · exact (Only.refl _ d).when _ _ fun x h => h.formBleed _
  all_goals exact .refl _ d

theorem Only.bleedStep {bs : List Block} {d e : Device} (h : Only bs d e) (v : List Int)
    (hb : ∀ b ∈ ([.handoffs, .bal] : List Block), b ∈ bs := by decide) : Only bs d (e.bleedStep v) := h.trans ((bleedStep_only e v).mono hb)

theorem startRun_only (d : Device) (p : Port) (s : StringId) (a : Nat) (b : Nat) : Only [.bal] d (d.startRun p s a b) := by
  exact (Only.refl _ d).modBal _

theorem Only.startRun {bs : List Block} {d e : Device} (h : Only bs d e) (p : Port) (s : StringId) (a : Nat) (b : Nat)
    (hb : ∀ b ∈ ([.bal] : List Block), b ∈ bs := by decide) : Only bs d (e.startRun p s a b) := h.trans ((startRun_only e p s a b).mono hb)

/-! ## SDM -/

theorem setStanding_only (d : Device) (p : Port) (st : Standing) : Only [.handoffs, .du, .swc, .sdm] d (d.setStanding p st) := by
  refine (Only.refl _ d).when _ _ fun x h => ?_
  exact ((((((h.modPort _ _).raise _ _ _).swcStandingChanged _).when _ _ fun y k => k.duRefresh).post _).post _).postIf _ _

theorem Only.setStanding {bs : List Block} {d e : Device} (h : Only bs d e) (p : Port) (st : Standing)
    (hb : ∀ b ∈ ([.handoffs, .du, .swc, .sdm] : List Block), b ∈ bs := by decide) : Only bs d (e.setStanding p st) := h.trans ((setStanding_only e p st).mono hb)

theorem miss_only (d : Device) (p : Port) (k : MissKind) : Only [.handoffs, .du, .swc, .sdm] d (d.miss p k) := by
  exact ((Only.refl _ d).modPort _ _).setStanding _ _

theorem Only.miss {bs : List Block} {d e : Device} (h : Only bs d e) (p : Port) (k : MissKind)
    (hb : ∀ b ∈ ([.handoffs, .du, .swc, .sdm] : List Block), b ∈ bs := by decide) : Only bs d (e.miss p k) := h.trans ((miss_only e p k).mono hb)

theorem challenge_only (d : Device) (p : Port) : Only [.sdm] d (d.challenge p) := by
  exact (Only.refl _ d).modPort _ _

theorem Only.challenge {bs : List Block} {d e : Device} (h : Only bs d e) (p : Port)
    (hb : ∀ b ∈ ([.sdm] : List Block), b ∈ bs := by decide) : Only bs d (e.challenge p) := h.trans ((challenge_only e p).mono hb)

theorem readmit_only (d : Device) (p : Port) : Only [.handoffs, .du, .swc, .sdm] d (d.readmit p) := by
  exact ((Only.refl _ d).modPort _ _).setStanding _ _

theorem Only.readmit {bs : List Block} {d e : Device} (h : Only bs d e) (p : Port)
    (hb : ∀ b ∈ ([.handoffs, .du, .swc, .sdm] : List Block), b ∈ bs := by decide) : Only bs d (e.readmit p) := h.trans ((readmit_only e p).mono hb)

/-! ## STO -/

theorem startUpdate_only (d : Device)  : Only [.sto] d (d.startUpdate) := by
  exact (Only.refl _ d).modSto _

theorem Only.startUpdate {bs : List Block} {d e : Device} (h : Only bs d e) 
    (hb : ∀ b ∈ ([.sto] : List Block), b ∈ bs := by decide) : Only bs d (e.startUpdate) := h.trans ((startUpdate_only e ).mono hb)

theorem proceed_only (d : Device)  : Only [.sto] d (d.proceed) := by
  unfold Device.proceed; exact .ite _ (Only.refl _ d).startUpdate ((Only.refl _ d).modSto _)

theorem Only.proceed {bs : List Block} {d e : Device} (h : Only bs d e) 
    (hb : ∀ b ∈ ([.sto] : List Block), b ∈ bs := by decide) : Only bs d (e.proceed) := h.trans ((proceed_only e ).mono hb)

theorem storeEnds_only (d : Device) (t : StoredTable) (o : Bool) : Only [.handoffs, .sto] d (d.storeEnds t o) := by
  unfold Device.storeEnds; exact .ite _ (((Only.refl _ d).modSto _).raise _ _ _) (((Only.refl _ d).modSto _).raise _ _ _)

theorem Only.storeEnds {bs : List Block} {d e : Device} (h : Only bs d e) (t : StoredTable) (o : Bool)
    (hb : ∀ b ∈ ([.handoffs, .sto] : List Block), b ∈ bs := by decide) : Only bs d (e.storeEnds t o) := h.trans ((storeEnds_only e t o).mono hb)

theorem updateEnds_only (d : Device) (r : StandingRecord) (o : Bool) : Only [.handoffs, .sto] d (d.updateEnds r o) := by
  unfold Device.updateEnds; exact .ite _ ((Only.refl _ d).modSto _) (((Only.refl _ d).modSto _).raise _ _ _)

theorem Only.updateEnds {bs : List Block} {d e : Device} (h : Only bs d e) (r : StandingRecord) (o : Bool)
    (hb : ∀ b ∈ ([.handoffs, .sto] : List Block), b ∈ bs := by decide) : Only bs d (e.updateEnds r o) := h.trans ((updateEnds_only e r o).mono hb)

theorem selfFailed_only (d : Device) (t : StoredTable) : Only [.handoffs, .sto] d (d.selfFailed t) := by
  exact ((Only.refl _ d).modSto _).raise _ _ _

theorem Only.selfFailed {bs : List Block} {d e : Device} (h : Only bs d e) (t : StoredTable)
    (hb : ∀ b ∈ ([.handoffs, .sto] : List Block), b ∈ bs := by decide) : Only bs d (e.selfFailed t) := h.trans ((selfFailed_only e t).mono hb)

/-! ## Tables -/

theorem storeItem_only (d : Device) (t : StoredTable) (i : Nat) (v : Int) : Only [.handoffs, .settings, .sto, .slc, .du] d (d.storeItem t i v) := by
  unfold Device.storeItem
  refine Only.postIf (Only.when ?_ _ _ fun x h => h.duOrder.duRefresh) _ _
  split
  · exact ((Only.refl _ d).setItem _ _ _).expectationRewritten _
  · exact (Only.refl _ d).setItem _ _ _

theorem Only.storeItem {bs : List Block} {d e : Device} (h : Only bs d e) (t : StoredTable) (i : Nat) (v : Int)
    (hb : ∀ b ∈ ([.handoffs, .settings, .sto, .slc, .du] : List Block), b ∈ bs := by decide) : Only bs d (e.storeItem t i v) := h.trans ((storeItem_only e t i v).mono hb)

theorem writeRating_only (d : Device) (r : Direction) (v : Int) : Only [.handoffs, .env] d (d.writeRating r v) := by
  exact ((Only.refl _ d).modEnv _).post _

theorem Only.writeRating {bs : List Block} {d e : Device} (h : Only bs d e) (r : Direction) (v : Int)
    (hb : ∀ b ∈ ([.handoffs, .env] : List Block), b ∈ bs := by decide) : Only bs d (e.writeRating r v) := h.trans ((writeRating_only e r v).mono hb)

theorem writeReport_only (d : Device) (v : Int) : Only [.handoffs, .du] d (d.writeReport v) := by
  exact (((Only.refl _ d).duReport _).post _).post _

theorem Only.writeReport {bs : List Block} {d e : Device} (h : Only bs d e) (v : Int)
    (hb : ∀ b ∈ ([.handoffs, .du] : List Block), b ∈ bs := by decide) : Only bs d (e.writeReport v) := h.trans ((writeReport_only e v).mono hb)

theorem clockOut_only (d : Device) (p : Port) : Only [.pif] d (d.clockOut p) := by
  exact (Only.refl _ d).modLink _ _

theorem Only.clockOut {bs : List Block} {d e : Device} (h : Only bs d e) (p : Port)
    (hb : ∀ b ∈ ([.pif] : List Block), b ∈ bs := by decide) : Only bs d (e.clockOut p) := h.trans ((clockOut_only e p).mono hb)

theorem reply_only (d : Device) (p : Port) (k : Byte) (a : Answer) : Only [.pif] d (d.reply p k a) := by
  unfold Device.reply
  split
  · exact (Only.refl _ d).modLink _ _
  · intro b hb; cases b <;> first | rfl | simp at hb

theorem Only.reply {bs : List Block} {d e : Device} (h : Only bs d e) (p : Port) (k : Byte) (a : Answer)
    (hb : ∀ b ∈ ([.pif] : List Block), b ∈ bs := by decide) : Only bs d (e.reply p k a) := h.trans ((reply_only e p k a).mono hb)

/-! ## Resets -/

theorem startCsu_only (d : Device) : Only [.csu] d d.startCsu := by
  intro b hb; cases b <;> first | rfl | simp at hb

theorem Only.startCsu {bs : List Block} {d e : Device} (h : Only bs d e)
    (hb : ∀ b ∈ ([.csu] : List Block), b ∈ bs := by decide) : Only bs d (e.startCsu) := h.trans ((startCsu_only e).mono hb)

theorem startEnv_only (d : Device) : Only [.env] d d.startEnv := ((Only.refl _ d).modEnv _).envForm

theorem Only.startEnv {bs : List Block} {d e : Device} (h : Only bs d e)
    (hb : ∀ b ∈ ([.env] : List Block), b ∈ bs := by decide) : Only bs d (e.startEnv) := h.trans ((startEnv_only e).mono hb)

theorem startDu_only (d : Device) : Only [.du] d d.startDu := (((Only.refl _ d).modDu _).duOrder).duRefresh

theorem Only.startDu {bs : List Block} {d e : Device} (h : Only bs d e)
    (hb : ∀ b ∈ ([.du] : List Block), b ∈ bs := by decide) : Only bs d (e.startDu) := h.trans ((startDu_only e).mono hb)

theorem startSwc_only (d : Device) : Only [.handoffs, .swc, .du] d d.startSwc := by
  unfold Device.startSwc
  exact .ite _ ((Only.refl _ d).modSwc _).isolationStart (((Only.refl _ d).modSwc _).deriveInhibits)

theorem Only.startSwc {bs : List Block} {d e : Device} (h : Only bs d e)
    (hb : ∀ b ∈ ([.handoffs, .swc, .du] : List Block), b ∈ bs := by decide) : Only bs d (e.startSwc) := h.trans ((startSwc_only e).mono hb)

theorem startGwm_only (d : Device) : Only [.gwm] d d.startGwm := (Only.refl _ d).modGwm _

theorem Only.startGwm {bs : List Block} {d e : Device} (h : Only bs d e)
    (hb : ∀ b ∈ ([.gwm] : List Block), b ∈ bs := by decide) : Only bs d (e.startGwm) := h.trans ((startGwm_only e).mono hb)

theorem startClc_only (d : Device) : Only [.handoffs, .clc] d d.startClc := (((Only.refl _ d).modClc _).formPump).deriveOutputs

theorem Only.startClc {bs : List Block} {d e : Device} (h : Only bs d e)
    (hb : ∀ b ∈ ([.handoffs, .clc] : List Block), b ∈ bs := by decide) : Only bs d (e.startClc) := h.trans ((startClc_only e).mono hb)

theorem startBal_only (d : Device) : Only [.bal] d d.startBal := (Only.refl _ d).modBal _

theorem Only.startBal {bs : List Block} {d e : Device} (h : Only bs d e)
    (hb : ∀ b ∈ ([.bal] : List Block), b ∈ bs := by decide) : Only bs d (e.startBal) := h.trans ((startBal_only e).mono hb)

theorem startBlocks_only (d : Device) : Only [.handoffs, .csu, .swc, .du, .bal, .gwm, .env, .clc] d d.startBlocks :=
  (Only.refl _ d).startCsu.startSwc.startBal.startGwm.startEnv.startDu.startClc

theorem Only.startBlocks {bs : List Block} {d e : Device} (h : Only bs d e)
    (hb : ∀ b ∈ ([.handoffs, .csu, .swc, .du, .bal, .gwm, .env, .clc] : List Block), b ∈ bs := by decide) : Only bs d (e.startBlocks) := h.trans ((startBlocks_only e).mono hb)

theorem reloadTable_only (d : Device) (t : StoredTable) : Only [.settings, .sto] d (d.reloadTable t) := by
  refine (Only.refl _ d).when _ _ fun x h => ?_
  have k : ∀ items, Only [.settings, .sto] d { x with settings := x.settings.set t items } := fun items =>
    h.trans (by intro b hb; cases b <;> first | rfl | simp at hb)
  exact ((k _).keepCheck t).when _ _ fun y m => m.modSto _

theorem Only.reloadTable {bs : List Block} {d e : Device} (h : Only bs d e) (t : StoredTable)
    (hb : ∀ b ∈ ([.settings, .sto] : List Block), b ∈ bs := by decide) : Only bs d (e.reloadTable t) := h.trans ((reloadTable_only e t).mono hb)

theorem restartFgu_only (d : Device) : Only [.handoffs, .fgu] d d.restartFgu := by
  refine Only.modFgu ((Only.refl _ d).each _ _ fun z x h => ?_) _
  unfold Device.restartZone
  refine (Only.ite _ (h.endTest z) ?_).holdZone _ _
  unfold Device.rederiveZone
  split
  · exact h
  · exact h
  · exact h
  all_goals exact .ite _ (h.modZone _ _) (h.modZone _ _)

theorem Only.restartFgu {bs : List Block} {d e : Device} (h : Only bs d e)
    (hb : ∀ b ∈ ([.handoffs, .fgu] : List Block), b ∈ bs := by decide) : Only bs d (e.restartFgu) := h.trans ((restartFgu_only e).mono hb)

theorem restart_only (d : Device) : Only restartTouches d d.restart := by
  unfold Device.restart
  refine Only.startBlocks (Only.when (Only.restartFgu ?_) _ _ fun x h => h.endRun 11)
  have h : Only restartTouches d ({ d with handoffs := d.handoffs.filter outlasts }.each StoredTable.all Device.reloadTable) := by
    refine Only.each ?_ _ _ fun t x h => h.reloadTable t
    intro b hb; cases b <;> first | rfl | simp [restartTouches] at hb
  refine h.trans ?_
  intro b hb; cases b <;> first | rfl | simp [restartTouches] at hb

/-- R179: a restart that takes effect within a command changes at most the blocks of a warm restart; PIF, EVR and the inputs stay. -/
theorem settle_only (d : Device) : Only restartTouches d d.settle := by
  unfold Device.settle Device.when
  split
  · exact restart_only d
  · exact .refl _ d

theorem Only.settle {bs : List Block} {d e : Device} (h : Only bs d e)
    (hb : ∀ b ∈ (restartTouches : List Block), b ∈ bs := by decide) : Only bs d (e.settle) := h.trans ((settle_only e).mono hb)

theorem settle_pif (d : Device) : d.settle.pif = d.pif := settle_only d .pif (by decide)

end Sys2Proof.Machine
end

