-- ==== Sys2Proof/Laws/Grid.lean ====
section
/-! SUPPORT. What the shared operations of GWM do: a change of window, a trip, the loss of permission, a record in ride-through. -/

namespace Sys2Proof.Machine

/-- R101: a change of window state. -/
theorem Device.setWindow_moved (d : Device) (w : WindowState) : WindowMoved d (d.setWindow w) d.gwm w [] := by
  simp [WindowMoved, Device.setWindow, Device.modGwm, Device.post]

/-- R103: a trip. -/
theorem Device.gridTrip_tripped (d : Device) (detail : Nat) : GridTripped d (d.gridTrip detail) d.gwm detail := by
  simp [GridTripped, WindowMoved, Device.gridTrip, Device.setWindow, Device.stopGridTimers, Device.modGwm, Device.post, Device.raise]

/-- R101: the loss of PERMITTED. -/
theorem Device.losePermission_lost (d : Device) : PermissionLost d d.losePermission d.gwm := by
  by_cases h : d.gwm.breaker = .closing <;>
    simp [PermissionLost, Gwm.heldOff, Device.losePermission, Device.setWindow, Device.fullHoldOff, Device.holdOffTime, Device.modGwm,
      Device.post, Device.postIf, h]

/-- R102: the trip-delay timer after a record. -/
theorem nextTrip_follows (d : Device) (c : GridClass) (t : Option TripTimer) : TripFollows d c t (nextTrip t (d.tripBand c)) := by
  unfold TripFollows Device.tripBand
  refine ⟨fun h1 h2 => by simp [h1, h2, nextTrip], fun h1 h2 => ?_, fun h1 h2 => ?_⟩
  · have : ¬(c.freq = .trip ∧ d.itemNat .t10 13 < d.itemNat .t10 6) := by
      rintro ⟨a, b⟩; rcases h2 with h2 | h2
      · exact h2 a
      · omega
    cases t <;> simp [h1, this, nextTrip]
  · by_cases hl : c.volt = .lowTrip
    · have := h2.resolve_left (fun h => h hl)
      cases t <;> simp [h1, hl, this, nextTrip]
    · cases t <;> simp [h1, hl, nextTrip]

theorem foldl_leastLimit (xs : List Nat) (a : Option Nat) : let all := a.toList ++ xs
    (all = [] → xs.foldl leastLimit a = none) ∧
    (all ≠ [] → ∃ x, xs.foldl leastLimit a = some x ∧ x ∈ all ∧ ∀ y ∈ all, x ≤ y) := by
  induction xs generalizing a with
  | nil => cases a <;> simp
  | cons b rest ih =>
    have h := (ih (leastLimit a b)).2 (by cases a <;> simp [leastLimit])
    refine ⟨by simp, fun _ => ?_⟩
    obtain ⟨x, h1, h2, h3⟩ := h
    refine ⟨x, h1, ?_, ?_⟩
    · cases a with
      | none => simpa [leastLimit] using h2
      | some v =>
        simp [leastLimit] at h2 ⊢
        rcases h2 with h2 | h2
        · rcases le_total v b with q | q <;> simp_all
        · exact Or.inr (Or.inr h2)
    · cases a with
      | none => simpa [leastLimit] using h3
      | some v =>
        simp [leastLimit] at h3 ⊢
        exact ⟨h3.1.1, h3.1.2, h3.2⟩

/-- R102: the ride-through limit after a record. -/
theorem rideLimits_follow (d : Device) (c : GridClass) (limit : Option Nat) :
    RideFollows d c limit ((d.rideLimits c).foldl leastLimit limit) := by
  have h := foldl_leastLimit (d.rideLimits c) limit
  unfold RideFollows
  have list : limit.toList ++ (if c.volt = .lowRide then [d.itemNat .t10 7] else []) ++
      (if c.volt = .highRide then [d.itemNat .t10 8] else []) ++ (if c.freq = .ride then [d.itemNat .t10 14] else []) =
      limit.toList ++ d.rideLimits c := by
    unfold Device.rideLimits
    generalize c.volt = v
    cases v <;> simp
  simp only [list]
  exact h

/-- R102: a record in RIDE_THROUGH. -/
theorem Device.rideRecord_rides (d : Device) (c : GridClass) : RideRecord d (d.rideRecord c) c d.gwm := by
  refine ⟨_, _, rideLimits_follow d c _, nextTrip_follows d c _, ?_, ?_⟩
  · rintro ⟨x, h, hx⟩
    have : ((d.rideLimits c).foldl leastLimit (d.gwm.ride.getD ⟨0, none⟩).limit).any
        (· < (d.gwm.ride.getD ⟨0, none⟩).elapsed) = true := by simp [h, hx]
    simp only [Device.rideRecord, this, if_true]
    exact d.gridTrip_tripped 3
  · intro h
    have : ((d.rideLimits c).foldl leastLimit (d.gwm.ride.getD ⟨0, none⟩).limit).any
        (· < (d.gwm.ride.getD ⟨0, none⟩).elapsed) = false := by
      cases hl : (d.rideLimits c).foldl leastLimit (d.gwm.ride.getD ⟨0, none⟩).limit with
      | none => rfl
      | some x => simpa using h x hl
    simp only [Device.rideRecord, this]
    rfl

end Sys2Proof.Machine
end

