-- ==== Sys2Proof/Laws/Link.lean ====
section
/-! SUPPORT. What the check of a link record says (R3). -/

namespace Sys2Proof

/-- A record as it is sent ends with its check. -/
theorem withCheck_ends (body : List Byte) : Machine.EndsWithCheck (withCheck body) :=
  ⟨body, _, _, rfl, by simp only [BitVec.extractLsb'_append_extractLsb'_eq_extractLsb']; simp⟩

/-- The first byte of a check is its high one, the second its low one. -/
theorem checkBytes_append (high low : Byte) : checkBytes (high ++ low) = [high, low] := by
  simp only [checkBytes, List.cons.injEq, and_true]
  constructor <;> ext i hi
  · simpa [BitVec.getLsbD_eq_getElem hi] using BitVec.getLsbD_append (x := high) (y := low) (i := 8 + i)
  · simpa [hi, BitVec.getLsbD_eq_getElem hi] using BitVec.getLsbD_append (x := high) (y := low) (i := i)

/-- The check of an answer holds exactly where its bytes end with the CRC over those before. -/
theorem answerChecks_iff {α : Type} (a : LinkAnswer α) : answerChecks a = true ↔ Machine.EndsWithCheck a.bytes := by
  constructor
  · intro h
    rw [eq_of_beq h]
    exact withCheck_ends _
  · rintro ⟨body, high, low, hb, hc⟩
    have hbytes : withCheck body = body ++ [high, low] := by
      rw [withCheck, ← hc, checkBytes_append]
    simp [answerChecks, hb, hbytes]

end Sys2Proof
end

