-- ==== Sys2Proof/Laws/Requests.lean ====
section
/-! SUPPORT. What a request at a port comes to: held link, bad check, or its owner's answer as the next reply. -/

namespace Sys2Proof.Machine

/-- A link held in reset takes no request. -/
theorem request_held (s : State) (p : Port) (f : Frame) (act : Device → Device × Answer)
    (h : (s.dev.link p).running = false) : s.next (·.request p f act) = .next s := by
  simp [State.next, State.on, Device.request, Device.when, h]

/-- The reply that goes out is the pending one, or the idle one. -/
theorem carriedOut_eq (d : Device) (p : Port) : d.carriedOut p = ((d.link p).pending.getD .idle).frame (d.summary p) := by
  unfold Device.carriedOut
  cases (d.link p).pending <;> rfl

/-- A reply formed on a part that stands as d but for the transfer under way. -/
theorem reply_replies (s : State) (p : Port) (kind : Byte) (a : Answer) (d e : Device) (hrun : (s.dev.link p).running = true)
    (hd : d.pif.ports = s.dev.pif.ports)
    (he : e = { d with pif := { d.pif with ports := (s.dev.clockOut p).pif.ports } }) :
    Replies s ⟨s.pending, e.reply p kind a⟩ p kind a.result a.value d := by
  subst he
  refine ⟨rfl, ?_⟩
  have hset : ∀ (x : PerPort PortLink) (u v : PortLink), (x.set p u).set p v = x.set p v := by
    intro x u v; cases p <;> rfl
  have hget : ((s.dev.clockOut p).pif.ports.get p) = ⟨(s.dev.link p).pending, true, some (s.dev.carriedOut p)⟩ := by
    rw [carriedOut_eq, ← hrun]
    simp [Device.clockOut]
  have hports : ∀ r : Option Reply, (s.dev.clockOut p).pif.ports.set p
      { (s.dev.clockOut p).pif.ports.get p with pending := r } =
      d.pif.ports.set p ⟨r, true, some (s.dev.carriedOut p)⟩ := by
    intro r
    rw [hget, hd]
    exact hset _ _ _
  cases hv : a.value with
  | some v =>
    refine ⟨v, d.pif.openReplies, fun x hx => (by cases hx; exact ⟨rfl, rfl⟩), ?_⟩
    have := hports (some ⟨kind, a.result, v⟩)
    simp only [Device.reply, hv, Device.modLink, Device.link, this]
  | none =>
    refine ⟨Config.openReply d.pif.openReplies, d.pif.openReplies + 1, fun x hx => (by cases hx), ?_⟩
    have := hports (some ⟨kind, a.result, Config.openReply d.pif.openReplies⟩)
    simp only [Device.reply, hv, Device.modLink, Device.link, this]

/-- A request that is taken: its owner acts on the part as it stands, and its answer is the next reply. -/
theorem request_replies {s : State} {p : Port} {f : Frame} {act : Device → Device × Answer}
    (hrun : (s.dev.link p).running = true) (hchk : f.check = crc8 f.body) (d : Device) (a : Answer)
    (hd : d.pif.ports = s.dev.pif.ports)
    (hact : act (s.dev.clockOut p) = ({ d with pif := { d.pif with ports := (s.dev.clockOut p).pif.ports } }, a)) :
    Replies s (s.on (·.request p f act)) p f.kind a.result a.value d := by
  have : (s.on (·.request p f act)) = ⟨s.pending, (act (s.dev.clockOut p)).1.reply p f.kind (act (s.dev.clockOut p)).2⟩ := by
    simp [State.on, Device.request, Device.when, hrun, Frame.checkOk, hchk]
  rw [this, hact]
  exact reply_replies s p f.kind a d _ hrun hd rfl

/-- A frame whose check fails is answered CHECK_FAIL and not acted on. -/
theorem request_bad {s : State} {p : Port} {f : Frame} {act : Device → Device × Answer}
    (hrun : (s.dev.link p).running = true) (hchk : f.check ≠ crc8 f.body) :
    Refuses s (s.on (·.request p f act)) p f.kind .checkFail := by
  have : (s.on (·.request p f act)) = ⟨s.pending, (s.dev.clockOut p).reply p f.kind (.no .checkFail)⟩ := by
    simp [State.on, Device.request, Device.when, hrun, Frame.checkOk, hchk]
  rw [this]
  exact reply_replies s p f.kind (.no .checkFail) s.dev _ hrun rfl rfl

/-- A request that is refused: nothing changes but the reply. -/
theorem request_refuses {s : State} {p : Port} {f : Frame} {act : Device → Device × Answer}
    (hrun : (s.dev.link p).running = true) (hchk : f.check = crc8 f.body) (r : Result)
    (hact : act (s.dev.clockOut p) = (s.dev.clockOut p, .no r)) :
    Refuses s (s.on (·.request p f act)) p f.kind r :=
  request_replies hrun hchk s.dev (.no r) rfl hact

/-- R165: for a writable item of a settings table, PIF's rows either stop the WRITE with their result or hand it to the owner. -/
theorem portWrite_gate (d : Device) (p : Port) (i : Nat) (v : Word) (tb : StoredTable) (hi : i < itemCount tb.num)
    (hw : (ItemRef.mk tb.num i).writable = true) (hn : tb = .t2 → i < 40) :
    (∀ r, Stopped d p tb r → portWrite p tb.num i v d = (d, .no r)) ∧
    (Passes d p tb → portWrite p tb.num i v d = d.writeStored tb i (signed v)) := by
  have hres : (ItemRef.mk tb.num i).resolve = ⟨tb.num, i⟩ := by
    cases tb <;> simp [ItemRef.resolve, StoredTable.num] at *
    omega
  have hst : StoredTable.ofNum tb.num = some tb := by cases tb <;> rfl
  have h12 : tb.num ≠ 12 := by cases tb <;> decide
  have hcan : d.canWrite p tb.num = true ↔ MayWrite d p tb.num := by simp [Device.canWrite, Device.right, MayWrite]
  have htr : (d.standing p).trusted = true ↔ Trusted d p := by
    unfold Trusted; cases d.standing p <;> simp [Standing.trusted]
  have hctl : (ItemRef.mk tb.num i).control = true := by
    unfold ItemRef.control
    split
    · cases tb <;> simp [StoredTable.num] at *
    · exact hw
  unfold portWrite
  simp only [hres, ItemRef.known, hi, hst, hw, hctl, ItemRef.mk.injEq, h12, false_and, decide_true, Bool.not_true,
    Bool.or_false, Option.any, if_false, Bool.true_and]
  constructor
  · intro r h
    cases h with
    | denied h => simp [← hcan] at h; simp [h]
    | noStanding h h2 => rw [← hcan] at h; rw [← htr] at h2; simp [h, h2]
    | locked h h2 h3 => rw [← hcan] at h; rw [← htr] at h2; simp [h, h2, h3]
    | busy h h2 h3 h4 => rw [← hcan] at h; rw [← htr] at h2; simp [h, h2, h3, h4]
  · rintro ⟨h, h2, h3, h4⟩
    rw [← hcan] at h; rw [← htr] at h2; simp [h, h2, h3, h4, Device.ownerWrite, hst]

end Sys2Proof.Machine
end

