-- ==== Sys2Proof/Laws/Switching.lean ====
section
/-! SUPPORT. What the shared operations of SWC and DU do: refreshing the dispatch, a change of a switch's state, and the forced open. -/

namespace Sys2Proof.Machine

set_option Elab.async false

/-- What DU's refresh leaves: the target afresh, no grant under a forcing cause, the ramp-step timer running as R68 and
R79 say. -/
theorem Device.duRefresh_eq (d : Device) : d.duRefresh = { d with du := { d.du with
    granted := if d.forced then 0 else d.du.granted
    target := if d.forced then 0 else max (-d.env.chg) (min d.env.dis d.du.order)
    rampTimer :=
      if d.forced = false ∧ d.standing .converter = .inStanding ∧ d.du.reported = true ∧
          (if d.forced then 0 else d.du.granted) ≠
            (if d.forced then 0 else max (-d.env.chg) (min d.env.dis d.du.order)) then
        some (d.du.rampTimer.getD 100) else none } } := by
  have mode : d.dispatchMode = .run ↔ d.forced = false ∧ d.standing .converter = .inStanding := by
    unfold Device.dispatchMode Device.forced Device.causeStanding
    cases d.standing .converter <;> cases d.breakerClosed <;> cases d.du.reportStale <;> simp [Standing.trusted]
  simp only [Device.duRefresh, Device.modDu, Device.duTarget, saturate, Device.duRamps, Bool.and_eq_true, beq_iff_eq, mode, and_assoc]

/-- With DU's law, the grant is already 0 under a forcing cause, so a refresh keeps it. -/
theorem Device.duRefresh_keeps {d : Device} (h : d.forced = true → d.du.granted = 0) :
    d.duRefresh.du.granted = d.du.granted := by
  rw [d.duRefresh_eq]
  by_cases f : d.forced = true
  · simp [f, h f]
  · simp [f]

/-- A switch that has just changed its state takes further marks and raises further hand-offs. -/
theorem SwitchSet.then {d m : Device} {n : SwitchId} {r : SwitchRec} {hs : List Instr} (h : SwitchSet d m n r hs)
    {f : SwitchRec → SwitchRec} (same : (f r).state = r.state) (more : List Instr) :
    SwitchSet d { m.modSw n f with handoffs := m.handoffs ++ more } n (f r) (hs ++ more) := by
  obtain ⟨hm, hd⟩ := h
  have reads : m.swc = { (d.withSwitch n r).swc with isolationTimer := if n = .g then none else d.swc.isolationTimer } := by
    rw [hm]
  have forced : ∀ x : Device, x.swc.switches.g.state = m.swc.switches.g.state → x.du = m.du → x.sdm = m.sdm →
      x.forced = m.forced ∧ x.standing .converter = m.standing .converter := by
    intro x h1 h2 h3
    simp [Device.forced, Device.causeStanding, Device.standing, Device.breakerClosed, h1, h2, h3]
  have state : ((m.modSw n f).swc.switches.g).state = m.swc.switches.g.state := by
    cases n <;> simp [Device.modSw, Device.modSwc, PerSwitch.set, PerSwitch.get, reads, Device.withSwitch, same]
  obtain ⟨hf, hst⟩ := forced { m.modSw n f with handoffs := m.handoffs ++ more } state rfl rfl
  constructor
  · show Device.mk _ _ _ _ _ _ _ _ _ _ _ _ _ _ _ _ = _
    rw [hm]
    cases n <;>
      simp [Device.modSw, Device.modSwc, Device.withSwitch, PerSwitch.set, PerSwitch.get, List.append_assoc]
  · show m.du = _
    rw [hd]
    simp only [same, Device.duAtClose, hf, hst]

/-- R80, R85, R94, R97: what a change of state does. -/
theorem Device.changeState_set (d : Device) (n : SwitchId) (st : SwitchState) (timer : Option Nat) :
    SwitchSet d (d.changeState n st timer) n
      { d.sw n with state := st, selection := none, openDelay := none, timer := timer } (reportsOf n st) := by
  cases n with
  | g =>
    by_cases h : st = .closed
    · subst h
      constructor <;>
        simp [Device.changeState, Device.reportState, Device.duBreakerChanged, Device.duRefresh_eq, Device.modSw, Device.modSwc,
          Device.when, Device.sw, PerSwitch.get, PerSwitch.set, SwitchId.string, Device.post, Device.modDu, Device.breakerClosed,
          Device.withSwitch, reportsOf, Device.duAtClose, Device.forced, Device.causeStanding, Device.standing]
    · constructor <;>
        simp [Device.changeState, Device.reportState, Device.duBreakerChanged, Device.duRefresh_eq, Device.modSw, Device.modSwc,
          Device.when, Device.sw, PerSwitch.get, PerSwitch.set, SwitchId.string, Device.post, Device.modDu, Device.breakerClosed,
          Device.withSwitch, reportsOf, Du.away, Device.forced, Device.causeStanding, Device.standing, h]
  | s0 => constructor <;> simp [Device.changeState, Device.reportState, Device.reportString, Device.modSw, Device.modSwc,
      Device.when, Device.sw, PerSwitch.get, PerSwitch.set, SwitchId.string, StringId.switch, Device.post, Device.withSwitch, reportsOf]
  | s1 => constructor <;> simp [Device.changeState, Device.reportState, Device.reportString, Device.modSw, Device.modSwc,
      Device.when, Device.sw, PerSwitch.get, PerSwitch.set, SwitchId.string, StringId.switch, Device.post, Device.withSwitch, reportsOf]
  | s2 => constructor <;> simp [Device.changeState, Device.reportState, Device.reportString, Device.modSw, Device.modSwc,
      Device.when, Device.sw, PerSwitch.get, PerSwitch.set, SwitchId.string, StringId.switch, Device.post, Device.withSwitch, reportsOf]
  | s3 => constructor <;> simp [Device.changeState, Device.reportState, Device.reportString, Device.modSw, Device.modSwc,
      Device.when, Device.sw, PerSwitch.get, PerSwitch.set, SwitchId.string, StringId.switch, Device.post, Device.withSwitch, reportsOf]

/-- R81, R88, R89, R90: a failed operation or a dropout, before the event's end. -/
theorem Device.failOpen_set (d : Device) (n : SwitchId) (detail : Nat) :
    SwitchSet d (d.failOpen n detail) n
      { d.sw n with
        state := .opened, selection := none, openDelay := none, timer := none, lastResult := .failed, failure := true }
      (reportsOf n .opened ++ [.eventOccurrence ⟨.switchFailed, .switch n, some detail, false⟩]) :=
  (d.changeState_set n .opened none).then (f := fun r => { r with failure := true, lastResult := .failed }) rfl _

/-- R91: the end of an opening, before the event's end. -/
theorem Device.finishOpen_set (d : Device) (n : SwitchId) :
    SwitchSet d (d.finishOpen n) n
      { d.sw n with
        state := .opened, selection := none, openDelay := none, timer := none
        lastResult := if (d.sw n).lastResult = .aborted then .aborted else .done }
      (reportsOf n .opened ++ [.eventOccurrence ⟨.switchDone, .switch n, some 2, false⟩]) :=
  (d.changeState_set n .opened none).then
    (f := fun r => { r with lastResult := if r.lastResult = .aborted then .aborted else .done }) rfl _

/-- R91, R92: a weld, before the event's end. -/
theorem Device.weld_set (d : Device) (n : SwitchId) :
    SwitchSet d (d.weld n) n
      { d.sw n with
        state := .welded, selection := none, openDelay := none, timer := none, lastResult := .failed
        failure := (d.sw n).failure || n == .g }
      (reportsOf n .welded ++ (.eventOccurrence ⟨.switchFailed, .switch n, some 3, false⟩ ::
        (match n.string with | some x => [.weldReport x] | none => []))) := by
  have h := (d.changeState_set n .welded none).then
    (f := fun r => { r with lastResult := .failed, failure := r.failure || n == .g }) rfl
    (.eventOccurrence ⟨.switchFailed, .switch n, some 3, false⟩ ::
      (match n.string with | some x => [.weldReport x] | none => []))
  have eq : d.weld n = { (d.changeState n .welded none).modSw n fun r =>
        { r with lastResult := .failed, failure := r.failure || n == .g } with
      handoffs := (d.changeState n .welded none).handoffs ++
        (.eventOccurrence ⟨.switchFailed, .switch n, some 3, false⟩ ::
          (match n.string with | some x => [.weldReport x] | none => [])) } := by
    generalize he : d.changeState n .welded none = e
    cases n <;>
      simp [Device.weld, he, Device.setResult, Device.modSw, Device.modSwc, Device.raise, Device.post, SwitchId.string,
        PerSwitch.get, PerSwitch.set]
  rw [eq]
  exact h

/-- R91: OPENING, or OPEN at once, before the event's end. -/
theorem Device.enterOpening_set (d : Device) (n : SwitchId) :
    (d.pins.feedback.get n = true → SwitchSet d (d.enterOpening n) n
      { d.sw n with
        state := .opening, selection := none, openDelay := none, timer := some (if n = .g then 150 else 200) }
      (reportsOf n .opening)) ∧
    (d.pins.feedback.get n = false → SwitchSet d (d.enterOpening n) n
      { d.sw n with
        state := .opened, selection := none, openDelay := none, timer := none
        lastResult := if (d.sw n).lastResult = .aborted then .aborted else .done }
      (reportsOf n .opened ++ [.eventOccurrence ⟨.switchDone, .switch n, some 2, false⟩])) := by
  constructor <;> intro h
  · have := d.changeState_set n .opening (some n.feedbackTime)
    cases n <;> simpa [Device.enterOpening, h, SwitchId.feedbackTime] using this
  · simpa [Device.enterOpening, h] using d.finishOpen_set n

/-- R91: an opening and the end of its event. -/
theorem Device.enterOpening_opened (d : Device) (n : SwitchId) : Opened d (d.enterOpening n).swcEnd n (d.sw n) :=
  ⟨fun h => ⟨_, by simpa using (d.enterOpening_set n).1 h, rfl⟩, fun h => ⟨_, (d.enterOpening_set n).2 h, rfl⟩⟩

/-- A mark set on a switch before its state changes is a mark of the record that moves. -/
theorem SwitchMoved.marked {d e : Device} {n : SwitchId} {f : SwitchRec → SwitchRec} {r : SwitchRec} {hs : List Instr}
    (h : SwitchMoved (d.modSw n f) e n r hs) : SwitchMoved d e n r hs := by
  obtain ⟨m, ⟨hm, hd⟩, he⟩ := h
  refine ⟨m, ⟨?_, ?_⟩, he⟩
  · rw [hm]; cases n <;> simp [Device.modSw, Device.modSwc, Device.withSwitch, PerSwitch.set]
  · exact hd

/-- R93: a forced open and the end of its event. -/
theorem Device.forceOpen_forced (d : Device) (n : SwitchId) : ForcedOpen d (d.forceOpen n).swcEnd n := by
  have set : d.withSwitch n { d.sw n with selection := none } = d.dropSelection n := rfl
  refine ⟨fun h => ?_, fun h => ?_, fun h => ?_⟩
  · simpa [Device.forceOpen, h] using d.enterOpening_opened n
  · have e : d.forceOpen n = (d.setResult n .aborted).enterOpening n := by rcases h with h | h <;> simp [Device.forceOpen, h]
    have sw : (d.setResult n .aborted).sw n = { d.sw n with lastResult := .aborted } := by
      cases n <;> rfl
    obtain ⟨a, b⟩ := (d.setResult n .aborted).enterOpening_opened n
    rw [e]
    rw [sw] at a b
    exact ⟨fun hp => (a hp).marked, fun hp => (b hp).marked⟩
  · have e : d.forceOpen n = d.dropSelection n := by rcases h with h | h | h <;> simp [Device.forceOpen, h]
    rw [e, set]

end Sys2Proof.Machine
end

