-- ==== Sys2Proof/Laws/Standing.lean ====
section
/-! SUPPORT. What a change of standing and a miss do (R157, R158). -/

namespace Sys2Proof.Machine

set_option Elab.async false

theorem Device.atRest_iff (d : Device) (n : SwitchId) : d.atRest n = true ↔ Resting d n := by simp [Device.atRest, Resting]

/-- R99: outside an isolation sequence, and in one that still waits, nothing follows from the end of an event. -/
theorem Device.isolationStep_idle {d : Device}
    (h : d.swc.isolation = .isolating →
      (∃ n, ¬Resting d n) ∧ (Resting d .g → ∀ s : StringId, (d.sw s.switch).state ≠ .closed)) : d.isolationStep = d := by
  unfold Device.isolationStep Device.when
  split
  · rename_i hi
    obtain ⟨⟨n, hn⟩, hs⟩ := h (by simpa using hi)
    have strings : ∀ e : Device, e = d → (d.atRest .g = true) →
        (e.each StringId.all fun s d => if (d.sw s.switch).state == .closed then d.forceOpen s.switch else d) = e := by
      rintro e rfl hg
      have := hs ((e.atRest_iff .g).mp hg)
      simp [Device.each, StringId.all, this]
    have rest : ¬(SwitchId.all.all d.atRest = true) := by
      intro ha
      apply hn
      rw [← Device.atRest_iff]
      have := List.all_eq_true.mp ha n (by cases n <;> simp [SwitchId.all])
      exact this
    by_cases hg : d.atRest .g = true
    · simp only [hg, if_true]
      rw [strings d rfl hg]
      simp only [rest]
      rfl
    · simp only [hg]
      simp only [Bool.false_eq_true, if_false, rest]
  · rfl

/-- R83: the inhibits of a part derived afresh are the only change. -/
theorem Device.deriveInhibits_sw (d : Device) (n : SwitchId) :
    d.deriveInhibits.sw n = { d.sw n with inhibits := d.inhibitsNow n } := by
  cases n <;> rfl

/-- R85: the selections of a port removed; the record of each switch after. -/
theorem Device.dropHeld_sw (p : Port) (d : Device) :
    (d.each SwitchId.all fun n d => d.when ((d.sw n).selection.any (·.holder == p)) (·.dropSelection n)) =
      { d with swc := { d.swc with
        switches := .ofFn fun n => { d.sw n with selection := (d.sw n).selection.filter fun x => x.holder != p } } } := by
  have one : ∀ (n : SwitchId) (e : Device), e.when ((e.sw n).selection.any (·.holder == p)) (·.dropSelection n) =
      e.modSw n fun r => { r with selection := r.selection.filter fun x => x.holder != p } := by
    intro n e
    unfold Device.when
    split
    · rename_i h
      cases hs : (e.sw n).selection with
      | none => simp [hs] at h
      | some x =>
        have : (x.holder != p) = false := by simpa [hs] using h
        cases n <;> simp_all [Device.dropSelection, Device.modSw, Device.modSwc, Device.sw, PerSwitch.get, PerSwitch.set, Option.filter]
    · rename_i h
      cases hs : (e.sw n).selection with
      | none =>
        cases n <;> (simp only [Device.sw, PerSwitch.get] at hs; simp only [Device.modSw, Device.modSwc, PerSwitch.get, PerSwitch.set, hs, Option.filter]; rw [← hs])
      | some x =>
        have : (x.holder != p) = true := by simpa [hs] using h
        cases n <;> (simp only [Device.sw, PerSwitch.get] at hs; simp only [Device.modSw, Device.modSwc, PerSwitch.get, PerSwitch.set, hs, Option.filter, this, if_true]; rw [← hs])
  simp only [Device.each, SwitchId.all, List.foldl, one]
  rfl

/-- What SWC's part of a change of standing leaves, where the isolation sequence does not follow. -/
theorem Device.swcStandingChanged_eq {d : Device} (p : Port)
    (law : d.swc.isolation = .isolating →
      (∃ n, ¬Resting d n) ∧ (Resting d .g → ∀ s : StringId, (d.sw s.switch).state ≠ .closed)) :
    ∃ switches : PerSwitch SwitchRec, d.swcStandingChanged p = { d with swc := { d.swc with switches := switches } } ∧
      (switches.get .g).inhibits.converterStanding = (d.standing .converter != .inStanding) ∧
      ∀ n, switches.get n = { d.sw n with
        selection := (d.sw n).selection.filter fun x => d.standing p == .inStanding || x.holder != p
        inhibits := (switches.get n).inhibits } := by
  by_cases hs : d.standing p = .inStanding
  · have e : d.swcStandingChanged p = d.deriveInhibits := by
      simp [Device.swcStandingChanged, hs, Device.when, Device.swcEnd, Device.isolationStep_idle law]
    refine ⟨_, e, rfl, fun n => ?_⟩
    have keep : ∀ o : Option Selection, o.filter (fun _ => true) = o := fun o => by cases o <;> rfl
    simp only [hs, beq_self_eq_true, Bool.true_or, keep]
    cases n <;> rfl
  · let m : Device := { d with swc := { d.swc with
      switches := .ofFn fun n => { d.sw n with selection := (d.sw n).selection.filter fun x => x.holder != p } } }
    have state : ∀ n, (m.sw n).state = (d.sw n).state := fun n => by cases n <;> rfl
    have idle : m.isolationStep = m := Device.isolationStep_idle (by
      intro hi
      obtain ⟨⟨n, hn⟩, hg⟩ := law hi
      refine ⟨⟨n, ?_⟩, fun h s => ?_⟩
      · simpa only [Resting, state] using hn
      · rw [state]; exact hg (by simpa only [Resting, state] using h) s)
    have e : d.swcStandingChanged p = m.deriveInhibits := by
      have b : (d.standing p != .inStanding) = true := by simpa using hs
      simp only [Device.swcStandingChanged, b, Device.when, if_true]
      rw [show (d.each SwitchId.all fun n d => if (d.sw n).selection.any (·.holder == p) = true then d.dropSelection n else d) = m
        from d.dropHeld_sw p, Device.swcEnd, idle]
    have b : (d.standing p == .inStanding) = false := by simpa using hs
    refine ⟨_, e, rfl, fun n => ?_⟩
    simp only [b, Bool.false_or]
    cases n <;> rfl

/-- R158: what a change of standing does where the isolation law holds before it; the record's other fields change with it. -/
theorem Device.setStanding_lawful {d : Device} {p : Port} {f : PortStanding → PortStanding} (law : IsolationLaw d)
    (hf : ∀ r, (f r).standing = r.standing) (st : Standing) :
    StandingSet d ((d.modPort p f).setStanding p st) p { f (d.port p) with standing := st } := by
  have portSame : ∀ (g : PortStanding → PortStanding) (e : Device), (e.modPort p g).port p = g (e.port p) := by
    intro g e; simp [Device.modPort, Device.port]
  have portOther : ∀ (g : PortStanding → PortStanding) (e : Device) (q : Port), q ≠ p → (e.modPort p g).port q = e.port q := by
    intro g e q hq; simp [Device.modPort, Device.port, hq]
  have std : (d.modPort p f).standing p = d.standing p := by
    show ((d.modPort p f).port p).standing = _
    rw [portSame, hf]; rfl
  unfold Device.setStanding Device.when
  by_cases hst : d.standing p = st
  · have b : ((d.modPort p f).standing p != st) = false := by simp [std, hst]
    have same : { f (d.port p) with standing := st } = f (d.port p) := by
      rw [← hst, show d.standing p = (d.port p).standing from rfl, ← hf (d.port p)]
    rw [same]
    simp only [b, Bool.false_eq_true, if_false]
    refine ⟨portSame f d, fun q hq => portOther f d q hq, ?_, fun _ => ⟨rfl, rfl, rfl⟩, fun h => ?_⟩
    · intro x hx; cases x <;> first | rfl | simp at hx
    · exact absurd ((hf (d.port p)).trans hst |>.trans hst.symm) h
  · have b : ((d.modPort p f).standing p != st) = true := by simp [std, hst]
    simp only [b, if_true]
    generalize hm : ((d.modPort p f).modPort p fun r => { r with standing := st }).raise .standingChanged (.port p)
      (some st.code) = m
    have mport : m.port p = { f (d.port p) with standing := st } := by
      rw [← hm]; show (((d.modPort p f).modPort p fun r => { r with standing := st }).port p) = _
      rw [portSame, portSame]
    have mother : ∀ q, q ≠ p → m.port q = d.port q := by
      intro q hq
      rw [← hm]; show (((d.modPort p f).modPort p fun r => { r with standing := st }).port q) = _
      rw [portOther _ _ _ hq, portOther _ _ _ hq]
    have mstd : m.standing p = st := by show (m.port p).standing = _; rw [mport]
    have mform : m = { d with
        sdm := m.sdm
        handoffs := d.handoffs ++ [.eventOccurrence ⟨.standingChanged, .port p, some st.code, false⟩] } := by
      rw [← hm]; rfl
    have mswc : m.swc = d.swc := by rw [mform]
    have mdu : m.du = d.du := by rw [mform]
    obtain ⟨switches, he, hg, hn⟩ := Device.swcStandingChanged_eq (d := m) p (by
      have := law.2.2.1
      simpa only [Resting, Device.sw, mswc] using this)
    rw [he]
    have form : ∀ (u : Du), ({ m with swc := { m.swc with switches := switches }, du := u } : Device) = { d with
        sdm := m.sdm, swc := { d.swc with switches := switches }, du := u
        handoffs := d.handoffs ++ [.eventOccurrence ⟨.standingChanged, .port p, some st.code, false⟩] } := by
      intro u; rw [mswc]; rw [mform]
    have sws : ∀ (e : Device) n, e.swc.switches = switches → e.sw n = switches.get n := fun e n h => by
      show e.swc.switches.get n = _; rw [h]
    have swsd : ∀ n, switches.get n = { d.sw n with
        selection := (d.sw n).selection.filter fun x => st == .inStanding || x.holder != p
        inhibits := (switches.get n).inhibits } := by
      intro n
      have := hn n
      rw [mstd, show m.sw n = d.sw n by show m.swc.switches.get n = _; rw [mswc]; rfl] at this
      exact this
    have gcs : (switches.get .g).inhibits.converterStanding = true ↔ m.standing .converter ≠ .inStanding := by
      rw [hg]; simp
    by_cases hp : p = .converter
    · subst hp
      have ns : (Port.converter == Port.site) = false := rfl
      simp only [beq_self_eq_true, if_true, Device.duRefresh_eq, Device.post, Device.postIf, ns, Bool.false_eq_true, if_false]
      refine ⟨mport, mother, ?_, ?_, ?_⟩
      · intro x hx
        cases x <;> first | (simp at hx; done) | (simp only [Block.kept]; rw [mform])
      · intro h; exact absurd h (Ne.symm hst)
      · intro _ _
        refine ⟨?_, ?_, ?_, ?_, ?_, ?_⟩
        · simp only [List.append_assoc]
          rw [mform]
          simp
        · show _ = _
          rw [mswc]
        · intro n; exact swsd n
        · exact gcs
        · intro h; exact absurd rfl h
        · intro _
          simp only [Device.forced, Device.causeStanding, Device.breakerClosed, Device.standing,
            show (m.sdm.ports.get .converter).standing = st from mstd, mdu, show m.env = d.env by rw [mform]]
    · have np : (p == Port.converter) = false := by simpa using hp
      simp only [np, Bool.false_eq_true, if_false, Device.post, Device.postIf]
      have whole : ∀ e : Device, e = { m with
            swc := { m.swc with switches := switches }
            handoffs := m.handoffs ++ (.envelopeRecomputation (.standing p st) :: .balStandingHandoff p st ::
              (if p = .site then [.siteStandingHandoff st] else [])) } →
          StandingSet d e p { f (d.port p) with standing := st } := by
        rintro e rfl
        refine ⟨mport, mother, ?_, fun h => absurd h (Ne.symm hst), fun _ _ => ⟨?_, ?_, swsd, gcs, fun _ => mdu, fun h => absurd h hp⟩⟩
        · intro x hx
          cases x <;> first | (simp at hx; done) | (simp only [Block.kept]; rw [mform])
        · simp only
          rw [mform]
          simp
        · show _ = _
          rw [mswc]
      apply whole
      by_cases hq : p = .site
      · subst hq; simp
      · have : (p == Port.site) = false := by simpa using hq
        simp [this, hq]

/-- R158: what a change of standing does; the record's other fields change with it. -/
theorem Device.setStanding_set (d : Device) (p : Port) {f : PortStanding → PortStanding}
    (hf : ∀ r, (f r).standing = r.standing) (st : Standing) :
    StandingSet d ((d.modPort p f).setStanding p st) p { f (d.port p) with standing := st } := by
  by_cases law : IsolationLaw d
  · exact Device.setStanding_lawful law hf st
  have std : (d.modPort p f).standing p = d.standing p := by
    show ((d.modPort p f).port p).standing = _
    simp [Device.modPort, Device.port, hf, Device.standing]
  have only : Only [.handoffs, .du, .swc, .sdm, .pif] d ((d.modPort p f).setStanding p st) :=
    (((Only.refl [.handoffs, .du, .swc, .sdm] d).modPort p f).setStanding p st).mono (by decide)
  by_cases hst : d.standing p = st
  · have e : (d.modPort p f).setStanding p st = d.modPort p f := by
      simp [Device.setStanding, Device.when, std, hst]
    rw [e] at only ⊢
    have same : { f (d.port p) with standing := st } = f (d.port p) := by
      rw [← hst, show d.standing p = (d.port p).standing from rfl, ← hf (d.port p)]
    rw [same]
    refine ⟨by simp [Device.modPort, Device.port], fun q hq => by simp [Device.modPort, Device.port, hq], only,
      fun _ => ⟨rfl, rfl, rfl⟩, fun h => absurd ((hf _).trans rfl) h⟩
  · have sdm : ((d.modPort p f).setStanding p st).sdm =
        ((d.modPort p f).modPort p fun r => { r with standing := st }).sdm := by
      have b : ((d.modPort p f).standing p != st) = true := by simp [std, hst]
      have k := swcStandingChanged_only
        (((d.modPort p f).modPort p fun r => { r with standing := st }).raise .standingChanged (.port p) (some st.code)) p .sdm
        (by decide)
      unfold Device.setStanding Device.when
      simp only [b, if_true, Device.post, Device.postIf]
      by_cases h1 : (p == Port.converter) = true <;> by_cases h2 : (p == Port.site) = true <;>
        simp only [h1, h2, if_true, Bool.false_eq_true, if_false, Device.duRefresh_eq] <;> exact k
    refine ⟨?_, fun q hq => ?_, only, fun h => absurd h (Ne.symm hst), fun _ h => absurd h law⟩
    · show ((d.modPort p f).setStanding p st).sdm.ports.get p = _
      rw [sdm]; simp [Device.modPort, Device.port]
    · show ((d.modPort p f).setStanding p st).sdm.ports.get q = _
      rw [sdm]; simp [Device.modPort, Device.port, hq]

/-- R157: what a miss does. -/
theorem Device.miss_missed (d : Device) (p : Port) (kind : MissKind) : Missed d (d.miss p kind) p kind := by
  have h := d.setStanding_set p (f := fun r =>
    { r with
      outstanding := false
      deadline := none
      lastMiss := kind
      misses := countUp 65535 r.misses
      forfeits := if r.standing = .lapsed then nextForfeits r.forfeits else r.forfeits }) (fun _ => rfl)
    (standingAfterMiss (d.port p).standing (d.port p).forfeits)
  have st : standingAfterMiss (d.port p).standing (d.port p).forfeits =
      if (d.port p).standing = .inStanding then .lapsed
      else if (d.port p).standing = .lapsed then
        (if (if (d.port p).standing = .lapsed then min 3 ((d.port p).forfeits + 1) else (d.port p).forfeits) = 3 then .barred
          else .forfeit)
      else (d.port p).standing := by
    cases hs : (d.port p).standing <;> simp [standingAfterMiss, nextForfeits]
  simp only [Missed, Device.miss]
  rw [← st]
  exact h

end Sys2Proof.Machine
end

