-- ==== Sys2Proof/Laws/Store.lean ====
section
/-! SUPPORT. What the shared operations of STO and BAL do: what follows an operation of the engine, the end of a run, the bleed set. -/

namespace Sys2Proof.Machine

/-- R177: the engine turns to a pending update or to IDLE. -/
theorem Device.proceed_proceeded (d : Device) : Proceeded d d.proceed d.sto [] := by
  unfold Proceeded Device.proceed
  refine ⟨fun h => ?_, fun h => ?_⟩
  · simp [h, Device.startUpdate, Device.modSto, Device.recordNow, Sto.begin]
  · simp [h, Device.modSto]

/-- R175: programming a table takes 20 to 60 ms. -/
theorem Sto.storeTime_bounds (x : Sto) : 20 ≤ x.storeTime ∧ x.storeTime ≤ 60 := by
  unfold Sto.storeTime; omega

/-- R179: when a pending restart takes effect. -/
theorem Device.restartReady_iff (d : Device) : d.restartReady = true ↔ d.sto.restart ≠ none ∧ RestartFree d := by
  have idles : d.sto.engine.idles = true ↔ d.sto.engine = .idle := by cases d.sto.engine <;> simp [Engine.idles]
  simp only [Device.restartReady, RestartFree, Bool.and_eq_true, Bool.not_eq_true', idles, and_assoc, List.contains_eq_mem,
    decide_eq_false_iff_not, Option.isSome_iff_ne_none]

/-- R179: a restart that is pending and free takes effect; any other waits. -/
theorem Device.settle_eq (d : Device) :
    (d.sto.restart ≠ none ∧ RestartFree d → d.settle = d.restart) ∧
    (¬(d.sto.restart ≠ none ∧ RestartFree d) → d.settle = d) := by
  rw [← d.restartReady_iff]
  constructor <;> intro h <;> simp [Device.settle, Device.when, h]

/-- R179: the check of a table fails exactly where its working contents, over the items of its copy, are not those of its kept check. -/
theorem Device.checkFails_iff (d : Device) (t : StoredTable) : d.checkFails t = true ↔ CheckFails d t := by
  cases t <;> simp [Device.checkFails, CheckFails, storedPart]

/-- R150: the end of a run. -/
theorem Device.endRun_ended (d : Device) (code : Nat) : RunEnded d (d.endRun code) code := rfl

theorem bleedFrom_getLsbD (target : Int) (xs : List Int) (q p : Nat) (hp : p < 16) :
    (bleedFrom target q xs).getLsbD p = true ↔ ∃ k v, p = q + k ∧ xs[k]? = some v ∧ target + 10 < v := by
  induction xs generalizing q with
  | nil => simp [bleedFrom]
  | cons v rest ih =>
    have one : (1#16 <<< q).getLsbD p = decide (p = q) := by
      simp only [BitVec.getLsbD_shiftLeft, hp, decide_true, Bool.true_and, BitVec.getLsbD_one]
      by_cases h : p = q
      · subst h; simp
      · by_cases h2 : p < q <;> simp [h, h2]; omega
    rw [bleedFrom, BitVec.getLsbD_or, Bool.or_eq_true, ih]
    constructor
    · rintro (h | ⟨k, w, h1, h2, h3⟩)
      · split at h
        · rename_i hv
          rw [one] at h
          exact ⟨0, v, by simpa using h, rfl, hv⟩
        · simp at h
      · exact ⟨k + 1, w, by omega, by simpa using h2, h3⟩
    · rintro ⟨k, w, h1, h2, h3⟩
      cases k with
      | zero =>
        left
        simp at h2 h1
        subst h2
        rw [if_pos h3, one]
        simp [h1]
      | succ k => exact .inr ⟨k, w, by omega, by simpa using h2, h3⟩

/-- R146: the bleed set of a record. -/
theorem bleedFrom_set (target : Nat) (vmax : List Int) : BleedSet target vmax (bleedFrom target 0 vmax) := by
  intro p hp
  rw [bleedFrom_getLsbD _ _ _ _ hp]
  exact ⟨fun ⟨k, v, h1, h2, h3⟩ => ⟨v, by simpa [h1] using h2, h3⟩, fun ⟨v, h1, h2⟩ => ⟨p, v, by simp, h1, h2⟩⟩

end Sys2Proof.Machine
end

