-- ==== Sys2Proof/Laws/Supervision.lean ====
section
/-! SUPPORT. What the shared operations of CSU do: one evaluation of a channel, the health. -/

namespace Sys2Proof.Machine

/-- R21, R22: the record of a channel after an evaluation. -/
theorem ChannelRec.evaluated (c : ChannelRec) (L H : Nat) (fails : Bool) :
    Evaluated c ((c.adjust L H).debounce fails) L H fails := by
  obtain ⟨n, t, p, l, h⟩ := c
  unfold Evaluated
  by_cases same : l = L ∧ h = H
  · obtain ⟨rfl, rfl⟩ := same
    cases p <;> cases fails <;> cases t <;> simp [ChannelRec.adjust, ChannelRec.debounce]
  · cases p <;> cases fails <;> simp [ChannelRec.adjust, ChannelRec.debounce, same]
    refine ⟨fun h1 h2 h3 => by omega, fun h1 h2 => ?_⟩
    rw [if_neg (by omega)]
    simpa using h1

theorem causesAny_iff (x : Causes) : causesAny x = true ↔ x ≠ .none := by
  obtain ⟨a, b, c, d, e⟩ := x
  cases a <;> cases b <;> cases c <;> cases d <;> cases e <;> decide

/-- R29: the health. -/
theorem healthOf_is (causes : Causes) (m : MonitorState) (channels : PerChannel ChannelRec) :
    HealthIs causes m channels (healthOf causes m channels) := by
  have h := causesAny_iff causes
  have all : (Channel.all.any fun k => (channels.get k).tripped) = true ↔ ∃ k, (channels.get k).tripped = true := by
    simp only [List.any_eq_true]
    exact ⟨fun ⟨k, _, h⟩ => ⟨k, h⟩, fun ⟨k, h⟩ => ⟨k, by cases k <;> simp [Channel.all], h⟩⟩
  unfold HealthIs healthOf
  refine ⟨fun hc => by rw [if_pos (h.mpr hc)], fun hc => ?_⟩
  have hn : ¬causesAny causes = true := fun q => h.mp q hc
  rw [if_neg hn]
  refine ⟨fun e => by rw [e], fun e => by rw [e], fun e => by rw [e], fun e q => ?_, fun e q => ?_⟩
  · rw [e]; simp only []; rw [if_pos (all.mpr q)]
  · rw [e]; simp only []; rw [if_neg (fun a => by obtain ⟨k, hk⟩ := all.mp a; simp [q k] at hk)]

end Sys2Proof.Machine
end

