-- ==== Sys2Proof/Tests/Slice0.lean ====
section
/-! SUPPORT. Tests: ill-formed commands refused, the worked examples of spec/ and hand calculations from its tables, and states that meet
the hypotheses of the statements. -/

namespace Sys2Proof.Tests

set_option Elab.async false

open Sys2Proof.Machine

/-! ## Helpers -/

/-- The part after one command. -/
def run (i : Instr) (d : Device) : Device :=
  match exec i ⟨[], d⟩ with
  | .next t => t.dev
  | _ => d

/-- The part after commands in turn. -/
def runs (is : List Instr) (d : Device) : Device := is.foldl (fun d i => run i d) d

/-- The result code and the value of the reply that pends at a port. -/
def answer (d : Device) (p : Port) : Option (Nat × Int) := (d.link p).pending.map fun r => (r.result.code, r.value.toInt)

/-- The result code alone, where the value is free. -/
def code (d : Device) (p : Port) : Option Nat := (d.link p).pending.map (·.result.code)

/-- Frames with their check computed. -/
def item (kind table index : Byte) (v : Int) : ItemFrame :=
  ⟨table, index, BitVec.ofInt 32 v, crc8 (Frame.body ⟨kind, table, index, BitVec.ofInt 32 v, 0⟩)⟩

def value (kind table index : Byte) (v : Int) : ValueFrame :=
  ⟨BitVec.ofInt 32 v, crc8 (Frame.body ⟨kind, table, index, BitVec.ofInt 32 v, 0⟩)⟩

def arg (n : Byte) (v : Int) : ServiceFrame :=
  ⟨0, BitVec.ofInt 32 v, crc8 (Frame.body ⟨3, 0, n, BitVec.ofInt 32 v, 0⟩)⟩

def nopFrame (kind table index : Byte) (v : Int) : Frame :=
  ⟨kind, table, index, BitVec.ofInt 32 v, crc8 (Frame.body ⟨kind, table, index, BitVec.ofInt 32 v, 0⟩)⟩

/-- The reset part with every port IN_STANDING. -/
def base : Device :=
  { Device.reset with
    sdm := ⟨.all { PortStanding.reset with standing := .inStanding }⟩
    du := { Du.reset with siteStanding := .inStanding, source := .site } }

/-- The part with a port's standing. -/
def withStanding (p : Port) (st : Standing) (d : Device) : Device := d.modPort p fun r => { r with standing := st }

/-- The part with a switch's state. -/
def withState (n : SwitchId) (st : SwitchState) (d : Device) : Device := d.modSw n fun r => { r with state := st }

/-! ## Ill-formed commands (WellFormed) -/

def record (n : Nat) (v : Int) : ScanRecord := ⟨0, List.replicate n ⟨v, v, some 250⟩, 0, 7600, 0, false⟩

theorem test_wf_nop_is_no_read : Instr.wf (.nop .cell ⟨1, 0, 0, 0, 0⟩) = false := by decide +kernel
theorem test_wf_nop_takes_unknown_kind : Instr.wf (.nop .cell ⟨9, 0, 0, 0, 0⟩) = true := by decide +kernel
theorem test_wf_nop_is_no_known_service : Instr.wf (.nop .cell ⟨3, 0, 19, 0, 0⟩) = false := by decide +kernel
theorem test_wf_read_is_no_generation_read : Instr.wf (.read .cell ⟨4, 2, 0, 0⟩) = false := by decide +kernel
theorem test_wf_write_leaves_own_rows :
    [(2, 32), (2, 63), (3, 33), (5, 4), (6, 2), (11, 16), (12, 1), (13, 48)].all
      (fun x => !Instr.wf (.write .site ⟨x.1, x.2, 0, 0⟩)) = true := by decide +kernel
theorem test_wf_map_index : Instr.wf (.accessMapWrite .site 49 ⟨0, 0⟩) = false := by decide +kernel
theorem test_wf_derating_index : Instr.wf (.deratingWrite .site .table3 34 ⟨0, 0⟩) = false := by decide +kernel
theorem test_wf_window_index : Instr.wf (.deratingWrite .site .window 24 ⟨0, 0⟩) = false := by decide +kernel
theorem test_wf_record_entries : Instr.wf (.csuEvaluation .s0 (.full (record 7 3400) false)) = false := by decide +kernel
theorem test_wf_record_saturated : Instr.wf (.csuEvaluation .s0 (.hardOnly (record 8 5001))) = false := by decide +kernel
theorem test_wf_copy : Instr.wf (.envelopeRecomputation (.evaluation .s0 (some ⟨[], 5001, 0, 0⟩) .available)) = false := by decide +kernel
theorem test_wf_thermal : Instr.wf (.envelopeRecomputation (.thermal 10000)) = false := by decide +kernel
theorem test_wf_sample_current : Instr.wf (.swcScanRecord .s0 5001 0) = false := by decide +kernel
theorem test_wf_bus_voltage : Instr.wf (.swcBusRecord 15001) = false := by decide +kernel
theorem test_wf_report : Instr.wf (.isolationConverterReport (-10000)) = false := by decide +kernel
theorem test_wf_bus_record : Instr.wf (.gridRecord ⟨0, 0, 0, 0, 39999⟩) = false := by decide +kernel
theorem test_wf_balance_entries : Instr.wf (.balanceRecord .s0 [3400] 0) = false := by decide +kernel
theorem test_wf_detail : Instr.wf (.eventOccurrence ⟨.gridTrip, .switch .g, some 256, false⟩) = false := by decide +kernel
theorem test_wf_subject : Instr.wf (.eventOccurrence ⟨.storeDone, .table 16, none, false⟩) = false := by decide +kernel
theorem test_wf_reset : Instr.wf .powerOnReset = true := by decide +kernel

/-- The table gives no row bits, so no word spells a command. -/
theorem test_no_word_decodes : decodeTableWord 16 0x1234 = none := rfl

/-! ## Frames and checks (R3, R163) -/

/-- By hand: 0xFF leaves the register 0, and 0x01 then leaves the polynomial. -/
theorem test_crc8_by_hand : crc8 [0xFF] = 0 ∧ crc8 [0xFF, 0x01] = 0x07 := by decide +kernel
theorem test_crc16_by_hand : crc16 [0xFF, 0xFF, 0x00, 0x01] = 0x8005 := by decide +kernel

/-- R3: the check is sent most significant byte first; one byte alone ends with no check. -/
theorem test_check_order :
    let ends (bytes : List Byte) := answerChecks ⟨bytes, ()⟩
    ends [0xFF, 0xFF, 0x00, 0x01, 0x80, 0x05] = true ∧ ends [0xFF, 0xFF, 0x00, 0x01, 0x05, 0x80] = false ∧ ends [0xFF] = false := by
  decide +kernel

/-- R163: a write of 12000 to the site order answers OK with 9999, the value stored. -/
theorem test_site_order_saturates :
    let d := run (.siteOrderWrite .site (value 2 5 0 12000)) base
    answer d .site = some (0, 9999) ∧ d.item .t5 0 = 9999 ∧ d.du.order = 9999 := by decide +kernel

/-- R162: the next transfer carries that reply out. -/
theorem test_reply_in_next_transfer :
    (((runs [.siteOrderWrite .site (value 2 5 0 12000), .incompleteTransfer .site] base).link .site).sent.map
      fun r => (r.kind, r.result, r.value)) = some (2, 0, 9999) := by decide +kernel

theorem test_bad_check : answer (run (.nop .cell ⟨0, 0, 0, 0, 0⟩) base) .cell = some (1, 0) := by decide +kernel
theorem test_nop_ok : answer (run (.nop .cell (nopFrame 0 7 7 7)) base) .cell = some (0, 0) := by decide +kernel
theorem test_unknown_kind : answer (run (.nop .cell (nopFrame 9 0 0 0)) base) .cell = some (2, 0) := by decide +kernel
theorem test_unknown_service : answer (run (.nop .cell (nopFrame 3 0 20 0)) base) .cell = some (3, 0) := by decide +kernel
theorem test_held_link :
    run (.nop .cell (nopFrame 0 0 0 0)) (run (.linkResetAssert .cell) base) = run (.linkResetAssert .cell) base := by decide +kernel

/-! ## READ and WRITE (R57, R60, R165, R167) -/

/-- R165: an item past the last, the window's ends (R59's factory values), a right of none, a table's own value, the map lock. -/
theorem test_read_rows :
    answer (run (.read .site (item 1 2 64 0)) base) .site = some (3, 0) ∧
    answer (run (.read .site (item 1 3 33 0)) base) .site = some (0, 3100) ∧
    answer (run (.read .site (item 1 3 34 0)) base) .site = some (3, 0) ∧
    answer (run (.read .site (item 1 2 40 0)) base) .site = some (0, -100) ∧
    answer (run (.read .site (item 1 2 63 0)) base) .site = some (0, 0) ∧
    answer (run (.read .cell (item 1 9 0 0)) base) .cell = some (4, 0) ∧
    answer (run (.read .cell (item 1 12 1 0)) base) .cell = some (0, 0) ∧
    answer (run (.read .cell (item 1 13 48 0)) base) .cell = some (0, 0) := by decide +kernel

/-- R57: the READ of the generation clears the flag of its port alone; a refused one keeps it. -/
theorem test_generation_read :
    (run (.generationRead .cell (value 1 4 2 0)) base).env.changed = ⟨false, true, true⟩ ∧
    let d := run (.generationRead .cell (value 1 4 2 0)) (base.setItem .t13 12 0)
    answer d .cell = some (4, 0) ∧ d.env.changed = .all true := by decide +kernel

/-- R165, R123: the rows in their order, the range and the order of table 8, whose owner is the Cell Port. -/
theorem test_write_rows :
    let ask (d : Device) (p : Port) (i : Byte) (v : Int) := answer (run (.write p (item 2 8 i v)) d) p
    let locked := { base with pif := { base.pif with ownerLocks := base.pif.ownerLocks.set .t8 true } }
    let storing := base.modSto fun x => { x with engine := .storing .t8 }
    ask base .cell 13 0 = some (3, 0) ∧ ask base .site 0 51 = some (4, 0) ∧
    ask (withStanding .cell .forfeit base) .cell 0 51 = some (6, 0) ∧ ask locked .cell 0 51 = some (5, 0) ∧
    ask storing .cell 0 51 = some (8, 0) ∧ ask base .cell 0 (-401) = some (7, 0) ∧ ask base .cell 0 100 = some (7, 0) ∧
    ask (withStanding .cell .lapsed base) .cell 0 99 = some (0, 99) := by decide +kernel

/-- R49, R141: a write of FIRE_FAULT_CAP is stored and reaches ENV. -/
theorem test_write_feeds :
    let d := run (.write .site (item 2 9 3 400)) base
    d.item .t9 3 = 400 ∧ d.handoffs = [.envelopeRecomputation .settings] := by decide +kernel

/-- R58, R60: a derating item under either address; the breakpoints stay ascending. -/
theorem test_derating :
    (run (.deratingWrite .cell .window 0 (value 2 2 40 (-90))) base).item .t3 0 = -90 ∧
    run (.deratingWrite .cell .window 23 (value 2 2 63 5)) base = run (.deratingWrite .cell .table3 23 (value 2 3 23 5)) base ∧
    answer (run (.deratingWrite .cell .table3 0 (value 2 3 0 0)) base) .cell = some (7, 0) := by decide +kernel

/-- R51: a site cap is refused outside 0..9999. -/
theorem test_site_cap :
    (run (.siteCapWrite .site .charge (value 2 5 3 250)) base).item .t5 3 = 250 ∧
    answer (run (.siteCapWrite .site .discharge (value 2 5 4 10000)) base) .site = some (7, 0) := by decide +kernel

/-- R63, R64: the ramp rate saturates at both ends, the fallback order is refused outside. -/
theorem test_orders :
    (run (.rampRateWrite .site (value 2 5 1 0)) base).item .t5 1 = 1 ∧
    (run (.rampRateWrite .site (value 2 5 1 1001)) base).item .t5 1 = 1000 ∧
    (run (.fallbackOrderWrite .site (value 2 5 2 (-9999))) base).item .t5 2 = -9999 ∧
    answer (run (.fallbackOrderWrite .site (value 2 5 2 10000)) base) .site = some (7, 0) := by decide +kernel

/-- R52: ratings saturate and need no standing. -/
theorem test_rating :
    let d := run (.ratingWrite .converter .charge (value 2 6 1 12000)) (withStanding .converter .barred base)
    answer d .converter = some (0, 9999) ∧ d.env.ratingWritten = true ∧
    (run (.ratingWrite .converter .discharge (value 2 6 2 (-5))) base).env.ratingDis = 0 := by decide +kernel

/-- R167: editable entries, their ranges, and the entries that stand. -/
theorem test_access_map :
    let ask (i : Byte) (v : Int) := answer (run (.accessMapWrite .site i (value 2 13 i v)) base) .site
    ask 6 0 = some (0, 0) ∧ ask 6 3 = some (7, 0) ∧ ask 8 1 = some (4, 0) ∧ ask 45 3 = some (0, 3) ∧ ask 46 4 = some (7, 0) ∧
    ask 47 1 = some (4, 0) ∧ ask 48 1 = some (4, 0) := by decide +kernel

/-- R172: a BARRED port still writes its own cursor and mask; a mask has 24 bits. -/
theorem test_cursor_and_mask :
    (run (.cursorWrite .cell (value 2 12 2 7)) (withStanding .cell .barred base)).evr.cursors.cell = 7 ∧
    (run (.maskWrite .cell (value 2 12 1 0xFFFFFF)) base).evr.masks.cell = 0xFFFFFF ∧
    answer (run (.maskWrite .cell (value 2 12 1 0x1000000)) base) .cell = some (7, 0) := by decide +kernel

/-! ## The string link -/

def good {α : Type} (f : α) : LinkAnswer α := ⟨withCheck [1, 2], f⟩

/-- A monitor as it stands once PRESENT, with a held record. -/
def present : Monitor :=
  { Monitor.reset with
    state := .present, identity := some ⟨12, 1, 100⟩, learned := some 12, held := some { record 12 3400 with sequence := 15 }
    age := some 0, staleIn := some 400 }

def withMonitor (n : StringId) (m : Monitor) (d : Device) : Device := d.modMonitor n fun _ => m

/-- The part with one exchange in progress on the link (R1). -/
def asking (x : Exchange) (d : Device) : Device := { d with slc := { d.slc with awaiting := [x] } }

/-- The sequence gap of the hand-off to CSU, after a held record of number 15. -/
def gapAfter (n : BitVec 4) : List Bool :=
  (run (.scanRecord (.scanPoll .s0) (good { record 12 3400 with sequence := n })) (asking (.scanPoll .s0) (withMonitor .s0 present base))).handoffs.filterMap
    fun | .csuEvaluation _ (.full _ gap) => some gap | _ => none

/-- R6: 15 is followed by 0; a repeat and a jump are gaps. -/
theorem test_sequence_gap : gapAfter 0 = [false] ∧ gapAfter 15 = [true] ∧ gapAfter 3 = [true] := by decide +kernel

/-- R6, R7: a first record brings the monitor to INTERROGATING and the string on the list. -/
theorem test_first_record :
    let d := run (.scanRecord (.scanPoll .s0) (good (record 8 3400))) (asking (.scanPoll .s0) base)
    (d.monitor .s0).state = .interrogating ∧ d.slc.identityList = [.s0] ∧
    d.handoffs = [.monitorStateReport .s0, .csuEvaluation .s0 (.hardOnly (record 8 3400)), .swcScanRecord .s0 0 7600] := by
  decide +kernel

/-- R3: a failed check, a wrong kind, an entry count of 7 or 17, and another count than the learned one are discarded and counted. -/
theorem test_discards :
    let polled := asking (.scanPoll .s0) base
    ((run (.scanRecord (.scanPoll .s0) ⟨[1, 0, 0], record 8 3400⟩) polled).monitor .s0).discarded = 1 ∧
    (run (.scanRecord .busPoll (good (record 8 3400))) (asking .busPoll base)).slc.busDiscarded = 1 ∧
    ((run (.scanRecord (.scanPoll .s0) (good (record 7 3400))) polled).monitor .s0).discarded = 1 ∧
    ((run (.scanRecord (.scanPoll .s0) (good (record 17 3400))) polled).monitor .s0).discarded = 1 ∧
    ((run (.scanRecord (.scanPoll .s0) (good (record 11 3400))) (withMonitor .s0 present polled)).monitor .s0).discarded = 1 := by
  decide +kernel

/-- R1: a second answer to one request, and an answer whose exchange the next slot or a warm restart has ended, are not taken. -/
theorem test_one_answer :
    let record := Instr.scanRecord (.scanPoll .s0) (good (record 8 3400))
    let kept (d : Device) := (run record d).slc.monitors = d.slc.monitors ∧ (run record d).handoffs = d.handoffs
    let d := run record (run .linkSlot base)
    (d.slc.awaiting = [.busPoll] ∧ (d.monitor .s0).state = .interrogating ∧ kept d) ∧
    let e := runs [.linkSlot, .linkSlot] base
    (e.slc.awaiting = [.busPoll, .scanPoll .s1] ∧ kept e) ∧
    let h := runs [.linkSlot, .restart .site (arg 19 0)] base
    h.slc.awaiting = [] ∧ kept h := by decide +kernel

/-- R4: fields outside their ranges are brought to the nearer end. -/
theorem test_saturation :
    (ModuleEntry.saturated ⟨5210, 5120, some (-450)⟩) = ⟨5000, 5000, some (-400)⟩ := by decide +kernel

/-- R1, R2, R8: slot 0 polls string 0; slot 4 asks the oldest string on the list for its identity. -/
theorem test_slots :
    let asked (d : Device) := d.slc.sent.map (·.request)
    (asked (run .linkSlot base) = [.busPoll, .scanPoll .s0 0] ∧ (run .linkSlot base).slc.slot = 1 ∧
      (run .linkSlot base).slc.awaiting = [.busPoll, .scanPoll .s0]) ∧
    let d := run .linkSlot { base with slc := { base.slc with slot := 4, identityList := [.s2, .s1] } }
    asked d = [.busPoll, .identityRequest .s2] ∧ d.slc.identityList = [.s1] ∧ (d.monitor .s2).identityTimer = some 200 ∧
    d.slc.slot = 0 := by decide +kernel

/-- R9, R13: a matching identity makes the monitor PRESENT, stale at once at an age of 400 ms; another makes it UNRECOGNIZED. -/
theorem test_identity :
    let asked (age : Nat) := asking (.identityRequest .s0)
      (withMonitor .s0 { Monitor.reset with state := .interrogating, age := some age } base)
    let after (age : Nat) (m : Nat) := (run (.identityRecord (.identityRequest .s0) (good ⟨m, 1, 100⟩)) (asked age)).monitor .s0
    (after 399 12).state = .present ∧ (after 399 12).stale = false ∧ (after 399 12).staleIn = some 1 ∧
    (after 400 12).stale = true ∧ (after 400 12).staleIn = some 100 ∧
    (after 0 11).state = .unrecognized ∧ (after 0 11).reason = .mismatch := by decide +kernel

/-- R8: the first expiry rejoins the list, the second ends in UNRECOGNIZED. -/
theorem test_identity_timer :
    let after (n : Nat) := run (.identityTimerExpiry .s0)
      (withMonitor .s0 { Monitor.reset with state := .interrogating, attempts := n, identityTimer := some 0 } base)
    (after 1).slc.identityList = [.s0] ∧ ((after 2).monitor .s0).state = .unrecognized ∧
    ((after 2).monitor .s0).reason = .noIdentity := by decide +kernel

/-- R13, R14: stale expiries come every 100 ms up to 2000 ms; a loss keeps the discard count alone. -/
theorem test_stale_and_loss :
    let late (age : Nat) := withMonitor .s0 { present with age := some age, staleIn := some 100, discarded := 3 } base
    ((run (.staleExpiry .s0) (late 1800)).monitor .s0).age = some 1900 ∧
    run (.staleExpiry .s0) (late 1900) = late 1900 ∧
    (run (.monitorLoss .s0) (late 2000)).monitor .s0 = { Monitor.reset with discarded := 3 } := by decide +kernel

/-- R15: a bus record is held and fresh for 100 ms; the stale bus goes to GWM and SWC. -/
theorem test_bus :
    let d := run (.busRecord .busPoll (good ⟨7600, 2300, 2300, 2300, 50000⟩)) (asking .busPoll base)
    d.slc.busStale = false ∧ d.slc.busTimer = some 100 ∧
    let e := run .busStaleOnset { d with handoffs := [] }
    e.slc.busStale = true ∧ e.handoffs = [.gwmBusStale, .swcBusStale] := by decide +kernel

/-- R12: PRESENT loses a mismatching identity; UNRECOGNIZED is marked for another interrogation. -/
theorem test_expectation :
    let write := Instr.expectationRewrite .cell .s0 .moduleCount (value 2 2 32 10)
    ((run write (withMonitor .s0 present base)).monitor .s0).state = .unrecognized ∧
    ((run write (withMonitor .s0 { present with state := .unrecognized } base)).monitor .s0).reinterrogate = true ∧
    answer (run (.expectationRewrite .cell .s3 .chemistry (value 2 2 39 3)) base) .cell = some (7, 0) := by decide +kernel

/-! ## Supervision (worked examples of the cell supervision chapter) -/

/-- A PRESENT string 0 with one channel's record, and that record after one full evaluation of a record of `n` modules at v. -/
def channelAfter (k : Channel) (c : ChannelRec) (v : Int) (gap : Bool) (d : Device) : ChannelRec :=
  ((run (.csuEvaluation .s0 (.full (record 12 v) gap)) ((withMonitor .s0 present d).modChannel .s0 k fun _ => c)).sup
    .s0).channels.get k

/-- OV with limit 4 and hold 20: failures count 2, passes 1; 5 reaches the limit and becomes 24; below 4 the channel clears. -/
theorem test_debounce :
    let ov (n : Nat) (tripped : Bool) : ChannelRec := ⟨n, tripped, false, 4, 20⟩
    channelAfter .ov (ov 0 false) 3651 false base = ov 2 false ∧ channelAfter .ov (ov 2 false) 3650 false base = ov 1 false ∧
    channelAfter .ov (ov 3 false) 3700 false base = ov 24 true ∧ channelAfter .ov (ov 14 true) 3700 false base = ov 24 true ∧
    channelAfter .ov (ov 5 true) 3400 false base = ov 4 true ∧ channelAfter .ov (ov 4 true) 3400 false base = ov 3 false := by
  decide +kernel

/-- MEAS tripped at 16 with limit 6 and hold 10 takes limit 20 at the next evaluation: it clears, then counts to 18. -/
theorem test_limit_changed_under_trip :
    let d := (withMonitor .s0 present (base.setItem .t2 28 20)).modChannel .s0 .meas fun _ => ⟨16, true, false, 6, 10⟩
    let e := run (.csuEvaluation .s0 (.full (record 12 3400) true)) d
    (e.sup .s0).channels.meas = ⟨18, false, false, 20, 10⟩ ∧
    e.handoffs.head? = some (.eventOccurrence ⟨.channelCleared, .string .s0, some 6, false⟩) ∧
    channelAfter .meas ⟨18, false, false, 20, 10⟩ 3400 true (base.setItem .t2 28 20) = ⟨30, true, false, 20, 10⟩ := by
  decide +kernel

/-- A record whose cells span vmin..vmax. -/
def span (lo hi : Int) : ScanRecord := { record 12 lo with modules := ⟨hi, lo, some 250⟩ :: List.replicate 11 ⟨lo, lo, some 250⟩ }

/-- 3762 above 3750: OV pinned at 255, the cause OV_HARD, LOCKED_OUT; the spread of 342 fails SPREAD. -/
theorem test_hard_overvoltage :
    let d := run (.csuEvaluation .s1 (.full (span 3420 3762) false))
      (withMonitor .s1 present (base.modSup .s1 fun u => { u with health := .available }))
    (d.sup .s1).channels.ov = ⟨255, true, true, 4, 20⟩ ∧ (d.sup .s1).channels.spread = ⟨2, false, false, 6, 10⟩ ∧
    (d.sup .s1).causes = { Causes.none with ovHard := true } ∧ (d.sup .s1).health = .lockedOut ∧
    d.handoffs.take 5 = [.eventOccurrence ⟨.channelTripped, .string .s1, some 0, false⟩,
      .eventOccurrence ⟨.stringLockout, .string .s1, some 1, false⟩, .updateRequest, .healthHandoffSwc .s1 .lockedOut,
      .balHealthHandoff .s1 .lockedOut] := by decide +kernel

/-- R25, R33: a weld is a cause once; a monitor report derives the health alone. -/
theorem test_weld_and_monitor_report :
    let d := run (.weldReport .s0) base
    (d.sup .s0).causes = { Causes.none with weld := true } ∧ (d.sup .s0).health = .lockedOut ∧
    (run (.weldReport .s0) { d with handoffs := [] }).handoffs = [] ∧
    let e := run (.monitorStateReport .s0) (withMonitor .s0 { present with state := .interrogating } base)
    (e.sup .s0).health = .interrogating ∧ e.handoffs = [.healthHandoffSwc .s0 .interrogating,
      .balHealthHandoff .s0 .interrogating, .envelopeRecomputation (.health .s0 .interrogating)] := by decide +kernel

/-- String 1 locked out for OV_HARD with its last record held, its monitor PRESENT and fresh. -/
def locked (r : ScanRecord) : Device :=
  withMonitor .s1 { present with held := some r } (base.modSup .s1 fun u =>
    { u with causes := { Causes.none with ovHard := true }, health := .lockedOut, channels := { u.channels with ov := ⟨255, true, true, 4, 20⟩ } })

/-- R27, row by row. -/
theorem test_release_rows :
    let ask (p : Port) (v : Int) (d : Device) := answer (run (.releaseLockout p (arg 6 v)) d) p
    let d := locked (span 3484 3600)
    ask .cell 1 d = some (4, 0) ∧ ask .site 1 (withStanding .site .unchecked d) = some (6, 0) ∧ ask .site 4 d = some (7, 0) ∧
    ask .site 0 d = some (9, 1) ∧ ask .site 1 (withState .s1 .opening d) = some (9, 2) ∧
    ask .site 1 (d.modMonitor .s1 fun m => { m with stale := true }) = some (9, 3) ∧
    ask .site 1 (locked (span 3460 3680)) = some (9, 4) ∧ ask .site 1 d = some (0, 0) := by decide +kernel

/-- R28: the set is emptied, OV stands at 24 and tripped, the string is TRIPPED. -/
theorem test_release :
    let d := run (.releaseLockout .site (arg 6 1)) (locked (span 3484 3600))
    (d.sup .s1).causes = .none ∧ (d.sup .s1).channels.ov = ⟨24, true, false, 4, 20⟩ ∧ (d.sup .s1).health = .tripped ∧
    d.handoffs = [.updateRequest, .healthHandoffSwc .s1 .tripped, .balHealthHandoff .s1 .tripped,
      .envelopeRecomputation (.health .s1 .tripped)] := by decide +kernel

/-! ## The envelope (the BATTERY example and the envelope sequence) -/

/-- The factors of R43 with the factory tables: the charge table at −50, 470 and 350, the discharge table at 473. -/
theorem test_derating_factors :
    let chg := derateFactor (fun k => base.item .t3 k) (fun k => base.item .t3 (6 + k))
    let dis := derateFactor (fun k => base.item .t3 (12 + k)) (fun k => base.item .t3 (18 + k))
    chg (-101) = 0 ∧ chg (-50) = 102 ∧ chg 251 = 942 ∧ chg 350 = 1024 ∧ chg 360 = 973 ∧ chg 425 = 640 ∧ chg 470 = 410 ∧
    chg 550 = 0 ∧ dis 251 = 978 ∧ dis 300 = 990 ∧ dis 473 = 789 := by decide +kernel

theorem test_tapers :
    chargeTaper 3400 3550 3401 = 1017 ∧ chargeTaper 3400 3550 3452 = 669 ∧ chargeTaper 3400 3550 3400 = 1024 ∧
    chargeTaper 3400 3550 3550 = 0 ∧ dischargeTaper 3050 2900 3000 = 682 ∧ currentLimit 2800 942 669 = 1682 ∧
    currentLimit 2800 640 1024 = 1750 := by decide +kernel

/-- The state of the BATTERY example, with a site cap for charge, a thermal limit and a grant. -/
def station (cap : Int) (thermal : Nat) (grant : Int) : Device :=
  let copy0 : EnvCopy := ⟨[251, 290, 305, 318, 322, 329, 331, 338, 340, 346, 352, 360].map some, 3452, 3398, 7652⟩
  let copy1 : EnvCopy := ⟨[some 300, some 350, some 425, none], 3390, 3370, 7660⟩
  let d := withState .g .closed (base.setItem .t5 3 cap)
  ({ d with
    env := { d.env with
      strings := ⟨⟨some copy0, .available, .closed, false⟩, ⟨some copy1, .available, .closed, false⟩,
        ⟨some copy1, .tripped, .closed, true⟩, ⟨none, .absent, .opened, false⟩⟩
      cellStanding := .inStanding, thermal := thermal, breaker := .closed, window := .inWindow, ratingChg := 500
      ratingDis := 600, ratingWritten := true, generation := 1207, changed := .all false }
    du := { d.du with granted := grant, order := grant, target := grant } } : Device).envForm

theorem test_battery_example :
    let e := (station 250 400 0).env
    e.terms.battery = ⟨262, 411, true⟩ ∧ e.chg = 250 ∧ e.dis = 400 ∧ e.bindChg = [.siteCap] ∧ e.bindDis = [.thermal] ∧
    e.contributions.s0 = ⟨true, 942, 669, 1682, 978, 1024, 2674, 7652⟩ ∧ e.contributions.s2.counted = false ∧
    e.contributions.s3 = .zero := by decide +kernel

/-- Step 1: the cap at 9999 leaves BATTERY to bind charge. -/
theorem test_envelope_grows :
    let d := run (.envelopeRecomputation .settings) ((station 250 400 (-240)).setItem .t5 3 9999)
    d.env.chg = 262 ∧ d.env.dis = 400 ∧ d.env.bindChg = [.battery] ∧ d.env.generation = 1208 ∧ d.env.changed = .all true ∧
    d.handoffs = [.eventOccurrence ⟨.bindingSourceChanged, .table 4, some 1, false⟩] ∧ d.du.granted = -240 := by decide +kernel

/-- Steps 3 and 4: the Cell Port's FORFEIT halves the envelope and clamps the grant; a higher cell voltage narrows it again. -/
theorem test_envelope_shrinks :
    let d := run (.envelopeRecomputation (.standing .cell .forfeit)) (station 9999 400 (-240))
    d.env.chg = 131 ∧ d.env.dis = 205 ∧ d.env.bindChg = [.rack] ∧ d.env.bindDis = [.rack] ∧ d.du.granted = -131 ∧
    d.handoffs = [.eventOccurrence ⟨.bindingSourceChanged, .table 4, some 3, false⟩,
      .eventOccurrence ⟨.dispatchClamped, .table 5, some 1, false⟩] ∧
    let copy : EnvCopy := { (d.env.strings.s0.copy.getD ⟨[], 0, 0, 0⟩) with vmax := 3470 }
    let e := run (.envelopeRecomputation (.evaluation .s0 (some copy) .available)) { d with handoffs := [] }
    e.env.terms.battery = ⟨239, 411, true⟩ ∧ e.env.chg = 119 ∧ e.env.dis = 205 ∧ e.du.granted = -119 ∧
    e.env.generation = 1209 ∧ e.handoffs = [.eventOccurrence ⟨.dispatchClamped, .table 5, some 1, false⟩] := by decide +kernel

/-! ## Dispatch -/

/-- R72: the tolerance at three grants. -/
theorem test_tolerance :
    let tol (g : Int) := ({ base with du := { base.du with granted := g } } : Device).duTolerance
    tol (-2400) = 48 ∧ tol 350 = 7 ∧ tol 9999 = 199 ∧ tol 0 = 5 := by decide +kernel

/-- The converter controller in RUN at a ramp rate of 400 kW/s, with an order, a grant and a report made. -/
def ramping (order grant : Int) : Device :=
  let d := (station 250 400 0).setItem .t5 1 400
  { d with du := { d.du with order := order, granted := grant, target := order, reported := true, rampTimer := if order = grant then none else some 0 } }

/-- The ramp steps 40 kW at a time and ends on the target. -/
theorem test_ramp :
    (run .rampStep (ramping 300 0)).du.granted = 40 ∧ (run .rampStep (ramping 300 0)).du.rampTimer = some 100 ∧
    (run .rampStep (ramping 300 270)).du.granted = 300 ∧ (run .rampStep (ramping 300 270)).du.rampTimer = none ∧
    (run .rampStep (ramping (-300) 0)).du.granted = -40 ∧ (run .rampStep (ramping 300 300)).du.granted = 300 := by decide +kernel

/-- THERMAL at 150 clamps a grant of +160 and stops the ramp. -/
theorem test_clamp :
    let d := run (.envelopeRecomputation (.thermal 150)) (ramping 300 160)
    d.du.granted = 150 ∧ d.du.target = 150 ∧ d.du.rampTimer = none ∧ d.env.chg = 150 ∧ d.env.dis = 150 ∧
    d.handoffs.getLast? = some (.eventOccurrence ⟨.dispatchClamped, .table 5, some 2, false⟩) := by decide +kernel

/-- The report sequence: +110 at a grant of 120 and 195 at 190 are within, 160 at 150 is over and starts the overrun timer. -/
theorem test_reports :
    let d (report grant : Int) := run (.converterReport .converter (value 2 6 0 report)) (ramping grant grant)
    (d 110 120).du.judgment = .within ∧ (d 195 190).du.judgment = .within ∧ (d 160 150).du.judgment = .over ∧
    (d 160 150).du.overrunTimer = some 1000 ∧ (d 160 150).du.reportTimer = some 1000 ∧
    (d 160 150).handoffs = [.isolationConverterReport 160, .envelopeRecomputation .settings] ∧
    answer (run (.converterReport .site (value 2 6 0 3)) base) .site = some (4, 0) := by decide +kernel

/-- The converter falls silent at +300: the grant is 0 in one event, with detail 2; a later report of +3 ends the staleness. -/
theorem test_report_stale :
    let d := run .reportStaleExpiry ({ ramping 300 300 with
      du := { (ramping 300 300).du with reportTimer := some 0 } } : Device)
    d.du.granted = 0 ∧ d.du.target = 0 ∧ d.du.reportStale = true ∧
    d.handoffs = [.eventOccurrence ⟨.converterOverrun, .port .converter, some 2, false⟩] ∧
    let e := run (.converterReport .converter (value 2 6 0 3)) d
    e.du.reportStale = false ∧ e.du.target = 300 ∧ e.du.rampTimer = some 100 ∧ e.du.judgment = .within := by decide +kernel

/-- R79: after a restart the grant waits for the first report. -/
theorem test_first_report :
    let waiting : Device := { ramping 300 0 with du := { (ramping 300 0).du with reported := false, rampTimer := none } }
    (run (.siteStandingHandoff .inStanding) waiting).du.rampTimer = none ∧
    let d := run (.converterReport .converter (value 2 6 0 0)) waiting
    d.du.reported = true ∧ d.du.rampTimer = some 100 ∧ d.du.granted = 0 := by decide +kernel

theorem test_overrun :
    let d := run .overrunExpiry ({ ramping 150 150 with du := { (ramping 150 150).du with overrunTimer := some 0 } } : Device)
    d.handoffs = [.eventOccurrence ⟨.converterOverrun, .port .converter, some 1, false⟩, .forcedOpen] ∧
    d.du.overrunTimer = none ∧ run .overrunExpiry base = base := by decide +kernel

/-- R64: without the Site Port's trust the fallback order stands. -/
theorem test_site_standing :
    let d := run (.siteStandingHandoff .forfeit) ((ramping 300 300).setItem .t5 2 (-50))
    d.du.order = -50 ∧ d.du.source = .fallback ∧ d.du.target = -50 ∧ d.du.granted = 300 ∧
    (run (.siteStandingHandoff .lapsed) d).du.source = .site := by decide +kernel

/-! ## Switching (the joining, fire and isolation sequences) -/

/-- All switches OPEN with clear flags, strings 0 to 2 at 7652, 7660 and 7655, a fresh bus at `dc`, GWM PERMITTED. -/
def ready (dc : Int) : Device :=
  (base.modSwc fun c => { c with
    health := .all .available, samples := ⟨some ⟨0, 7652⟩, some ⟨0, 7660⟩, some ⟨0, 7655⟩, none⟩, busVoltage := dc, busStale := false
    window := .permitted }).deriveInhibits

/-- A contactor or breaker as it stands in a state, with its feedback. -/
def standing (n : SwitchId) (st : SwitchState) (shut : Bool) (d : Device) : Device :=
  let d := withState n st d
  ({ d with pins := { d.pins with feedback := d.pins.feedback.set n shut } } : Device).deriveInhibits

/-- Strings 0 and 1 and the breaker CLOSED. -/
def joined : Device := standing .s0 .closed true (standing .s1 .closed true (standing .g .closed true (ready 7650)))

def withSelection (n : SwitchId) (p : Port) (a : Action) (d : Device) : Device :=
  d.modSw n fun r => { r with selection := some ⟨p, a, 10000⟩ }

/-- R84, row by row. -/
theorem test_select_rows :
    let ask (p : Port) (table index : Byte) (v : Int) (d : Device) := code (run (.select p (item 6 table index v)) d) p
    let d := ready 0
    ask .cell 8 0 1 d = some 3 ∧ ask .cell 7 5 1 d = some 3 ∧ ask .cell 7 0 3 d = some 7 ∧ ask .cell 7 4 1 d = some 4 ∧
    ask .cell 7 0 1 (withStanding .cell .lapsed d) = some 6 ∧ ask .cell 7 1 1 (withSelection .s0 .cell .close d) = some 9 ∧
    ask .site 7 0 1 (withSelection .s0 .cell .close d) = some 8 ∧ ask .cell 7 0 2 (withState .s0 .opening d) = some 8 ∧
    ask .cell 7 0 2 d = some 9 ∧ ask .cell 7 0 1 (withState .s0 .welded d) = some 9 ∧
    answer (run (.select .converter (item 6 7 4 1)) d) .converter = some (10, 128) ∧ ask .cell 7 0 1 d = some 0 := by
  decide +kernel

/-- A taken SELECT stands for SELECT_TIME, 10 s; a bus 201 away from the string is a MISMATCH once another string is CLOSED. -/
theorem test_select_taken_and_refused :
    ((run (.select .cell (item 6 7 0 1)) (ready 0)).sw .s0).selection = some ⟨.cell, .close, 10000⟩ ∧
    let d := run (.select .cell (item 6 7 1 1)) (standing .s0 .closed true (ready 7459))
    answer d .cell = some (10, 16) ∧ (d.sw .s1).badJoin = true ∧ (d.sw .s1).lastResult = .refused ∧
    code (run (.select .cell (item 6 7 1 1)) (standing .s0 .closed true (ready 7460))) .cell = some 0 := by decide +kernel

/-- R87: an OPERATE without the selection, with the other action (which cancels it), under a FIRE inhibit (value 2), and taken. -/
theorem test_operate_rows :
    let ask (v : Int) (d : Device) := run (.operate .cell (item 7 7 3 v)) d
    let d := withSelection .s3 .cell .close (ready 0)
    let burning := (d.modSwc fun c => { c with fireStage := .prealarm }).deriveInhibits
    code (ask 1 (ready 0)) .cell = some 9 ∧ code (ask 2 d) .cell = some 9 ∧ ((ask 2 d).sw .s3).selection = none ∧
    answer (ask 1 burning) .cell = some (10, 2) ∧ ((ask 1 burning).sw .s3).selection = none ∧
    ((ask 1 burning).sw .s3).lastResult = .refused ∧ code (ask 1 (withStanding .cell .lapsed d)) .cell = some 6 ∧
    code (ask 1 d) .cell = some 0 := by decide +kernel

/-- A string PRECHARGES for 5000 ms, the breaker is CLOSING for 150 ms, an opening with closed feedback is OPENING for 200 ms. -/
theorem test_operate_starts :
    let string := (run (.operate .cell (item 7 7 0 1)) (withSelection .s0 .cell .close (ready 0))).sw .s0
    let breaker := (run (.operate .converter (item 7 7 4 1))
      (withSelection .g .converter .close (standing .s0 .closed true (ready 7650)))).sw .g
    let opening := (run (.operate .cell (item 7 7 0 2)) (withSelection .s0 .cell .opening joined)).sw .s0
    (string.state = .precharging ∧ string.timer = some 5000 ∧ string.selection = none) ∧
    (breaker.state = .closing ∧ breaker.timer = some 150) ∧ opening.state = .opening ∧ opening.timer = some 200 := by
  decide +kernel

/-- R85, R86: CANCEL and the expiry of the select timer. -/
theorem test_cancel_and_select_expiry :
    let d := withSelection .s1 .cell .close (ready 0)
    code (run (.cancel .cell (item 8 0 0 0)) d) .cell = some 0 ∧
    ((run (.cancel .cell (item 8 0 0 0)) d).sw .s1).selection = none ∧
    code (run (.cancel .site (item 8 0 0 0)) d) .site = some 9 ∧
    ((run (.selectExpiry .s1) d).sw .s1).selection = none ∧
    ((run (.selectExpiry .s1) d).sw .s1).lastResult = .selectExpired := by decide +kernel

/-- The bus rises past PRECHARGING: 7530 is 122 away, 7560 is 92 away and brings CLOSING for 200 ms. -/
theorem test_precharge :
    let d := withState .s0 .precharging (ready 0)
    ((run (.swcBusRecord 7530) d).sw .s0).state = .precharging ∧
    ((run (.swcBusRecord 7560) d).sw .s0).state = .closing ∧ ((run (.swcBusRecord 7560) d).sw .s0).timer = some 200 ∧
    let e := run (.prechargeExpiry .s0) d
    (e.sw .s0).state = .opened ∧ (e.sw .s0).failure = true ∧ (e.sw .s0).lastResult = .failed ∧
    e.handoffs.getLast? = some (.eventOccurrence ⟨.switchFailed, .switch .s0, some 1, false⟩) := by decide +kernel

/-- S0's feedback closes: CLOSED with SWITCH_DONE, and NO_STRING leaves the breaker's set. -/
theorem test_close_completes :
    let d := run (.feedbackChange .s0 true) (withState .s0 .closing (ready 7560))
    (d.sw .s0).state = .closed ∧ (d.sw .s0).lastResult = .done ∧ (d.sw .g).inhibits.code = 0 ∧
    d.handoffs = [.envelopeRecomputation (.stringSwitch .s0 .closed false), .stringStateReportClc .s0 .closed,
      .eventOccurrence ⟨.switchDone, .switch .s0, some 1, false⟩] ∧
    ((run (.closeFeedbackExpiry .s0) (withState .s0 .closing (ready 7560))).sw .s0).failure = true := by decide +kernel

/-- A dropout of a CLOSED switch, and a feedback that closes at rest. -/
theorem test_feedback_out_of_turn :
    let d := run (.feedbackChange .g false) joined
    (d.sw .g).state = .opened ∧ (d.sw .g).failure = true ∧
    d.handoffs.getLast? = some (.eventOccurrence ⟨.switchFailed, .switch .g, some 4, false⟩) ∧
    let e := run (.feedbackChange .s2 true) (ready 0)
    (e.sw .s2).state = .welded ∧ e.handoffs.getLast? = some (.weldReport .s2) := by decide +kernel

/-- The fire sequence: ALARM opens the CLOSED switches, aborts the pre-charge, whose feedback is open, and drops a selection. -/
theorem test_fire_alarm_opens :
    let d := run (.fireStageHandoffSwc .alarm) (withSelection .s3 .cell .close (withState .s2 .precharging joined))
    ((d.sw .s0).state = .opening ∧ (d.sw .s0).timer = some 200) ∧ ((d.sw .g).state = .opening ∧ (d.sw .g).timer = some 150) ∧
    ((d.sw .s2).state = .opened ∧ (d.sw .s2).lastResult = .aborted) ∧ (d.sw .s3).selection = none ∧
    Instr.eventOccurrence ⟨.switchDone, .switch .s2, some 2, false⟩ ∈ d.handoffs := by decide +kernel

/-- S1's opening ends in a weld, which its feedback clears later. -/
theorem test_weld :
    let d := run (.openFeedbackExpiry .s1) (withState .s1 .opening joined)
    (d.sw .s1).state = .welded ∧ (d.sw .s1).lastResult = .failed ∧
    d.handoffs.drop 2 = [.eventOccurrence ⟨.switchFailed, .switch .s1, some 3, false⟩, .weldReport .s1] ∧
    let e := run (.feedbackChange .s1 false) d
    (e.sw .s1).state = .opened ∧ (e.sw .s1).lastResult = .failed ∧
    e.handoffs.getLast? = some (.eventOccurrence ⟨.switchDone, .switch .s1, some 3, false⟩) := by decide +kernel

/-- R31, R94: a soft trip waits 500 ms for a current of at most 20; a lockout opens at once. -/
theorem test_soft_trip :
    let d := run (.healthHandoffSwc .s0 .tripped) joined
    (d.sw .s0).state = .closed ∧ (d.sw .s0).openDelay = some 500 ∧
    ((run (.swcScanRecord .s0 21 7652) d).sw .s0).state = .closed ∧
    ((run (.swcScanRecord .s0 (-20) 7652) d).sw .s0).state = .opening ∧
    ((run (.openDelayExpiry .s0) d).sw .s0).state = .opening ∧
    ((run (.healthHandoffSwc .s0 .lockedOut) joined).sw .s0).state = .opening := by decide +kernel

/-- R95: a loss interrupts a string that is closing; R15, R101: what SWC holds of the bus and the window. -/
theorem test_records_at_swc :
    ((run (.swcMonitorLoss .s0) (withState .s0 .closing (ready 0))).sw .s0).interrupted = true ∧
    ((run (.swcMonitorLoss .s0) (ready 0)).sw .s0).interrupted = false ∧
    ((run .swcBusStale (ready 0)).sw .s0).inhibits.code = 32 ∧
    ((run (.gridWindowHandoffSwc .inWindow) (ready 0)).sw .g).inhibits.code = 64 + 128 ∧
    ((run .forcedOpen joined).sw .g).state = .opening := by decide +kernel

/-- R96, row by row. -/
theorem test_clear_switch :
    let failed := (ready 0).modSw .s0 fun r => { r with failure := true, interrupted := true, badJoin := true }
    let ask (p : Port) (v : Int) (d : Device) := run (.clearSwitch p (arg 7 v)) d
    code (ask .cell 5 failed) .cell = some 7 ∧ code (ask .cell 4 failed) .cell = some 4 ∧
    code (ask .cell 0 (withStanding .cell .lapsed failed)) .cell = some 6 ∧
    code (ask .cell 0 (withState .s0 .welded failed)) .cell = some 9 ∧
    let d := ask .cell 0 failed
    code d .cell = some 0 ∧ (d.sw .s0).failure = false ∧ (d.sw .s0).interrupted = false ∧ (d.sw .s0).badJoin = true ∧
    (d.sw .s0).inhibits.failed = false := by decide +kernel

/-- A station at rest is ISOLATED at once; RANGE outside 0 and 1. -/
theorem test_isolation_at_rest :
    let ask (v : Int) (d : Device) := run (.isolationRequestWrite .site (value 2 11 16 v)) d
    let d := ask 1 (ready 0)
    d.swc.isolation = .isolated ∧ answer d .site = some (0, 1) ∧ (d.sw .s0).inhibits.code = 8 ∧
    d.handoffs = [.envelopeRecomputation (.isolation true)] ∧ (ask 0 d).swc.isolation = .released ∧
    answer (ask 2 (ready 0)) .site = some (7, 0) := by decide +kernel

/-- The isolation sequence: the breaker opens at the report of +3, then the strings, then the status is ISOLATED. -/
theorem test_isolation_running :
    let d := run (.isolationRequestWrite .site (value 2 11 16 1)) joined
    d.swc.isolation = .isolating ∧ d.swc.isolationTimer = some 2000 ∧
    code (run (.isolationRequestWrite .site (value 2 11 16 0)) d) .site = some 9 ∧
    ((run (.isolationConverterReport 120) d).sw .g).state = .closed ∧
    let e := run (.isolationConverterReport 3) d
    ((e.sw .g).state = .opening ∧ (e.sw .g).timer = some 150 ∧ e.swc.isolationTimer = none) ∧
    ((run .isolationTimerExpiry d).sw .g).state = .opening ∧
    let h := run (.feedbackChange .g false) e
    ((h.sw .g).state = .opened ∧ (h.sw .s0).state = .opening ∧ (h.sw .s1).timer = some 200) ∧
    (runs [.feedbackChange .s0 false, .feedbackChange .s1 false] h).swc.isolation = .isolated := by decide +kernel

/-! ## The grid window (a dip, a swell and a trip) -/

/-- A bus record with its second phase and frequency. -/
def bus (phase : Int) (freq : Int) : BusRecord := ⟨7650, 2300, phase, 2310, freq⟩

/-- GWM in a window state, its breaker CLOSED. -/
def grid (w : WindowState) : Device := base.modGwm fun g => { g with window := w, breaker := .closed, busStale := false }

theorem test_bands :
    let c (phase freq : Int) := let c := base.classify (bus phase freq); (c.volt, c.ratio, c.freq)
    c 2295 50010 = (.normal, 1004, .normal) ∧ c 1600 50000 = (.lowRide, 695, .normal) ∧ c 1050 50000 = (.lowTrip, 456, .normal) ∧
    c 1620 51200 = (.lowRide, 704, .ride) ∧ c 2600 51200 = (.highRide, 1130, .ride) ∧ c 2900 52001 = (.highTrip, 1260, .trip) ∧
    ((base.setItem .t10 1 1).classify (bus 2300 60010)).freq = .normal := by decide +kernel

/-- The dip: 695 gives a limit of 1500 ms, 456 starts the trip delay of 150 ms, the swell lowers the limit to 1000 ms. -/
theorem test_ride_through :
    let d := run (.gridRecord (bus 1600 50000)) (grid .inWindow)
    d.gwm.window = .rideThrough ∧ d.gwm.ride = some ⟨0, some 1500⟩ ∧
    d.handoffs = [.envelopeRecomputation (.window .rideThrough), .gridWindowHandoffSwc .rideThrough] ∧
    (run (.gridRecord (bus 1050 50000)) d).gwm.trip = some ⟨0, 150, .lowVoltage⟩ ∧
    (run (.gridRecord (bus 1600 50000)) (run (.gridRecord (bus 1050 50000)) d)).gwm.trip = none ∧
    (run (.gridRecord (bus 2600 51200)) d).gwm.ride = some ⟨0, some 1000⟩ ∧
    (run (.gridRecord (bus 2295 50010)) d).gwm.window = .inWindow := by decide +kernel

/-- R103: the details of the trips, and TRIPPED leaves with the breaker's report. -/
theorem test_trips :
    let riding (t : Option TripTimer) := (grid .rideThrough).modGwm fun g => { g with ride := some ⟨1000, some 1000⟩, trip := t }
    let trips (d : Device) (detail : Nat) := d.gwm.window = .tripped ∧
      d.handoffs.take 2 = [.eventOccurrence ⟨.gridTrip, .switch .g, some detail, false⟩, .forcedOpen]
    trips (run (.gridRecord (bus 2900 50000)) (grid .inWindow)) 1 ∧ trips (run .rideThroughExpiry (riding none)) 3 ∧
    trips (run .tripDelayExpiry (riding (some ⟨150, 150, .lowVoltage⟩))) 2 ∧
    trips (run .tripDelayExpiry (riding (some ⟨200, 200, .busStale⟩))) 5 ∧
    let d := run (.breakerReportGwm .opening) (grid .tripped)
    d.gwm.window = .holdOff ∧ d.gwm.holdOffLeft = 300000 ∧ d.gwm.holdOffRunning = false := by decide +kernel

/-- R101: the hold-off runs in normal conditions, and its expiry permits; a bad record or a stale bus takes the permission away. -/
theorem test_hold_off :
    (run (.gridRecord (bus 2295 50010)) base).gwm.holdOffRunning = true ∧
    let waiting := base.modGwm fun g => { g with holdOffRunning := true, holdOffLeft := 0 }
    let d := run .holdOffExpiry waiting
    d.gwm.window = .permitted ∧ d.handoffs.head? = some (.eventOccurrence ⟨.gridReconnectPermitted, .switch .g, none, false⟩) ∧
    (run (.breakerReportGwm .closed) d).gwm.window = .inWindow ∧
    (run (.gridRecord (bus 1600 50000)) d).gwm.window = .holdOff ∧
    (run .gwmBusStale (d.modGwm fun g => { g with breaker := .closing })).handoffs.getLast? = some .forcedOpen ∧
    (run .gwmBusStale (grid .inWindow)).gwm.trip = some ⟨0, 200, .busStale⟩ := by decide +kernel

/-! ## The cooling loop (a winter morning, a summer afternoon) -/

/-- SLC offers Tmin and Tmax. -/
def warm (lo hi : Int) (d : Device) : Device :=
  withMonitor .s0 { present with
    held := some { record 12 3400 with modules := ⟨3400, 3400, some hi⟩ :: List.replicate 11 ⟨3400, 3400, some lo⟩ } } d

def sample : Instr := .coolingSample 200 200 200

theorem test_cooling_functions :
    fanSpeed 300 250 320 = 71 ∧ fanSpeed 324 250 320 = 100 ∧ fanSpeed 255 250 320 = 20 ∧ base.demandFrom 0 385 = 3 ∧
    base.demandFrom 3 325 = 1 ∧ base.demandFrom 0 324 = 1 ∧ base.tempCapAt 450 = 1400 ∧ base.tempCapAt 500 = 400 ∧
    base.tempCapAt 420 = 9999 ∧ base.tempCapAt 520 = 0 := by decide +kernel

theorem test_winter_morning :
    let d := run sample (warm (-250) (-180) base)
    (d.clc.mode = .heat ∧ d.clc.pump = true ∧ d.clc.flow = .starting ∧ d.clc.flowTimer = some 10000) ∧
    (d.clc.heaterAsked = 2 ∧ d.clc.heater = 0 ∧ d.clc.recirculation = true) ∧
    let e := run (.flowSwitchChange true) d
    (e.clc.flow = .confirmed ∧ e.clc.heater = 2) ∧ (run sample (warm 1 60 e)).clc.heater = 1 ∧
    let h := run sample (warm 101 150 e)
    h.clc.mode = .idle ∧ h.clc.pump = false ∧ h.clc.flow = .none ∧ h.clc.heater = 0 := by decide +kernel

/-- The flow does not come: a fault with detail 3 and THERMAL at 100, then a retry that flow proves. -/
theorem test_flow_fault :
    let d := run .flowConfirmExpiry (run sample (warm (-250) (-180) base))
    (d.clc.flow = .fault ∧ d.clc.phase = .waiting ∧ d.clc.flowTimer = some 60000 ∧ d.clc.pump = false ∧ d.clc.thermal = 100) ∧
    d.handoffs = [.eventOccurrence ⟨.coolingFault, .table 8, some 3, false⟩, .envelopeRecomputation (.thermal 100)] ∧
    let e := run .retryExpiry d
    (e.clc.phase = .trying ∧ e.clc.pump = true ∧ e.clc.flowTimer = some 10000) ∧ (run .tryExpiry e).clc.phase = .waiting ∧
    let h := runs [.flowSwitchChange true, .provingExpiry] e
    h.clc.flow = .confirmed ∧ h.clc.thermal = 9999 ∧ h.clc.heater = 2 := by decide +kernel

/-- R123: a write of table 8 takes effect at the next sample; the flow fault before it forms THERMAL with the value before the write. -/
theorem test_cooling_write_waits_for_the_sample :
    let d := run (.write .cell (item 2 8 10 50)) (run sample (warm (-250) (-180) base))
    let e := run .flowConfirmExpiry d
    d.item .t8 10 = 50 ∧ e.clc.thermal = 100 ∧ (run sample e).clc.thermal = 50 := by decide +kernel

/-- The summer station: COOL with the flow confirmed, no stage run for an hour. -/
def summer : Device :=
  let d : Device := { base with pins := { base.pins with flow := true } }
  d.modClc fun x => { x with
    mode := .cool, pump := true, flow := .confirmed, stringClosed := ⟨true, true, false, false⟩, sinceStart := 3600000
    stages := .all ⟨.off, 3600000, none⟩ }

theorem test_summer_afternoon :
    let d := run sample (warm 300 324 summer)
    (d.clc.mode = .chill ∧ d.clc.demanded = 1 ∧ d.clc.fan = 100 ∧ d.clc.thermal = 2000) ∧
    d.clc.stages = ⟨⟨.running, 0, some 5000⟩, ⟨.off, 3600000, none⟩, ⟨.off, 3600000, none⟩⟩ ∧
    d.handoffs = [.eventOccurrence ⟨.coolingStageChange, .stage .c1, some 1, false⟩, .envelopeRecomputation (.thermal 2000)] ∧
    let later (ms : Nat) := d.modClc fun x => { x with sinceStart := ms }
    (run sample (warm 300 353 (later 10000))).clc.stages.c2.state = .off ∧
    (run sample (warm 300 358 (later 30000))).clc.stages.c2.state = .running := by decide +kernel

/-- Stage 2 fails: two stages are left and THERMAL is 1333; at 328 the count of 1 stops stage 3, once it has run 120 s. -/
theorem test_stage_fails :
    let chill := (run sample (warm 300 324 summer)).modClc fun x => { x with
      demanded := 2, stages := ⟨⟨.running, 400000, none⟩, ⟨.running, 5000, some 0⟩, ⟨.off, 3600000, none⟩⟩ }
    let d := run (.runFeedbackExpiry .c2) { chill with handoffs := [] }
    (d.clc.stages.c2.state = .failed ∧ d.clc.thermal = 1333) ∧
    d.handoffs = [.eventOccurrence ⟨.coolingStageChange, .stage .c2, some 2, false⟩,
      .eventOccurrence ⟨.coolingFault, .stage .c2, some 2, false⟩, .envelopeRecomputation (.thermal 1333)] ∧
    let third (ms : Nat) := d.modClc fun x => { x with stages := x.stages.set .c3 ⟨.running, ms, none⟩ }
    (run sample (warm 300 328 (third 120000))).clc.stages.c3.state = .off ∧
    (run sample (warm 300 328 (third 119999))).clc.stages.c3.state = .running ∧
    let e := run (.coolingFaultClear .site (arg 18 2)) d
    code e .site = some 0 ∧ e.clc.stages.c2.state = .off ∧ e.clc.thermal = 2000 := by decide +kernel

/-- R115: the rows of COOLING_FAULT_CLEAR. -/
theorem test_cooling_fault_clear_rows :
    let ask (p : Port) (v : Int) (d : Device) := answer (run (.coolingFaultClear p (arg 18 v)) d) p
    ask .converter 1 base = some (4, 0) ∧ ask .cell 1 (withStanding .cell .forfeit base) = some (6, 0) ∧
    ask .site 4 base = some (7, 0) ∧
    (run (.coolingFaultClear .site (arg 18 0)) (base.modClc fun x => { x with exhaustFault := true })).clc.exhaustFault = false := by
  decide +kernel

/-- R109: without valid data the loop is BLIND with the fans at 50. -/
theorem test_blind :
    let d := run sample base
    d.clc.mode = .blind ∧ d.clc.fan = 50 ∧ d.clc.pump = true ∧
    d.handoffs = [.eventOccurrence ⟨.coolingFault, .table 8, some 1, false⟩] ∧ (run sample { d with handoffs := [] }).handoffs = [] := by
  decide +kernel

/-- R114, R117, R120: feedback and flow that fall away start their timers. -/
theorem test_feedback_timers :
    let d := run sample (warm 300 324 summer)
    (run (.runFeedbackChange .c1 true) d).clc.stages.c1.timer = none ∧
    (runs [.runFeedbackChange .c1 true, .runFeedbackChange .c1 false] d).clc.stages.c1.timer = some 5000 ∧
    (run (.flowSwitchChange false) d).clc.flowTimer = some 5000 ∧
    let e := run .flowLossExpiry (run (.flowSwitchChange false) d)
    (e.clc.flow = .fault ∧ e.clc.stages.c1.state = .off) ∧ (run .flowLossExpiry d).clc = d.clc := by decide +kernel

/-- R120, R121: a PREALARM of a battery zone drives the exhaust; an ALARM seals the room and keeps the pump. -/
theorem test_zone_stages_at_cooling :
    let d := run (.zoneStageHandoffClc ⟨.prealarm, .normal, .normal⟩) base
    (d.clc.exhaust = true ∧ d.clc.dampersOpen = true ∧ d.clc.recirculation = true ∧ d.clc.exhaustTimer = some 5000) ∧
    (run (.exhaustFeedbackChange true) d).clc.exhaustTimer = none ∧
    let f := run .exhaustFeedbackExpiry d
    (f.clc.exhaustFault = true ∧ f.handoffs = [.eventOccurrence ⟨.coolingFault, .table 8, some 5, false⟩]) ∧
    let e := run (.zoneStageHandoffClc ⟨.alarm, .normal, .normal⟩) (run sample (warm 300 324 summer))
    (e.clc.exhaust = false ∧ e.clc.dampersOpen = false ∧ e.clc.fan = 0 ∧ e.clc.pump = true ∧ e.clc.stages.c1.state = .off) ∧
    (run (.stringStateReportClc .s0 .closed) base).clc.pump = true := by decide +kernel

/-! ## Fire and gas (a bay fire, a walk test) -/

/-- Zone 0 in a stage, with a smoke loop confirmed ACTIVE. -/
def smoky (st : ZoneStage) (release : Option Nat) : Device :=
  base.modZone .z0 fun r => { r with stage := st, smoke := ⟨.active, .active, none⟩, releaseTimer := release }

theorem test_smoke :
    let d := run (.loopChange .z0 .smoke .active) base
    (d.zone .z0).smoke = ⟨.active, .normal, some 2000⟩ ∧
    ((run (.loopChange .z0 .smoke .normal) d).zone .z0).smoke.timer = none ∧
    let e := run (.loopConfirmation .z0 .smoke) d
    (e.zone .z0).stage = .prealarm ∧ e.fgu.stationStage = .prealarm ∧
    e.handoffs = [.eventOccurrence ⟨.firePrealarm, .zone .z0, some 1, false⟩, .envelopeRecomputation (.fire .prealarm false),
      .fireStageHandoffSwc .prealarm, .balFireStageHandoff .prealarm, .zoneStageHandoffClc ⟨.prealarm, .normal, .normal⟩] := by
  decide +kernel

/-- A loop fault, confirmed in 10 s, raises ZONE_FAULT: 3 for an open heat loop. -/
theorem test_zone_fault :
    let d := run (.loopChange .z2 .heat .opened) base
    (d.zone .z2).heat.timer = some 10000 ∧
    let e := run (.loopConfirmation .z2 .heat) d
    (e.zone .z2).stage = .fault ∧ e.handoffs.head? = some (.eventOccurrence ⟨.zoneFault, .zone .z2, some 3, false⟩) := by
  decide +kernel

/-- Gas beside smoke: 40 ppm is below GAS_LOW, 120 ppm is a second kind (detail 1); 230 ppm alone is an alarm (detail 2). -/
theorem test_gas :
    let d (z : BatteryZone) (ppm : Nat) := run (.gasSample z ppm) (smoky .prealarm none)
    ((d .z0 40).zone .z0).stage = .prealarm ∧ ((d .z0 120).zone .z0).stage = .countdown ∧
    ((d .z0 120).zone .z0).releaseTimer = some 30000 ∧
    (d .z0 120).handoffs.head? = some (.eventOccurrence ⟨.fireAlarm, .zone .z0, some 1, false⟩) ∧
    (d .z1 230).handoffs.head? = some (.eventOccurrence ⟨.fireAlarm, .zone .z1, some 2, false⟩) ∧
    ((d .z1 49).zone .z1).stage = .normal := by decide +kernel

theorem test_hold_button :
    let d := run (.holdButtonChange true) (smoky .countdown (some 23500))
    (d.zone .z0).stage = .held ∧ (d.zone .z0).releaseTimer = none ∧
    let e := run (.holdButtonChange false) d
    (e.zone .z0).stage = .countdown ∧ (e.zone .z0).releaseTimer = some 30000 ∧
    (run (.holdButtonChange true) base).fgu.zones = base.fgu.zones := by decide +kernel

theorem test_release_of_agent :
    let d := run (.releaseTimerExpiry .z0) (smoky .countdown (some 0))
    (d.zone .z0).stage = .released ∧ (d.zone .z0).pulseTimer = some 2000 ∧ d.fgu.stationStage = .released ∧
    d.handoffs.take 2 = [.eventOccurrence ⟨.fireReleased, .zone .z0, none, false⟩, .updateRequest] ∧
    ((run (.pulseTimerExpiry .z0) d).zone .z0).pulseTimer = none := by decide +kernel

/-- R130: a confirmed call point alarms every zone. -/
theorem test_call_point :
    let d := run (.callPointChange true) base
    d.fgu.callTimer = some 2000 ∧
    let e := run .callPointConfirmation d
    e.fgu.callConfirmed = true ∧ (e.zone .z2).stage = .countdown ∧
    e.handoffs.take 3 = Zone.all.map (fun z => .eventOccurrence ⟨.fireAlarm, .zone z, some 3, false⟩) := by decide +kernel

/-- R133, R134: a reset waits for clear detections, a rearm for normal ones. -/
theorem test_zone_reset_and_rearm :
    let reset (v : Int) (d : Device) := run (.zoneReset .site (arg 8 v)) d
    let rearm (d : Device) := run (.zoneRearm .site (arg 9 0)) d
    let clear (st : ZoneStage) := base.modZone .z0 fun r => { r with stage := st, releaseTimer := some 5 }
    answer (reset 0 base) .site = some (9, 1) ∧ answer (reset 0 (smoky .countdown (some 5))) .site = some (9, 2) ∧
    answer (reset 3 base) .site = some (7, 0) ∧ answer (run (.zoneReset .cell (arg 8 0)) base) .cell = some (4, 0) ∧
    code (reset 0 (clear .countdown)) .site = some 0 ∧ ((reset 0 (clear .countdown)).zone .z0) = .reset ∧
    answer (rearm base) .site = some (9, 1) ∧ answer (rearm (smoky .released none)) .site = some (9, 2) ∧
    ((rearm (clear .released)).zone .z0).stage = .normal ∧ (rearm (clear .released)).handoffs.head? = some .updateRequest := by
  decide +kernel

/-- A walk test: FAULT at the station, TEST_DETECTION for smoke, gas at 260 ends it in an alarm. -/
theorem test_walk_test :
    let d := run (.zoneTestStart .site (arg 10 1)) base
    (code d .site = some 0 ∧ (d.zone .z1).testTimer = some 1800000 ∧ d.fgu.stationStage = .fault) ∧
    d.handoffs.head? = some (.envelopeRecomputation (.fire .fault true)) ∧
    code (run (.zoneTestStart .site (arg 10 1)) d) .site = some 9 ∧
    let e := run (.loopConfirmation .z1 .smoke) (run (.loopChange .z1 .smoke .active) { d with handoffs := [] })
    ((e.zone .z1).stage = .normal ∧ e.handoffs = [.eventOccurrence ⟨.testDetection, .zone .z1, some 1, false⟩]) ∧
    let h := run (.gasSample .z1 260) d
    (h.zone .z1).stage = .countdown ∧ (h.zone .z1).testTimer = none ∧
    Instr.eventOccurrence ⟨.fireAlarm, .zone .z1, some 2, false⟩ ∈ h.handoffs := by decide +kernel

/-- R137: a test that ends with smoke confirmed enters PREALARM; a zone without a test is answered STATE. -/
theorem test_walk_test_ends :
    let d := base.modZone .z1 fun r => { r with testTimer := some 5, smoke := ⟨.active, .active, none⟩ }
    ((run (.testTimerExpiry .z1) d).zone .z1).stage = .prealarm ∧
    ((run (.zoneTestEnd .site (arg 11 1)) d).zone .z1).stage = .prealarm ∧
    code (run (.zoneTestEnd .site (arg 11 0)) d) .site = some 9 := by decide +kernel

/-- R140: a forced occurrence is never protected. -/
theorem test_force_event :
    (run (.forceEvent .site (arg 12 16)) base).handoffs = [.eventOccurrence ⟨.fireAlarm, .port .site, some 255, true⟩] ∧
    protects ⟨.fireAlarm, .port .site, some 255, true⟩ = false ∧
    answer (run (.forceEvent .site (arg 12 24)) base) .site = some (7, 0) := by decide +kernel

/-! ## Balancing (a run with a suspension) -/

/-- BALANCE_START of a string, duration and target. -/
def start (n duration target : Nat) : Instr :=
  .balanceStart .cell (arg 13 (n * 268435456 + duration * 65536 + target : Nat))

/-- R145, row by row. -/
theorem test_balance_start :
    let there := withMonitor .s0 present base
    let ask (i : Instr) (d : Device) := answer (run i d) .cell
    let d := run (start 0 120 3400) there
    code d .cell = some 0 ∧ d.bal.run.state = .running ∧ d.bal.run.owner = some .cell ∧ d.bal.run.maxDuration = 120 ∧
    (run (start 0 0 2500) there).bal.run.maxDuration = 120 ∧ ask (start 0 481 3400) there = some (7, 0) ∧
    ask (start 0 120 4301) there = some (7, 0) ∧ ask (start 4 120 3400) there = some (7, 0) ∧
    ask (start 0 120 3400) d = some (8, 0) ∧ ask (start 0 120 3400) base = some (9, 2) ∧
    ask (start 0 120 3400) (there.modBal fun b => { b with health := .all .tripped }) = some (9, 3) ∧
    ask (start 0 120 3400) (there.modBal fun b => { b with fireStage := .prealarm }) = some (9, 4) := by decide +kernel

/-- A run of string 0 with target 3400 in a state, its commanded set and history. -/
def balancing (st : RunState) (commanded : BitVec 16) (history : List (BitVec 16)) : Device :=
  base.modBal fun b => { b with
    run := { Run.none with state := st, target := 3400, maxDuration := 120, owner := some .cell }, commanded := commanded, history := history }

/-- Modules 3, 7 and 9 above 3410: positions 3, 7 and 9, which is 0x288. -/
def volts (m3 m7 m9 : Int) : List Int := [3400, 3400, 3400, m3, 3400, 3400, 3410, m7, 3400, m9, 3400, 3400]

theorem test_balance_record :
    let d := run (.balanceRecord .s0 (volts 3425 3418 3412) 0) (balancing .running 0 [])
    (d.bal.commanded = 0x288 ∧ d.bal.history = [0x288] ∧ d.bal.mismatch = 0) ∧
    let e := run (.balanceRecord .s0 (volts 3425 3418 3410) 0x288) (balancing .running 0x288 [0x288, 0x288])
    (e.bal.commanded = 0x88 ∧ e.bal.history = [0x288, 0x88]) ∧
    let h := run (.balanceRecord .s0 (volts 3410 3410 3410) 8) (balancing .running 8 [8, 8])
    (h.bal.run.state = .ended ∧ h.bal.run.endCode = 1 ∧ h.bal.commanded = 0 ∧ h.bal.history = []) ∧
    h.handoffs = [.eventOccurrence ⟨.balanceEnded, .string .s0, some 1, false⟩] := by decide +kernel

/-- R147: the second mismatch in a row ends the run. -/
theorem test_balance_mismatch :
    let d := run (.balanceRecord .s0 (volts 3425 3418 3412) 0) (balancing .running 0x288 [0x288, 0x288])
    d.bal.mismatch = 1 ∧ d.bal.run.state = .running ∧
    (run (.balanceRecord .s0 (volts 3425 3418 3412) 0) d).bal.run.endCode = 10 := by decide +kernel

theorem test_balance_suspension :
    let d := run (.thermalHoldHandoff true) (balancing .running 0x88 [0x88, 0x88])
    (d.bal.run.state = .suspendPending ∧ d.bal.commanded = 0x88) ∧
    let e := run (.balanceRecord .s0 (volts 3425 3418 3400) 0x88) d
    (e.bal.run.state = .suspended ∧ e.bal.commanded = 0 ∧ e.bal.history = [0x88, 0]) ∧
    let h := runs [.balanceSuspend .cell (arg 14 0), .thermalHoldHandoff false] e
    (h.bal.run.thermalCause = false ∧ h.bal.run.portCause = true) ∧
    (run (.balanceRecord .s0 (volts 3415 3411 3400) 0x88) h).bal.run.state = .suspended ∧
    let k := run (.balanceRecord .s0 (volts 3415 3411 3400) 0x88) (run (.balanceResume .cell (arg 15 0)) h)
    k.bal.run.state = .running ∧ k.bal.commanded = 0x88 := by decide +kernel

/-- R150, R151: what ends a run, with its code, and who may act on it. -/
theorem test_balance_ends :
    let b := balancing .running 8 [8, 8]
    let codeOf (i : Instr) := (run i b).bal.run.endCode
    codeOf .durationExpiry = 2 ∧ codeOf (.balFireStageHandoff .prealarm) = 3 ∧ codeOf (.balHealthHandoff .s0 .tripped) = 4 ∧
    codeOf (.balHealthHandoff .s0 .lockedOut) = 5 ∧ codeOf (.balMonitorLoss .s0) = 6 ∧
    codeOf (.balHealthHandoff .s0 .unrecognized) = 7 ∧ codeOf (.balanceCancel .cell (arg 16 0)) = 8 ∧
    codeOf (.balStandingHandoff .cell .forfeit) = 9 ∧ codeOf (.balMonitorLoss .s1) = 0 ∧
    answer (run (.balanceCancel .site (arg 16 0)) b) .site = some (4, 0) ∧
    code (run (.balanceClear .cell (arg 17 0)) b) .cell = some 9 ∧
    (run (.balanceClear .cell (arg 17 0)) (balancing .ended 0 [])).bal.run = .none := by decide +kernel

/-! ## Standing (challenges under a churning envelope) -/

theorem test_tokens :
    [0x3C, 45, 226, 107, 24, 121, 94].map (fun t => nextToken (some t)) = [(45 : Byte), 226, 107, 24, 121, 94, 215] ∧
    nextToken none = 60 ∧ answerByte .converter 60 = 196 ∧ answerByte .converter 45 = 211 ∧ answerByte .cell 60 = 195 := by
  decide +kernel

/-- The generation wraps: issued at 65534, 0 acknowledged at 1 is in step. -/
theorem test_in_step :
    inStep 1 65534 0 = true ∧ inStep 1211 1208 1210 = true ∧ inStep 1211 1211 1210 = false ∧ inStep 1211 1211 1211 = true := by
  decide +kernel

/-- The Converter Port with a challenge outstanding, and the generation. -/
def challenged (st : Standing) (forfeits : Nat) (token : Byte) (issued now : BitVec 16) : Device :=
  ({ base with env := { base.env with generation := now } } : Device).modPort .converter fun r =>
    { r with standing := st, forfeits := forfeits, token := some token, outstanding := true, issueGeneration := issued, deadline := some 30 }

def reply (byte generation : Nat) : Instr := .answer .converter (item 4 0 0 (byte * 65536 + generation : Nat))

theorem test_answers :
    let d := run (reply 196 1210) (challenged .unchecked 0 60 1208 1211)
    (answer d .converter = some (0, 1) ∧ d.standing .converter = .inStanding ∧ (d.port .converter).outstanding = false) ∧
    (answer (run (reply 211 1210) (challenged .inStanding 0 45 1211 1211)) .converter = some (9, 2)) ∧
    (run (reply 211 1210) (challenged .inStanding 0 45 1211 1211)).standing .converter = .lapsed ∧
    let w := run (reply 233 1212) (challenged .lapsed 0 24 1212 1212)
    (answer w .converter = some (9, 1) ∧ w.standing .converter = .forfeit ∧ (w.port .converter).forfeits = 1) ∧
    answer (run (reply 135 1212) (challenged .forfeit 1 121 1212 1212)) .converter = some (0, 3) ∧
    answer (run (reply 1 1) base) .converter = some (9, 3) ∧
    (run (reply 233 1212) (challenged .lapsed 2 24 1212 1212)).standing .converter = .barred := by decide +kernel

theorem test_challenges :
    let d := run (.periodExpiry .converter) (withStanding .converter .unchecked base)
    d.port .converter = { PortStanding.reset with token := some 60, outstanding := true, deadline := some 150 } ∧
    let e := run (.deadlineExpiry .converter) (challenged .inStanding 0 107 1212 1212)
    (e.standing .converter = .lapsed ∧ (e.port .converter).lastMiss = .late) ∧
    e.handoffs = [.eventOccurrence ⟨.standingChanged, .port .converter, some 2, false⟩,
      .envelopeRecomputation (.standing .converter .lapsed), .balStandingHandoff .converter .lapsed] ∧
    ((run (.periodExpiry .converter) (challenged .inStanding 0 107 0 0)).port .converter).token = some 24 ∧
    (run (.periodExpiry .cell) (withStanding .cell .barred base)).sdm = (withStanding .cell .barred base).sdm := by
  decide +kernel

/-! ## Events (reading the queue when it is full) -/

/-- 32 incidents, 201 to 232, all protected but 230. -/
def full : Device :=
  { base with evr := { base.evr with
    queue := (List.range 32).map fun k => ⟨201 + k, .fireAlarm, .zone .z0, some 1, 5, 201 + k != 230⟩, lastSeq := 232 } }

theorem test_full_queue :
    let held (d : Device) := d.evr.queue.map (·.seq)
    let take (c : EventClass) (d : Device) := run (.eventOccurrence ⟨c, .zone .z0, none, false⟩) d
    let d := take .fireAlarm (take .switchDone full)
    held d = (List.range 29).map (201 + ·) ++ [231, 232, 234] ∧
    let e := take .balanceEnded d
    (held e = held d ∧ e.evr.dropped = 1 ∧ e.evr.lastSeq = 235) ∧
    held (take .fireReleased e) = (List.range 28).map (202 + ·) ++ [231, 232, 234, 236] ∧
    (take .fireReleased e).evr.flags.site = 0x130200 ∧ (take .switchDone full).evr.counts.getD 9 0 = 1 := by decide +kernel

/-- R172: the cursor names 231, then 230, which is no longer held. -/
theorem test_cursor_reads :
    let ask (n : Int) (i : Byte) := answer (runs [.cursorWrite .site (value 2 12 2 n), .read .site (item 1 12 i 0)] full) .site
    ask 231 8 = some (0, 16) ∧ ask 231 9 = some (0, 512) ∧ ask 231 10 = some (0, 1) ∧ ask 231 12 = some (0, 1) ∧
    ask 230 12 = some (0, 0) ∧ ask 233 8 = some (11, 0) ∧ ask 0 4 = some (0, 201) ∧ ask 0 5 = some (0, 232) := by decide +kernel

theorem test_ack_events :
    let d : Device := { base with evr := { base.evr with flags := .all 0x330200 } }
    let e := run (.ackEvents .cell (item 5 0 0 0x10200)) d
    answer e .cell = some (0, 0x320000) ∧ e.evr.flags.site = 0x330200 ∧
    answer (run (.ackEvents .cell (item 5 0 0 0x1000000)) d) .cell = some (7, 0) := by decide +kernel

/-! ## The store (a store, a lockout and a restart) -/

theorem test_store_rows :
    let ask (v : Int) (d : Device) := run (.storeTable .cell (arg 0 v)) d
    code (ask 2 base) .cell = some 0 ∧ (ask 2 base).sto.engine = .storing .t2 ∧ answer (ask 4 base) .cell = some (7, 0) ∧
    answer (ask 5 base) .cell = some (4, 0) ∧ answer (ask 2 (withStanding .cell .forfeit base)) .cell = some (6, 0) ∧
    answer (ask 2 (ask 3 base)) .cell = some (8, 0) ∧
    answer (ask 2 (base.modSto fun x => { x with errors := x.errors.set .t2 true })) .cell = some (9, 1) ∧
    answer (run (.write .cell (item 2 2 4 560)) (ask 2 base)) .cell = some (8, 0) := by decide +kernel

theorem test_store_completes :
    let storing (t : StoredTable) := base.modSto fun x => { x with engine := .storing t }
    let d := run (.programmingCompletion true) ((storing .t2).setItem .t2 4 560)
    ((d.sto.copies.t2.contents.getD 4 0 = 560 ∧ d.sto.engine = .idle) ∧
      d.handoffs = [.eventOccurrence ⟨.storeDone, .table 2, none, false⟩]) ∧
    (run (.programmingCompletion true) ((storing .t5).setItem .t5 0 300)).sto.copies.t5.contents.getD 0 1 = 0 ∧
    let e := run (.programmingCompletion false) (storing .t2)
    e.sto.copies.t2.valid = false ∧ e.sto.errors.t2 = true ∧
    e.handoffs = [.eventOccurrence ⟨.storeFailed, .table 2, some 1, false⟩] := by decide +kernel

/-- An update waits for the store and carries both causes; at its end the restart takes effect at once. -/
theorem test_update_and_restart :
    let causes : Causes := { Causes.none with otHard := true, weld := true }
    let d := runs [.updateRequest, .restart .site (arg 19 0)]
      ((base.modSup .s3 fun u => { u with causes := causes }).modSto fun x => { x with engine := .storing .t2 })
    (d.sto.updatePending = true ∧ d.sto.restart = some .service ∧ d.restartReady = false) ∧
    let e := run (.programmingCompletion true) d
    (e.sto.engine = .updating ⟨⟨.none, .none, .none, causes⟩, .all false⟩ ∧ e.sto.opTimer = some 20 ∧
      e.sto.restart = some .service) ∧
    let k := run (.updateCompletion true) e
    k.sto.record.causes.s3 = causes ∧ k.sto.restart = none ∧ (k.sup .s3).causes = causes ∧ (k.sup .s3).health = .lockedOut ∧
    k.standing .site = .unchecked ∧ answer (run (.read .site (item 1 14 200 0)) k) .site = some (0, 12) := by decide +kernel

/-- R179: a RESTART that nothing holds back is answered and takes effect within the command. -/
theorem test_restart_at_once :
    let d := run (.restart .site (arg 19 0)) base
    code d .site = some 0 ∧ d.sto.restart = none ∧ d.standing .site = .unchecked := by decide +kernel

/-- R177: an update's 20 ms pass with the part left alone, and its completion is then due. -/
theorem test_update_is_timed :
    let d := run .updateRequest base
    (d.sto.opTimer = some 20 ∧ d.dueEngine = []) ∧ d.tick.sto.opTimer = some 19 ∧
    (d.modSto fun x => { x with opTimer := some 0 }).dueEngine.length = 1 := by decide +kernel

theorem test_update_fails :
    let d := run (.updateCompletion false) (base.modSto fun x => { x with engine := .updating .empty })
    d.sto.recordError = true ∧ d.sto.recordValid = false ∧
    d.handoffs = [.eventOccurrence ⟨.storeFailed, .table 15, some 3, false⟩] ∧
    (run (.clearStoreStatus .site (arg 1 15)) d).sto.recordError = false ∧
    answer (run (.clearStoreStatus .cell (arg 1 15)) d) .cell = some (4, 0) ∧
    answer (run (.clearStoreStatus .cell (arg 1 4)) d) .cell = some (7, 0) := by decide +kernel

/-- R179: a table whose contents its kept check does not pass is marked for reload, and restarts the part at once where nothing holds the
restart back. -/
theorem test_integrity_check :
    let wrong := { base with settings := base.settings.set .t13 [] }
    let busy := wrong.modSto fun x => { x with checkNext := .t13, engine := .storing .t2 }
    let d := run (.integrityCheck false) busy
    (d.sto.restart = some .self ∧ d.sto.reload.t13 = true ∧ d.sto.checkNext = .t2 ∧
      d.handoffs = [.eventOccurrence ⟨.storeFailed, .table 13, some 5, false⟩]) ∧
    let e := run (.integrityCheck false) (wrong.modSto fun x => { x with checkNext := .t13 })
    (e.sto.restart = none ∧ e.settings.t13 = factory .t13 ∧ e.sto.reload.t13 = false ∧ e.standing .site = .unchecked) ∧
    (run (.integrityCheck true) base).standing .site = .unchecked ∧ (run (.integrityCheck false) base).sto.checkNext = .t3 := by
  decide +kernel

/-- R179: a WRITE answered OK sets the kept check afresh; the site order is in no check. -/
theorem test_kept_check :
    (run (.write .cell (item 2 2 4 560)) base).checkFails .t2 = false ∧
    (run (.siteOrderWrite .site (value 2 5 0 300)) base).checkFails .t5 = false := by decide +kernel

/-- R168: locks bind a table; a hold is the Site Port's and can be released; LOCK_MAP binds table 13. -/
theorem test_locks :
    let write (d : Device) := answer (run (.write .cell (item 2 8 0 51)) d) .cell
    write (run (.lockTable .cell (arg 2 8)) base) = some (5, 0) ∧
    answer (run (.lockTable .cell (arg 2 13)) base) .cell = some (7, 0) ∧
    answer (run (.siteHold .cell (arg 3 8)) base) .cell = some (4, 0) ∧
    let hold := run (.siteHold .site (arg 3 10)) base
    (answer (run (.write .site (item 2 10 15 400)) hold) .site = some (5, 0) ∧
      (run (.siteReleaseHold .site (arg 4 10)) hold).pif.siteHolds.t10 = false) ∧
    answer (run (.accessMapWrite .site 6 (value 2 13 6 0)) (run (.lockMap .site (arg 5 0)) base)) .site = some (5, 0) ∧
    answer (run (.lockMap .cell (arg 5 0)) base) .cell = some (4, 0) := by decide +kernel

/-! ## Resets and links -/

/-- R178: a failed copy loads the factory values; a failed record locks out every string; a feedback found closed is a weld. -/
theorem test_power_on :
    let d := run .powerOnReset ({ base.modSto (fun x => { x with copies := x.copies.set .t9 ⟨[10, 1, 1, 0], false⟩, recordValid := false }) with
      pins := { base.pins with feedback := base.pins.feedback.set .g true } } : Device)
    (d.item .t9 0 = 30 ∧ d.sto.errors.t9 = true ∧ d.sto.recordError = true) ∧
    ((d.sup .s2).causes = { Causes.none with recordLost := true } ∧ (d.sup .s2).health = .lockedOut) ∧
    ((d.sw .g).state = .welded ∧ (d.sw .g).failure = true) ∧ d.standing .site = .unchecked ∧
    d.handoffs.take 2 = [.eventOccurrence ⟨.storeFailed, .table 9, some 2, false⟩,
      .eventOccurrence ⟨.storeFailed, .table 15, some 4, false⟩] ∧
    d.handoffs.getLast? = some (.eventOccurrence ⟨.switchFailed, .switch .g, some 3, false⟩) ∧
    run .powerOnReset Device.reset = Device.reset := by decide +kernel

/-- R107, R161: a warm restart opens what is closed and keeps BARRED; one that is not pending changes nothing. -/
theorem test_warm_restart :
    run .warmRestart base = base ∧
    let d := run .warmRestart ((withStanding .cell .barred (standing .s0 .closed true base)).modSto fun x =>
      { x with restart := some .service })
    (d.sw .s0).state = .opening ∧ (d.sw .s0).timer = some 200 ∧ d.standing .cell = .barred ∧ d.standing .site = .unchecked ∧
    d.sto.restart = none := by decide +kernel

/-- R162, R159: an incomplete transfer keeps the pending reply; a port reset drops it and readmits the port. -/
theorem test_link_events :
    let asked := run (.siteOrderWrite .site (value 2 5 0 100)) base
    let d := run (.incompleteTransfer .site) asked
    ((d.link .site).pending = (asked.link .site).pending ∧ (d.link .site).sent.map (·.value) = some 100) ∧
    let e := run (.portReset .site) (run (.linkResetAssert .site) asked)
    (e.link .site).pending = none ∧ (e.link .site).running = true ∧ e.standing .site = .unchecked ∧
    (run (.portReset .site) (withStanding .site .barred base)).standing .site = .barred := by decide +kernel

/-- R162, R164: the reply's check covers its first seven bytes; the summary of a settled port in standing is its standing alone. -/
theorem test_reply_frame :
    let d : Device := { base with env := { base.env with changed := .all false } }
    ((run (.incompleteTransfer .cell) d).link .cell).sent = some ⟨0, 0, 0, 4, crc8 [0, 0, 0, 0, 0, 0, 4]⟩ := by decide +kernel

/-- With nothing due, time passes: one millisecond in every timer. -/
theorem test_idle_step :
    let d := run .linkSlot base
    (match step ⟨[], d⟩ with | .next t => (t.dev.slc.slotIn, t.dev.evr.time) | _ => (0, 0)) = (19, 1) := by decide +kernel

/-- A hand-off is taken before time passes. -/
theorem test_idle_step_takes_handoff :
    (match step ⟨[], { base with handoffs := [.updateRequest] }⟩ with | .next t => t.dev.handoffs | _ => [.updateRequest]) = [] := by
  decide +kernel

/-! ## Witnesses: states and operands that meet the hypotheses of each statement -/

/-- The rest of a request's hypothesis once the command names its frame. -/
theorem takes {s : State} {i : Instr} {r : Request} (h : requestOf i = some r) (run : (s.dev.link r.port).running = true)
    (ok : (r.frame.check == crc8 r.frame.body) = true) : Takes s i := ⟨r, h, run, by simpa using ok⟩

/-- A machine with one command waiting. -/
def one (i : Instr) (d : Device) : State := ⟨[i], d⟩

theorem noSelection {x : Selection} (h : (none : Option Selection) = some x) : False := nomatch h

/-- A machine with none. -/
def idle (d : Device) : State := ⟨[], d⟩

theorem settingsLaw_factory (d : Device) (h : d.settings = .ofFn factory) (c : ∀ t, (d.sto.copies.get t).contents = factory t)
    (cool : d.clc.settings = factory .t8) : SettingsLaw d := by
  have sound (t : StoredTable) : Sound t (factory t) := by cases t <;> exact ⟨rfl, by decide +kernel, by decide +kernel⟩
  refine ⟨fun t => ?_, cool ▸ sound .t8⟩
  have hs : d.settings.get t = factory t := by rw [h]; cases t <;> rfl
  exact ⟨hs ▸ sound t, fun _ => c t ▸ sound t⟩

theorem witness_CommandsCompleteWithinTheirBlocks : (start 0 120 3400).wf = true := rfl

theorem witness_QueueLawKept :
    QueueLaw full ∧ ∃ t, step (one (.eventOccurrence ⟨.gridTrip, .switch .g, some 1, false⟩) full) = .next t :=
  ⟨⟨by decide +kernel, by decide +kernel, by decide +kernel⟩, _, rfl⟩

/-- A string with OV pinned and SPREAD counting. -/
def counting : Device := (locked (span 3484 3600)).modChannel .s1 .spread fun _ => ⟨4, false, false, 6, 10⟩

theorem witness_CounterLawKept :
    CounterLaw counting ∧ ∃ t, step (one (.csuEvaluation .s1 (.full (span 3484 3700) false)) counting) = .next t :=
  ⟨by intro s k; cases s <;> cases k <;> decide +kernel, _, rfl⟩

theorem dispatchLaw_ramping : DispatchLaw (ramping 300 160) :=
  ⟨by decide +kernel, by decide +kernel, by decide +kernel⟩

theorem settingsLaw_ramping : SettingsLaw (ramping 300 160) := by
  refine ⟨fun t => ?_, by decide +kernel, by decide +kernel, by decide +kernel⟩
  cases t <;> exact ⟨⟨by decide +kernel, by decide +kernel, by decide +kernel⟩, fun _ => ⟨by decide +kernel, by decide +kernel, by decide +kernel⟩⟩

theorem envelopeLaw_ramping : EnvelopeLaw (ramping 300 160) :=
  ⟨by decide +kernel, by decide +kernel, by decide +kernel, by decide +kernel, by intro k; cases k <;> decide +kernel,
    by intro k; cases k <;> decide +kernel, by intro k; cases k <;> decide +kernel, by decide +kernel, by decide +kernel,
    by decide +kernel, by decide +kernel⟩

theorem witness_DispatchLawKept :
    DispatchLaw (ramping 300 160) ∧ ∃ t, step (one .rampStep (ramping 300 160)) = .next t := ⟨dispatchLaw_ramping, _, rfl⟩

theorem storeLaw_base : StoreLaw base :=
  ⟨by intro t; cases t <;> decide +kernel, by decide +kernel, fun _ h => (nomatch h), fun h => (nomatch h)⟩

theorem witness_SettingsLawKept :
    SettingsLaw (ramping 300 160) ∧ StoreLaw base ∧ (∃ t, step (one .updateRequest base) = .next t) ∧
      ∃ t, step (one (.fallbackOrderWrite .site (value 2 5 2 50)) (ramping 300 160)) = .next t :=
  ⟨settingsLaw_ramping, storeLaw_base, ⟨_, rfl⟩, _, rfl⟩

theorem witness_EnvelopeLawKept :
    SettingsLaw (ramping 300 160) ∧ DispatchLaw (ramping 300 160) ∧ EnvelopeLaw (ramping 300 160) ∧
      ∃ t, step (one (.envelopeRecomputation (.thermal 150)) (ramping 300 160)) = .next t :=
  ⟨settingsLaw_ramping, dispatchLaw_ramping, envelopeLaw_ramping, _, rfl⟩

/-- Strings 0 and 1 and the breaker CLOSED; the Cell Port has selected string 2 to close and the Site Port string 0 to open. -/
def selected : Device := withSelection .s2 .cell .close (withSelection .s0 .site .opening joined)

theorem selectionLaw_selected : SelectionLaw selected := by
  have picks (n : SwitchId) (x : Selection) (h : (selected.sw n).selection = some x) :
      n = .s0 ∧ x = ⟨.site, .opening, 10000⟩ ∨ n = .s2 ∧ x = ⟨.cell, .close, 10000⟩ := by
    cases n
    · exact .inl ⟨rfl, (Option.some.inj h).symm⟩
    · exact (noSelection h).elim
    · exact .inr ⟨rfl, (Option.some.inj h).symm⟩
    · exact (noSelection h).elim
    · exact (noSelection h).elim
  refine ⟨fun n x h => ?_, fun n m x y h k e => ?_⟩
  · obtain ⟨rfl, rfl⟩ | ⟨rfl, rfl⟩ := picks n x h <;> decide +kernel
  · obtain ⟨rfl, rfl⟩ | ⟨rfl, rfl⟩ := picks n x h <;> obtain ⟨rfl, rfl⟩ | ⟨rfl, rfl⟩ := picks m y k <;>
      first | rfl | exact absurd e (by decide)

theorem inhibitLaw_selected : InhibitLaw selected := by
  refine ⟨by intro n; cases n <;> decide +kernel, by intro s; cases s <;> decide +kernel, by decide +kernel, ?_, by decide +kernel,
    by decide +kernel, by decide +kernel⟩
  exact ⟨fun h => absurd h (by decide +kernel), fun h => absurd rfl (h .s0)⟩

theorem isolationLaw_selected : IsolationLaw selected :=
  ⟨by decide +kernel, by intro _ n; cases n <;> decide +kernel, fun h => absurd h (by decide +kernel),
    fun h => absurd h (by decide +kernel), fun h => absurd h (by decide +kernel)⟩

theorem witness_SelectionLawKept :
    SelectionLaw selected ∧ ∃ t, step (one (.operate .cell (item 7 7 2 1)) selected) = .next t := ⟨selectionLaw_selected, _, rfl⟩

theorem witness_SwitchingLawsKept :
    SettingsLaw selected ∧ SelectionLaw selected ∧ InhibitLaw selected ∧ InterlockLaw selected ∧ IsolationLaw selected ∧
      ∃ t, step (one (.isolationRequestWrite .site (value 2 11 16 1)) selected) = .next t :=
  ⟨settingsLaw_factory _ rfl (by intro t; cases t <;> rfl) rfl, selectionLaw_selected, inhibitLaw_selected,
    ⟨by intro s h; cases s <;> exact absurd h (by decide +kernel), fun h => absurd h (by decide +kernel)⟩, isolationLaw_selected, _, rfl⟩

/-- Isolating with the breaker CLOSED: the second form of the isolation law. -/
theorem witness_SwitchingLawsKept_isolating :
    let d := run (.isolationRequestWrite .site (value 2 11 16 1)) joined
    IsolationLaw d ∧ d.swc.isolation = .isolating :=
  ⟨⟨by decide +kernel, by intro _ n; cases n <;> decide +kernel,
    fun _ => ⟨⟨.g, fun h => absurd h (by unfold Resting; decide +kernel)⟩, fun h => absurd h (by unfold Resting; decide +kernel)⟩,
    fun h => absurd h (by decide +kernel), fun _ => by decide +kernel⟩, by decide +kernel⟩

/-- Stage 1 running in CHILL. -/
def chilling : Device := run sample (warm 300 324 summer)

/-- R165: `statusItems` lists every item of each status table once; table 12 but for the port's own mask and cursor and the incident at the
cursor (1, 2, 8 to 12), table 14 but for 120 to 122 before the first sample. -/
theorem test_status_rows_complete :
    let lists (d : Device) (table first last : Nat) (but : List Nat) : Bool :=
      let found := (statusItems d .cell table).map (·.index)
      found.all (fun i => decide (first ≤ i ∧ i < last)) &&
        (List.range last).all fun i => found.count i == if i < first ∨ i ∈ but then 0 else 1
    (lists base 0 0 8 [] && lists base 1 0 201 [] && lists base 4 0 64 [] && lists base 5 7 14 [] && lists base 6 0 7 [] &&
      lists base 7 0 51 [] && lists base 12 0 40 [1, 2, 8, 9, 10, 11, 12] && lists base 14 0 203 [120, 121, 122] &&
      lists chilling 14 0 203 []) = true := by decide +kernel

/-- The values of worked states, written out from the chapters' item lists. -/
theorem test_status_values :
    let shows (d : Device) (table index : Nat) (v : Int) := (statusItems d .cell table).contains ⟨index, v⟩
    (shows (station 250 400 0) 4 0 250 ∧ shows (station 250 400 0) 4 8 262 ∧ shows (station 250 400 0) 4 3 32 ∧
      shows (station 250 400 0) 4 35 1682) ∧
    (shows (ramping 300 160) 5 11 160 ∧ shows (ramping 300 160) 5 12 0 ∧ shows base 5 13 2) ∧
    (shows selected 7 16 0 ∧ shows selected 7 17 1 ∧ shows selected 7 19 10000 ∧ shows selected 7 0 3) ∧
    (shows (withMonitor .s0 present base) 1 5 15 ∧ shows (withMonitor .s0 present base) 1 16 (3400 * 65536 + 3400) ∧
      shows (withMonitor .s0 present base) 1 28 0 ∧ shows base 1 199 32767) ∧
    (shows (locked (span 3484 3600)) 14 16 5 ∧ shows (locked (span 3484 3600)) 14 17 1 ∧
      shows (locked (span 3484 3600)) 14 20 255) ∧
    (shows (balancing .running 8 [8, 8]) 14 72 8 ∧ shows (balancing .running 8 [8, 8]) 14 69 1) ∧
    (shows chilling 14 98 1 ∧ shows chilling 14 115 2000 ∧ shows chilling 14 120 200) := by decide +kernel

theorem witness_CoolingLawKept :
    CoolingLaw chilling ∧ (chilling.stage .c1).state = .running ∧ ∃ t, step (one (.flowSwitchChange false) chilling) = .next t :=
  ⟨⟨by intro c; cases c <;> decide +kernel, by decide +kernel, by decide +kernel⟩, by decide +kernel, _, rfl⟩

theorem witness_BleedLawKept :
    BleedLaw (balancing .running 8 [8, 8]) ∧
      ∃ t, step (one (.balanceRecord .s0 (volts 3425 3400 3400) 8) (balancing .running 8 [8, 8])) = .next t :=
  ⟨⟨by decide +kernel, by decide +kernel⟩, _, rfl⟩

theorem witness_ForfeitLawKept :
    ForfeitLaw (challenged .lapsed 2 24 1212 1212) ∧ ∃ t, step (one (reply 233 1212) (challenged .lapsed 2 24 1212 1212)) = .next t :=
  ⟨by intro p; cases p <;> decide +kernel, _, rfl⟩

theorem witness_GenerationFollowsTheEnvelope :
    let d := base.modSto fun x => { x with restart := some .service }
    (∃ t, exec (.envelopeRecomputation (.thermal 150)) (idle (ramping 300 160)) = .next t ∧ t.dev.env.generation = 1208) ∧
    (restartsWithin .warmRestart (idle d) ∧ ¬restartsWithin .linkSlot (idle d) ∧ ∃ t, exec .warmRestart (idle d) = .next t) ∧
    restartsWithin (.restart .site (arg 19 0)) (idle base) ∧ ¬restartsWithin (.restart .cell (arg 19 0)) (idle base) :=
  ⟨⟨_, rfl, by decide +kernel⟩, ⟨⟨nofun, rfl, rfl, nofun⟩, fun h => h, _, rfl⟩,
    ⟨takes rfl rfl (by decide +kernel), rfl, .inl rfl, rfl, rfl, nofun⟩, fun h => nomatch h.2.1⟩

theorem witness_RequestsActByTheirBytes : requestOf (start 0 120 3400) ≠ none := nofun

theorem witness_FramesAreJudgedBeforeTheyAct :
    ((run (.linkResetAssert .cell) base).link .cell).running = false ∧ (base.link .cell).running = true ∧
    (0 : Byte) ≠ crc8 (Frame.body ⟨0, 0, 0, 0, 0⟩) ∧
    ([nopFrame 0 7 7 7, nopFrame 9 0 0 0, nopFrame 255 0 0 0, nopFrame 3 0 20 0].all fun f => f.wfNop && f.checkOk) = true ∧
    Takes (idle base) (.nop .cell (nopFrame 3 0 20 0)) :=
  ⟨rfl, rfl, by decide +kernel, by decide +kernel, takes rfl rfl (by decide +kernel)⟩

/-- An item past the last, a right of none, a settings item through the window, the map lock and the port's own mask: `test_read_rows` and
`test_cursor_reads` give the answers. -/
theorem witness_ReadAnswersByTheMap :
    ([item 1 2 64 0, item 1 9 0 0, item 1 2 40 0, item 1 2 63 0, item 1 13 48 0, item 1 12 1 0].all (·.wfRead)) = true ∧
    Takes (idle base) (.read .cell (item 1 2 64 0)) ∧ Takes (idle base) (.read .cell (item 1 9 0 0)) ∧
    Takes (idle base) (.read .cell (item 1 2 63 0)) ∧ Takes (idle base) (.read .cell (item 1 13 48 0)) ∧
    Takes (idle base) (.generationRead .cell (value 1 4 2 0)) ∧ ⟨46, 300000⟩ ∈ statusItems base .cell 7 ∧
    answer (run (.read .cell (item 1 7 46 0)) base) .cell = some (0, 300000) :=
  ⟨by decide +kernel, takes rfl rfl (by decide +kernel), takes rfl rfl (by decide +kernel), takes rfl rfl (by decide +kernel),
    takes rfl rfl (by decide +kernel), takes rfl rfl (by decide +kernel), by decide +kernel, by decide +kernel⟩

/-- Item 23, the last of the window, in both addresses. -/
theorem witness_WindowActsAsTable3 :
    Takes (idle base) (.read .cell ⟨2, 23 + 40, 0, (item 1 2 63 0).check⟩) ∧ Takes (idle base) (.read .cell ⟨3, 23, 0, (item 1 3 23 0).check⟩) ∧
    Takes (idle base) (.deratingWrite .cell .window 23 ⟨5, (value 2 2 63 5).check⟩) ∧
    Takes (idle base) (.deratingWrite .cell .table3 23 ⟨5, (value 2 3 23 5).check⟩) :=
  ⟨takes rfl rfl (by decide +kernel), takes rfl rfl (by decide +kernel), takes rfl rfl (by decide +kernel), takes rfl rfl (by decide +kernel)⟩

/-- A setting written, the last derating item, a cap; what stops them: `test_write_rows`. -/
theorem witness_SettingsWritesAreGatedAndStored :
    (item 2 8 0 51).wfWrite = true ∧ Takes (idle base) (.write .cell (item 2 8 0 51)) ∧ Passes base .cell .t8 ∧
    Admits base .t8 0 51 ∧ ¬Admits base .t8 0 100 ∧ Stopped base .site .t8 .denied ∧
    Stopped (withStanding .cell .forfeit base) .cell .t8 .noStanding ∧ wfDerating .table3 33 = true ∧ wfDerating .window 23 = true ∧
    Takes (idle base) (.deratingWrite .cell .table3 33 (value 2 3 33 3000)) ∧
    Takes (idle base) (.siteCapWrite .site .charge (value 2 5 3 250)) :=
  ⟨rfl, takes rfl rfl (by decide +kernel), ⟨by decide +kernel, by decide +kernel, by decide +kernel, by decide +kernel⟩,
    ⟨by decide +kernel, by decide +kernel⟩, fun h => absurd h.2 (by decide +kernel), .denied (by decide +kernel),
    .noStanding (by decide +kernel) (by decide +kernel), rfl, rfl, takes rfl rfl (by decide +kernel), takes rfl rfl (by decide +kernel)⟩

/-- The fallback order at both ends of its range and one past them. -/
theorem witness_OrderWritesSetTheTarget :
    DispatchLaw (ramping 300 160) ∧ Takes (idle (ramping 300 160)) (.siteOrderWrite .site (value 2 5 0 12000)) ∧
    Takes (idle (ramping 300 160)) (.rampRateWrite .site (value 2 5 1 1001)) ∧
    ([-10000, -9999, 9999, 10000].all fun v => ((value 2 5 2 v).frame kindWrite 5 2).checkOk) = true ∧
    Takes (idle (ramping 300 160)) (.fallbackOrderWrite .site (value 2 5 2 10000)) ∧ Passes (ramping 300 160) .site .t5 :=
  ⟨dispatchLaw_ramping, takes rfl rfl (by decide +kernel), takes rfl rfl (by decide +kernel), by decide +kernel,
    takes rfl rfl (by decide +kernel), ⟨by decide +kernel, by decide +kernel, by decide +kernel, by decide +kernel⟩⟩

theorem witness_ConverterDataIsTaken :
    DispatchLaw (ramping 300 160) ∧ Takes (idle (ramping 300 160)) (.converterReport .converter (value 2 6 0 305)) ∧
    MayWrite (ramping 300 160) .converter 6 ∧ Trusted (ramping 300 160) .converter ∧ ¬MayWrite (ramping 300 160) .site 6 ∧
    ((ramping 300 160).sw .g).state = .closed ∧ Takes (idle base) (.ratingWrite .converter .charge (value 2 6 1 12000)) :=
  ⟨dispatchLaw_ramping, takes rfl rfl (by decide +kernel), by decide +kernel, by decide +kernel, by decide +kernel, by decide +kernel,
    takes rfl rfl (by decide +kernel)⟩

theorem witness_IsolationRequestStartsTheSequence :
    16 < (joined.settings.get .t11).length ∧ Takes (idle joined) (.isolationRequestWrite .site (value 2 11 16 1)) ∧
    Takes (idle joined) (.isolationRequestWrite .site (value 2 11 16 0)) ∧ Passes joined .site .t11 ∧ Admits joined .t11 16 1 ∧
    Admits joined .t11 16 0 ∧ ¬Admits joined .t11 16 2 ∧ joined.swc.isolation = .released ∧ (joined.sw .g).state = .closed ∧
    ∀ n, Resting (ready 0) n :=
  ⟨by decide +kernel, takes rfl rfl (by decide +kernel), takes rfl rfl (by decide +kernel),
    ⟨by decide +kernel, by decide +kernel, by decide +kernel, by decide +kernel⟩, ⟨by decide +kernel, by decide +kernel⟩,
    ⟨by decide +kernel, by decide +kernel⟩, fun h => absurd h.1 (by decide +kernel), rfl, rfl,
    by intro n; cases n <;> exact .inl rfl⟩

/-- The last right, the last switching right, an entry that stands and the map lock. -/
theorem witness_AccessMapWriteEditsOneEntry :
    Takes (idle base) (.accessMapWrite .site 25 (value 2 13 25 0)) ∧ Takes (idle base) (.accessMapWrite .site 46 (value 2 13 46 3)) ∧
    Takes (idle base) (.accessMapWrite .site 48 (value 2 13 48 1)) ∧ Passes base .site .t13 :=
  ⟨takes rfl rfl (by decide +kernel), takes rfl rfl (by decide +kernel), takes rfl rfl (by decide +kernel),
    ⟨by decide +kernel, by decide +kernel, by decide +kernel, by decide +kernel⟩⟩

theorem witness_ExpectationRewriteActsOnTheMonitor :
    let d := withMonitor .s0 present base
    Takes (idle d) (.expectationRewrite .cell .s0 .moduleCount (value 2 2 32 10)) ∧ Passes d .cell .t2 ∧ Admits d .t2 32 10 ∧
    ¬Admits d .t2 39 3 ∧ (d.monitor .s0).state = .present :=
  ⟨takes rfl rfl (by decide +kernel), ⟨by decide +kernel, by decide +kernel, by decide +kernel, by decide +kernel⟩,
    ⟨by decide +kernel, by decide +kernel⟩, fun h => absurd h.1 (by decide +kernel), rfl⟩

theorem witness_ClearStoreStatusClearsOneFlag :
    Takes (idle base) (.clearStoreStatus .site (arg 1 15)) ∧ Takes (idle base) (.clearStoreStatus .cell (arg 1 13)) ∧
    Takes (idle base) (.clearStoreStatus .cell (arg 1 14)) ∧ MayWrite base .site 13 ∧ Trusted base .site :=
  ⟨takes rfl rfl (by decide +kernel), takes rfl rfl (by decide +kernel), takes rfl rfl (by decide +kernel), by decide +kernel, .inl rfl⟩

theorem witness_StoreAndLockServicesTakeEffect :
    Takes (idle base) (.storeTable .cell (arg 0 2)) ∧ MayWrite base .cell 2 ∧ Trusted base .cell ∧
    Takes (idle base) (.lockTable .cell (arg 2 8)) ∧ Takes (idle base) (.siteHold .site (arg 3 11)) ∧
    Takes (idle base) (.siteReleaseHold .site (arg 4 11)) ∧ MayWrite base .site 11 ∧ Takes (idle base) (.lockMap .site (arg 5 0)) :=
  ⟨takes rfl rfl (by decide +kernel), by decide +kernel, .inl rfl, takes rfl rfl (by decide +kernel), takes rfl rfl (by decide +kernel),
    takes rfl rfl (by decide +kernel), by decide +kernel, takes rfl rfl (by decide +kernel)⟩

/-- A release that every row lets pass, and one beyond the last string; the rows between: `test_release_rows`. -/
theorem witness_ReleaseLockoutUnpinsTheChannels :
    let d := locked (span 3484 3600)
    Takes (idle d) (.releaseLockout .site (arg 6 1)) ∧ Takes (idle d) (.releaseLockout .site (arg 6 4)) ∧ Trusted d .site ∧
    (d.sup .s1).causes ≠ .none ∧ (d.sw .s1).state = .opened ∧ (d.monitor .s1).state = .present ∧ (d.monitor .s1).stale = false ∧
    ∃ r, (d.monitor .s1).held = some r ∧ WithinSoft d .s1 r :=
  ⟨takes rfl rfl (by decide +kernel), takes rfl rfl (by decide +kernel), .inl rfl, by decide +kernel, rfl, rfl, rfl, _, rfl,
    by
      refine ⟨fun m h => ?_, by decide +kernel, by decide +kernel⟩
      have h' : m = ⟨3600, 3484, some 250⟩ ∨ m = ⟨3484, 3484, some 250⟩ := by
        simpa [span, record, List.replicate] using h
      obtain rfl | rfl := h' <;> exact ⟨by decide +kernel, by decide +kernel, 250, rfl, by decide +kernel⟩⟩

theorem witness_ClearSwitchClearsTheFlags :
    Takes (idle base) (.clearSwitch .site (arg 7 4)) ∧ Takes (idle base) (.clearSwitch .site (arg 7 5)) ∧ MaySwitch base .site .g ∧
    ¬MaySwitch base .cell .g ∧ base.standing .site = .inStanding ∧ (base.sw .g).state ≠ .welded :=
  ⟨takes rfl rfl (by decide +kernel), takes rfl rfl (by decide +kernel), by decide +kernel, by decide +kernel, rfl, by decide +kernel⟩

theorem witness_ZoneServicesMoveTheStage :
    let d := base.modZone .z2 fun r => { r with stage := .countdown, releaseTimer := some 5 }
    Takes (idle d) (.zoneReset .site (arg 8 2)) ∧ (d.zone .z2).stage = .countdown ∧ Takes (idle d) (.zoneRearm .site (arg 9 3)) ∧
    Takes (idle d) (.zoneTestStart .site (arg 10 0)) ∧ (d.zone .z0).stage = .normal ∧ Takes (idle d) (.zoneTestEnd .site (arg 11 0)) ∧
    ((run (.zoneTestStart .site (arg 10 0)) d).zone .z0).testTimer ≠ none :=
  ⟨takes rfl rfl (by decide +kernel), rfl, takes rfl rfl (by decide +kernel), takes rfl rfl (by decide +kernel), rfl,
    takes rfl rfl (by decide +kernel), by decide +kernel⟩

theorem witness_ForceEventReachesTheRecorder :
    Takes (idle base) (.forceEvent .site (arg 12 23)) ∧ Takes (idle base) (.forceEvent .site (arg 12 24)) ∧ Trusted base .site :=
  ⟨takes rfl rfl (by decide +kernel), takes rfl rfl (by decide +kernel), .inl rfl⟩

/-- The longest run of the last string at the highest target. -/
theorem witness_BalanceStartBeginsARun :
    let d := withMonitor .s3 present base
    Takes (idle d) (start 3 480 4300) ∧
    (BitVec.ofInt 32 (3 * 268435456 + 480 * 65536 + 4300 : Nat)).toNat = 3 * 268435456 + 480 * 65536 + 4300 ∧ MayWrite d .cell 2 ∧
    Trusted d .cell ∧ d.bal.run.state = .idle ∧ (d.monitor .s3).state = .present ∧ d.bal.health.get .s3 = .absent ∧
    d.bal.fireStage.grave = false :=
  ⟨takes rfl rfl (by decide +kernel), by decide +kernel, by decide +kernel, .inl rfl, rfl, rfl, rfl, rfl⟩

theorem witness_BalanceServicesActOnTheRun :
    let d := balancing .running 8 [8, 8]
    Takes (idle d) (.balanceSuspend .cell (arg 14 0)) ∧ Takes (idle d) (.balanceResume .cell (arg 15 0)) ∧
    Takes (idle d) (.balanceCancel .cell (arg 16 0)) ∧ Trusted d .cell ∧ d.bal.run.state.live = true ∧ d.bal.run.owner = some .cell ∧
    Takes (idle (balancing .ended 0 [])) (.balanceClear .cell (arg 17 0)) ∧ MayWrite (balancing .ended 0 []) .cell 2 :=
  ⟨takes rfl rfl (by decide +kernel), takes rfl rfl (by decide +kernel), takes rfl rfl (by decide +kernel), .inl rfl, rfl, rfl,
    takes rfl rfl (by decide +kernel), by decide +kernel⟩

theorem witness_CoolingFaultClearReturnsStages :
    let d := base.modStage .c3 fun c => { c with state := .failed }
    Takes (idle d) (.coolingFaultClear .cell (arg 18 3)) ∧ Takes (idle d) (.coolingFaultClear .cell (arg 18 0)) ∧
    Takes (idle d) (.coolingFaultClear .cell (arg 18 4)) ∧ Trusted d .cell ∧ (d.stage .c3).state = .failed :=
  ⟨takes rfl rfl (by decide +kernel), takes rfl rfl (by decide +kernel), takes rfl rfl (by decide +kernel), .inl rfl, rfl⟩

/-- The last switch, the index after it, both actions; the rows: `test_select_rows`. -/
theorem witness_SelectRecordsTheSelection :
    let d := standing .s0 .closed true (ready 7650)
    Takes (idle d) (.select .converter (item 6 7 4 1)) ∧ Takes (idle d) (.select .converter (item 6 7 5 1)) ∧
    Takes (idle d) (.select .cell (item 6 7 0 2)) ∧ Takes (idle d) (.select .cell (item 6 7 0 3)) ∧ MaySwitch d .converter .g ∧
    d.standing .converter = .inStanding ∧ (d.sw .g).selection = none ∧ (d.sw .g).state = .opened ∧ (d.sw .g).inhibits.code = 0 ∧
    (d.sw .s0).state = .closed ∧ (∀ m x, (d.sw m).selection = some x → x.holder ≠ .converter) :=
  ⟨takes rfl rfl (by decide +kernel), takes rfl rfl (by decide +kernel), takes rfl rfl (by decide +kernel),
    takes rfl rfl (by decide +kernel), by decide +kernel, rfl, rfl, rfl, by decide +kernel, rfl,
    by intro m x h; cases m <;> exact (noSelection h).elim⟩

theorem witness_OperateStartsTheOperation :
    Takes (idle selected) (.operate .cell (item 7 7 2 1)) ∧ Takes (idle selected) (.operate .site (item 7 7 0 2)) ∧
    Takes (idle selected) (.operate .site (item 7 7 5 2)) ∧ Takes (idle selected) (.operate .site (item 7 7 0 0)) ∧
    selected.standing .cell = .inStanding ∧ (selected.sw .s2).selection = some ⟨.cell, .close, 10000⟩ ∧
    (selected.sw .s2).inhibits.code = 0 ∧ (selected.sw .s0).selection = some ⟨.site, .opening, 10000⟩ :=
  ⟨takes rfl rfl (by decide +kernel), takes rfl rfl (by decide +kernel), takes rfl rfl (by decide +kernel),
    takes rfl rfl (by decide +kernel), rfl, rfl, by decide +kernel, rfl⟩

theorem witness_SelectionsEndByCancelAndTimeout :
    SelectionLaw selected ∧ Takes (idle selected) (.cancel .cell (item 8 0 0 0)) ∧
    (∃ x, (selected.sw .s2).selection = some x ∧ x.holder = .cell) ∧ Takes (idle selected) (.cancel .converter (item 8 0 0 0)) :=
  ⟨selectionLaw_selected, takes rfl rfl (by decide +kernel), ⟨_, rfl, rfl⟩, takes rfl rfl (by decide +kernel)⟩

/-- A restart that takes effect within the RESTART, one that waits for the engine, and one that is ready with a reload and a live run. -/
theorem witness_RestartWaitsAndTakesEffect :
    Takes (idle base) (.restart .site (arg 19 0)) ∧ RestartFree base ∧
    (¬RestartFree (base.modSto fun x => { x with engine := .storing .t2 })) ∧
    let d := (balancing .running 8 [8, 8]).modSto fun x => { x with restart := some .self, reload := x.reload.set .t9 true }
    d.sto.restart ≠ none ∧ RestartFree d ∧ d.sto.reload.get .t9 = true ∧ d.bal.run.state.live = true :=
  ⟨takes rfl rfl (by decide +kernel), ⟨rfl, rfl, nofun⟩, nofun, nofun, ⟨rfl, rfl, nofun⟩, rfl, rfl⟩

theorem witness_LinkEventsReachThePort :
    (base.link .cell).running = true ∧ ((run (.linkResetAssert .cell) base).link .cell).running = false := ⟨rfl, rfl⟩

/-- The last string's slot, slot 4 with and without a list. -/
theorem witness_LinkSlotPollsInTurn :
    StringId.s3.num = 3 ∧ ({ base.slc with slot := 3 } : Slc).slot = 3 ∧ base.slc.identityList = [] ∧
    ({ base.slc with slot := 4, identityList := [.s2, .s1] } : Slc).identityList = .s2 :: [.s1] := ⟨rfl, rfl, rfl, rfl⟩

/-- Answers in progress and not, that pass and fail their check, with 8 and 16 entries, one fewer and one more. -/
theorem witness_AnswersAreAcceptedOrDiscarded :
    let d := asking (.scanPoll .s0) (withMonitor .s0 present base)
    (.scanPoll .s0 ∈ d.slc.awaiting ∧ .busPoll ∉ d.slc.awaiting ∧ .busPoll ∈ (asking .busPoll base).slc.awaiting ∧
      .identityRequest .s0 ∈ (asking (.identityRequest .s0) base).slc.awaiting) ∧
    EndsWithCheck (good (record 8 3400)).bytes ∧ (record 16 3400).modules.length = 16 ∧
    (record 7 3400).modules.length < 8 ∧ 16 < (record 17 3400).modules.length ∧ ¬EndsWithCheck [1, 0, 0] ∧
    (d.monitor .s0).learned = some (record 12 3400).modules.length ∧ (base.monitor .s0).state = .absent :=
  ⟨by decide +kernel, withCheck_ends _, by decide +kernel, by decide +kernel, by decide +kernel,
    fun h => absurd ((answerChecks_iff ⟨[1, 0, 0], ()⟩).2 h) (by decide +kernel), by decide +kernel, rfl⟩

/-- A stale expiry at 1900 + 99 and at 1900 + 100. -/
theorem witness_LinkTimersExpire :
    let d (left : Nat) := withMonitor .s0 { present with age := some 1900, staleIn := some left, identityTimer := some 0 } base
    ((d 99).monitor .s0).state = .present ∧ ((d 99).monitor .s0).age = some 1900 ∧ ((d 99).monitor .s0).staleIn = some 99 ∧
    ((d 100).monitor .s0).staleIn = some 100 ∧ ((d 99).monitor .s0).identityTimer ≠ none ∧
    (run (.busRecord .busPoll (good ⟨7600, 2300, 2300, 2300, 50000⟩)) (asking .busPoll base)).slc.busTimer ≠ none :=
  ⟨rfl, rfl, rfl, rfl, nofun, by decide +kernel⟩

/-- A segment's lower end, a segment that rises and one that falls, the last breakpoint, and a record with every module OPEN. -/
theorem witness_DeratingInterpolates :
    SettingsLaw (ramping 300 160) ∧ ((ramping 300 160).env.strings.s0.copy).isSome = true ∧
    (base.item .t3 0 ≤ -100 ∧ (-100 : Int) < base.item .t3 1 ∧ base.item .t3 5 ≤ 550) ∧
    (0 < base.item .t3 7 - base.item .t3 6 ∧ base.item .t3 10 - base.item .t3 9 < 0) ∧
    let blind := { record 12 3400 with modules := List.replicate 12 ⟨3400, 3400, none⟩ }
    blind.modules ≠ [] ∧ ∀ m ∈ blind.modules, m.temp = none :=
  ⟨settingsLaw_ramping, by decide +kernel, by decide +kernel, by decide +kernel, by decide +kernel, by decide +kernel⟩

theorem witness_DispatchEventsMoveTheGrant :
    DispatchLaw (ramping 300 160) ∧ (ramping 300 160).du.rampTimer ≠ none ∧ ((ramping 300 160).sw .g).state = .closed ∧
    let d : Device := { ramping 300 160 with du := { (ramping 300 160).du with reportTimer := some 0, overrunTimer := some 0 } }
    DispatchLaw d ∧ d.du.reportTimer ≠ none ∧ d.du.overrunTimer ≠ none ∧ d.du.reportStale = false :=
  ⟨dispatchLaw_ramping, by decide +kernel, by decide +kernel, ⟨by decide +kernel, by decide +kernel, by decide +kernel⟩,
    by decide +kernel, by decide +kernel, by decide +kernel⟩

/-- Two strings CLOSED, a voltage exactly JOIN_WINDOW from the bus and one beyond it: `test_select_taken_and_refused`. -/
theorem witness_SwitchingEventsEndAlike :
    let d := (standing .g .opened false joined).modSwc fun c => { c with isolation := .isolating }
    d.swc.isolation = .isolating ∧ Resting d .g ∧ (d.sw .s0).state = .closed ∧ d.pins.feedback.get .s0 = true ∧
    joined.swc.isolation ≠ .isolating := ⟨rfl, .inl rfl, rfl, rfl, nofun⟩

theorem witness_FeedbackDecidesTheOperation :
    joined.pins.feedback.get .s0 ≠ false ∧ (joined.sw .s0).state = .closed ∧ (ready 0).pins.feedback.get .s0 ≠ true ∧
    ((withState .s0 .closing (ready 0)).sw .s0).state = .closing := ⟨nofun, rfl, nofun, rfl⟩

/-- The reports at OVR_ABS, 5, and one past it open and keep the breaker. -/
theorem witness_ForcedOpensReachTheSwitches :
    let d := run (.isolationRequestWrite .site (value 2 11 16 1)) joined
    d.swc.isolationTimer ≠ none ∧ (((-5 : Int).natAbs : Nat) : Int) ≤ d.item .t5 5 ∧ ¬(((6 : Int).natAbs : Nat) : Int) ≤ d.item .t5 5 ∧
    ((run (.healthHandoffSwc .s0 .tripped) joined).sw .s0).openDelay ≠ none ∧ joined.swc.health.get .s0 = .available :=
  ⟨by decide +kernel, by decide +kernel, by decide +kernel, by decide +kernel, rfl⟩

/-- A bus exactly MATCH_WINDOW from the string joins, one more does not. -/
theorem witness_RecordsReachTheSwitches :
    let d := withState .s0 .precharging (ready 0)
    (d.sw .s0).state = .precharging ∧ (((7552 : Int) - 7652).natAbs : Int) ≤ d.item .t11 19 ∧
    ¬(((7551 : Int) - 7652).natAbs : Int) ≤ d.item .t11 19 ∧ ((run (.swcBusRecord 7552) d).sw .s0).state = .closing ∧
    ((run (.swcBusRecord 7551) d).sw .s0).state = .precharging :=
  ⟨rfl, by decide +kernel, by decide +kernel, by decide +kernel, by decide +kernel⟩

theorem witness_GridWindowMoves :
    SettingsLaw base ∧ (grid .rideThrough).gwm.window = .rideThrough ∧ (base.classify (bus 1150 47500)).volt = .lowRide ∧
    (base.classify (bus 1150 47500)).freq = .ride ∧ (base.classify (bus 1149 47499)).volt = .lowTrip ∧
    (base.classify (bus 1149 47499)).freq = .trip ∧ (base.classify (bus 2530 51000)).volt = .normal ∧
    (base.classify (bus 2533 51001)).volt = .highRide :=
  ⟨settingsLaw_factory _ rfl (by intro t; cases t <;> rfl) rfl, rfl, by decide +kernel, by decide +kernel, by decide +kernel,
    by decide +kernel, by decide +kernel, by decide +kernel⟩

theorem witness_CoolingSampleRunsTheLoop :
    SettingsLaw (warm 300 324 summer) ∧ (warm 300 324 summer).clc.demanded ≤ 3 ∧ (warm 300 324 summer).slc.tmax = some 324 ∧
    (warm 300 324 summer).slc.tmin = some 300 ∧ SettingsLaw base ∧ base.slc.tmax = none :=
  ⟨settingsLaw_factory _ rfl (by intro t; cases t <;> rfl) rfl, by decide +kernel, by decide +kernel, by decide +kernel,
    settingsLaw_factory _ rfl (by intro t; cases t <;> rfl) rfl, by decide +kernel⟩

theorem witness_CoolingEventsMoveTheLoop :
    (chilling.stage .c1).timer ≠ none ∧ chilling.pins.flow ≠ false ∧ chilling.clc.flow = .confirmed ∧
    (run .flowConfirmExpiry (run sample (warm (-250) (-180) base))).clc.phase = .waiting ∧
    (run (.zoneStageHandoffClc ⟨.prealarm, .normal, .normal⟩) base).clc.exhaustTimer ≠ none :=
  ⟨by decide +kernel, by decide +kernel, by decide +kernel, by decide +kernel, by decide +kernel⟩

theorem witness_DetectionsMoveTheZones :
    ((run (.loopChange .z0 .smoke .active) base).zone .z0).smoke.timer ≠ none ∧ BatteryZone.z1.zone = .z1 ∧
    (run (.zoneTestStart .site (arg 10 1)) base |>.zone .z1).testTimer ≠ none ∧ (base.zone .z1).testTimer = none :=
  ⟨by decide +kernel, rfl, by decide +kernel, rfl⟩

theorem witness_CallHoldAndTimersMoveTheZones :
    (run (.callPointChange true) base).fgu.callTimer ≠ none ∧ base.fgu.holdPressed ≠ true ∧
    ((smoky .countdown (some 0)).zone .z0).releaseTimer ≠ none ∧
    ((run (.releaseTimerExpiry .z0) (smoky .countdown (some 0))).zone .z0).pulseTimer ≠ none ∧
    (run (.zoneTestStart .site (arg 10 1)) base |>.zone .z1).testTimer ≠ none :=
  ⟨by decide +kernel, nofun, by decide +kernel, by decide +kernel, by decide +kernel⟩

theorem witness_BalanceEventsMoveTheRun :
    let b := (balancing .running 8 [8, 8]).bal
    b.run.state.live = true ∧ b.run.string = .s0 ∧ b.history = [8, 8] ∧
    BleedSet 3400 (volts 3411 3410 3400) 8 ∧ BleedSet 3400 (volts 3410 3410 3410) 0 := by
  refine ⟨rfl, rfl, rfl, ?_, ?_⟩ <;> intro p hp <;> interval_cases p <;> simp [volts]

/-- A right answer and one a byte off, a value at 0xFFFFFF and one past it. -/
theorem witness_ChallengesAndAnswersSetTheStanding :
    let d := challenged .inStanding 0 45 1211 1211
    Takes (idle d) (reply 211 1211) ∧ Takes (idle d) (reply 212 1211) ∧ Takes (idle d) (.answer .converter (item 4 0 0 0xFFFFFF)) ∧
    Takes (idle d) (.answer .converter (item 4 0 0 0x1000000)) ∧ (d.port .converter).outstanding = true ∧
    (211 : Nat) = (255 + 256 - ((d.port .converter).token.getD 0).toNat + Port.num .converter) % 256 :=
  ⟨takes rfl rfl (by decide +kernel), takes rfl rfl (by decide +kernel), takes rfl rfl (by decide +kernel),
    takes rfl rfl (by decide +kernel), by decide +kernel, by decide +kernel⟩

theorem witness_PortsKeepTheirOwnEventView :
    Takes (idle full) (.cursorWrite .site (value 2 12 2 231)) ∧ Takes (idle full) (.maskWrite .site (value 2 12 1 0xFFFFFF)) ∧
    Takes (idle full) (.ackEvents .site (item 5 0 0 0x1000000)) ∧ QueueLaw full ∧ Takes (idle full) (.read .site (item 1 12 8 0)) ∧
    Takes (idle full) (.read .site (item 1 12 12 0)) ∧ full.item .t13 (3 * 12 + Port.num .site) = 1 :=
  ⟨takes rfl rfl (by decide +kernel), takes rfl rfl (by decide +kernel), takes rfl rfl (by decide +kernel), witness_QueueLawKept.1,
    takes rfl rfl (by decide +kernel), takes rfl rfl (by decide +kernel), by decide +kernel⟩

theorem witness_OccurrencesAreRecorded : QueueLaw full ∧ full.evr.queue.length = 32 ∧ full.evr.counts.length = 24 :=
  ⟨witness_QueueLawKept.1, by decide +kernel, by decide +kernel⟩

theorem witness_StoreOperationsComplete :
    (base.modSto fun x => { x with engine := .storing .t5 }).sto.engine = .storing .t5 ∧ base.sto.engine = .idle ∧
    (base.modSto fun x => { x with engine := .updating .empty }).sto.engine = .updating .empty ∧ ¬CheckFails base .t2 ∧
    CheckFails { base with settings := base.settings.set .t2 [] } .t2 :=
  ⟨rfl, rfl, rfl, fun h => h (by decide +kernel), fun h => nomatch (congrArg List.length h : 40 = 0)⟩

end Sys2Proof.Tests
end

section
/-! SUPPORT. SLC's shared operations and its timers (R8, R13, R14, R15). -/

namespace Sys2Proof.Machine

/-! ## SLC: what its shared operations leave -/

/-- R8: a string joins the identity list at its end, unless it stands on it. -/
theorem Device.joinList_eq (d : Device) (n : StringId) :
    d.joinList n = { d with slc := { d.slc with
      identityList := if n ∈ d.slc.identityList then d.slc.identityList else d.slc.identityList ++ [n] } } := by
  by_cases h : n ∈ d.slc.identityList <;> simp [Device.joinList, h]

/-- A monitor that is written twice holds the last value. -/
theorem PerString.set_set {α : Type} (x : PerString α) (n : StringId) (a b : α) : (x.set n a).set n b = x.set n b := by
  cases n <;> rfl

/-- R8, R9, R12: the monitor's record as it stands when it ends in UNRECOGNIZED may have been written in the same event. -/
theorem Device.unrecognize_modMonitor (d : Device) (n : StringId) (f : Monitor → Monitor) (why : Reason) :
    Unrecognized d ((d.modMonitor n f).unrecognize n why) n (f (d.monitor n)) why := by
  simp [Unrecognized, Device.unrecognize, Device.leaveList, Device.raise, Device.post, Device.modMonitor,
    Device.monitor, PerString.set_set]

theorem Device.unrecognize_unrecognized (d : Device) (n : StringId) (why : Reason) :
    Unrecognized d (d.unrecognize n why) n (d.monitor n) why := by
  simp [Unrecognized, Device.unrecognize, Device.leaveList, Device.raise, Device.post, Device.modMonitor]

/-! ## The timers of SLC (R8, R13, R14, R15) -/

/-- R8: an expiry with no timer running changes nothing. -/
theorem execIdentityTimerExpiry_idle {s : State} {n : StringId} (h : (s.dev.monitor n).identityTimer = none) :
    execIdentityTimerExpiry n s = .next s := by
  simp [execIdentityTimerExpiry, State.next, State.on, Device.when, h]

/-- R8: after the first request the string joins the list once more. -/
theorem execIdentityTimerExpiry_first {s : State} {n : StringId} (h : (s.dev.monitor n).identityTimer ≠ none)
    (ha : (s.dev.monitor n).attempts ≤ 1) :
    execIdentityTimerExpiry n s = .next (s.on fun d => (d.modMonitor n fun m => { m with identityTimer := none }).joinList n) := by
  simp [execIdentityTimerExpiry, State.next, State.on, Device.when, Option.isSome_iff_ne_none.mpr h,
    Device.modMonitor_monitor, ha]

/-- R8: after the second request the monitor ends in UNRECOGNIZED. -/
theorem execIdentityTimerExpiry_last {s : State} {n : StringId} (h : (s.dev.monitor n).identityTimer ≠ none)
    (ha : 1 < (s.dev.monitor n).attempts) :
    execIdentityTimerExpiry n s =
      .next (s.on fun d => (d.modMonitor n fun m => { m with identityTimer := none }).unrecognize n .noIdentity) := by
  simp [execIdentityTimerExpiry, State.next, State.on, Device.when, Option.isSome_iff_ne_none.mpr h,
    Device.modMonitor_monitor, Nat.not_le.mpr ha]

/-- R13: the onset or the repeat of staleness, taken below 2000 ms alone. -/
theorem execStaleExpiry_present {s : State} {n : StringId} {age left : Nat} (hp : (s.dev.monitor n).state = .present)
    (ha : (s.dev.monitor n).age = some age) (hl : (s.dev.monitor n).staleIn = some left) :
    execStaleExpiry n s = .next (s.on fun d => d.when (decide (age + left < 2000)) fun d =>
      (d.modMonitor n fun m => { m with stale := true, age := some (age + left), staleIn := some 100 }).post
        (.csuEvaluation n .staleExpiry)) := by
  simp [execStaleExpiry, State.next, State.on, hp, ha, hl]

/-- R14: a loss of a monitor that is ABSENT already changes nothing. -/
theorem execMonitorLoss_absent {s : State} {n : StringId} (h : (s.dev.monitor n).state = .absent) :
    execMonitorLoss n s = .next s := by
  simp [execMonitorLoss, State.next, State.on, Device.when, h]

/-- R14: a loss clears the monitor but its discard count, and is reported to the three blocks that keep the string. -/
theorem execMonitorLoss_lost {s : State} {n : StringId} (h : (s.dev.monitor n).state ≠ .absent) :
    execMonitorLoss n s = .next ⟨s.pending, { s.dev with
      slc := { s.dev.slc with
        monitors := s.dev.slc.monitors.set n { Monitor.reset with discarded := (s.dev.monitor n).discarded }
        identityList := s.dev.slc.identityList.filter (· != n) }
      handoffs := s.dev.handoffs ++ [.eventOccurrence ⟨.monitorLost, .string n, some (s.dev.monitor n).state.code, false⟩,
        .monitorStateReport n, .swcMonitorLoss n, .balMonitorLoss n] }⟩ := by
  simp [execMonitorLoss, State.next, State.on, Device.when, h, Device.leaveList, Device.raise, Device.post, Device.modMonitor]

/-- R15: the onset of bus staleness goes to GWM and SWC. -/
theorem execBusStaleOnset_running {s : State} (h : s.dev.slc.busTimer ≠ none) :
    execBusStaleOnset s = .next ⟨s.pending, { s.dev with
      slc := { s.dev.slc with busStale := true, busTimer := none }
      handoffs := s.dev.handoffs ++ [.gwmBusStale, .swcBusStale] }⟩ := by
  simp [execBusStaleOnset, State.next, State.on, Device.when, Option.isSome_iff_ne_none.mpr h, Device.post]

end Sys2Proof.Machine

section
open Sys2Proof Sys2Proof.Machine

/-- Settles O42: each timer's expiry, by whether it runs and by what the monitor holds. -/
theorem linkTimersExpire : Obligations.LinkTimersExpire := by
  intro s
  refine ⟨fun n => ⟨execIdentityTimerExpiry_idle, fun h ha => ?_, fun h ha => ?_⟩, fun n age left hp ha hl => ⟨fun h => ?_, fun h => ?_⟩,
    fun n => ⟨execMonitorLoss_absent, execMonitorLoss_lost⟩, execBusStaleOnset_running⟩
  · exact (execIdentityTimerExpiry_first h ha).trans (by simp [State.on, Device.joinList_eq, Device.modMonitor])
  · exact ⟨_, execIdentityTimerExpiry_last h ha, s.dev.unrecognize_modMonitor n _ .noIdentity⟩
  · exact (execStaleExpiry_present hp ha hl).trans (by simp [State.on, Device.when, h, Device.post, Device.modMonitor])
  · exact (execStaleExpiry_present hp ha hl).trans (by simp [State.on, Device.when, Nat.not_lt.mpr h])

end

end

section
/-! SUPPORT. The answers of the link, discarded or accepted (R1, R3 to R13). -/

namespace Sys2Proof.Machine

/-! ## Answers of the link (R1, R3 to R13) -/

/-- The part once an exchange is over. -/
def Device.exchangeEnded (x : Exchange) (d : Device) : Device :=
  { d with slc := { d.slc with awaiting := d.slc.awaiting.erase x } }

/-- R3: the entry count fits, once the learned count of a PRESENT monitor is at hand. -/
theorem Monitor.takes_iff (m : Monitor) (r : ScanRecord) : m.takes r = true ↔
    8 ≤ r.modules.length ∧ r.modules.length ≤ 16 ∧ (m.state = .present → m.learned = some r.modules.length) := by
  simp only [Monitor.takes, Bool.and_eq_true, decide_eq_true_eq, Bool.or_eq_true, bne_iff_ne, beq_iff_eq, and_assoc]
  tauto

/-- R6: a gap is a number that does not follow that of the record held before. -/
theorem Monitor.gap_iff (m : Monitor) (r : ScanRecord) :
    m.gap r = true ↔ ∃ h, m.held = some h ∧ r.sequence ≠ h.sequence + 1 := by
  unfold Monitor.gap
  cases m.held <;> simp

/-- R1: an answer whose exchange is not in progress changes nothing. -/
theorem answered_not_awaiting {s : State} {x : Exchange} (h : x ∉ s.dev.slc.awaiting) (f : Device → Device) :
    s.next (Device.answered x f) = .next s := by
  simp [State.next, State.on, answered_idle h]

/-- R1: an answer whose exchange is in progress ends it. -/
theorem answered_awaiting {s : State} {x : Exchange} (h : x ∈ s.dev.slc.awaiting) (f : Device → Device) :
    s.next (Device.answered x f) = .next ⟨s.pending, f (s.dev.exchangeEnded x)⟩ := by
  simp [State.next, State.on, answered_taken h, Device.exchangeEnded]

theorem execScanRecord_discards {s : State} {x : Exchange} {a : LinkAnswer ScanRecord} (h : x ∈ s.dev.slc.awaiting)
    (hx : ∀ n, x = .scanPoll n → ¬(EndsWithCheck a.bytes ∧ (s.dev.monitor n).takes a.fields = true)) :
    execScanRecord x a s = .next ⟨s.pending, (s.dev.exchangeEnded x).discard x⟩ := by
  rw [execScanRecord, answered_awaiting h]
  cases x with
  | scanPoll n =>
    have bad : ¬(answerChecks a && ((s.dev.exchangeEnded (.scanPoll n)).monitor n).takes a.fields) = true := by
      rw [Bool.and_eq_true, answerChecks_iff]
      exact hx n rfl
    simp only [bad, Bool.false_eq_true, ↓reduceIte, Device.discard]
  | busPoll => rfl
  | identityRequest n => rfl

theorem execScanRecord_accepts {s : State} {n : StringId} {a : LinkAnswer ScanRecord}
    (h : .scanPoll n ∈ s.dev.slc.awaiting) (hc : EndsWithCheck a.bytes) (ht : (s.dev.monitor n).takes a.fields = true) :
    execScanRecord (.scanPoll n) a s =
      .next ⟨s.pending, (s.dev.exchangeEnded (.scanPoll n)).acceptScan n a.fields.saturated⟩ := by
  have good : (answerChecks a && ((s.dev.exchangeEnded (.scanPoll n)).monitor n).takes a.fields) = true := by
    rw [Bool.and_eq_true, answerChecks_iff]
    exact ⟨hc, ht⟩
  rw [execScanRecord, answered_awaiting h]
  simp only [good, ↓reduceIte]

theorem execBusRecord_discards {s : State} {x : Exchange} {a : LinkAnswer BusRecord} (h : x ∈ s.dev.slc.awaiting)
    (hx : x = .busPoll → ¬EndsWithCheck a.bytes) :
    execBusRecord x a s = .next ⟨s.pending, (s.dev.exchangeEnded x).discard x⟩ := by
  rw [execBusRecord, answered_awaiting h]
  cases x with
  | busPoll => simp [mt (answerChecks_iff a).mp (hx rfl), Device.discard]
  | scanPoll n => rfl
  | identityRequest n => rfl

theorem execBusRecord_accepts {s : State} {a : LinkAnswer BusRecord} (h : .busPoll ∈ s.dev.slc.awaiting)
    (hc : EndsWithCheck a.bytes) : execBusRecord .busPoll a s =
      .next ⟨s.pending, (s.dev.exchangeEnded .busPoll).acceptBus a.fields.saturated⟩ := by
  rw [execBusRecord, answered_awaiting h]
  simp [(answerChecks_iff a).mpr hc]

theorem execIdentityRecord_discards {s : State} {x : Exchange} {a : LinkAnswer Identity} (h : x ∈ s.dev.slc.awaiting)
    (hx : ∀ n, x = .identityRequest n → ¬EndsWithCheck a.bytes) :
    execIdentityRecord x a s = .next ⟨s.pending, (s.dev.exchangeEnded x).discard x⟩ := by
  rw [execIdentityRecord, answered_awaiting h]
  cases x with
  | identityRequest n => simp [mt (answerChecks_iff a).mp (hx n rfl), Device.discard]
  | busPoll => rfl
  | scanPoll n => rfl

theorem execIdentityRecord_accepts {s : State} {n : StringId} {a : LinkAnswer Identity}
    (h : .identityRequest n ∈ s.dev.slc.awaiting) (hc : EndsWithCheck a.bytes) :
    execIdentityRecord (.identityRequest n) a s =
      .next ⟨s.pending, (s.dev.exchangeEnded (.identityRequest n)).acceptIdentity n a.fields⟩ := by
  rw [execIdentityRecord, answered_awaiting h]
  simp [(answerChecks_iff a).mpr hc]

/-! What an accepted scan record does, by the monitor's state. -/

/-- The part once monitor n, the identity list and the hand-offs have moved. -/
def Device.monitorMoved (d : Device) (n : StringId) (m : Monitor) (list : List StringId) (hs : List Instr) : Device :=
  { d with slc := { d.slc with monitors := d.slc.monitors.set n m, identityList := list }, handoffs := d.handoffs ++ hs }

/-- R7, R10, R12: the first record, or one that a rewrite has waited for, starts an interrogation. -/
theorem Device.acceptScan_opens {d : Device} {n : StringId} (r : ScanRecord)
    (h : (d.monitor n).state = .absent ∨ (d.monitor n).state = .unrecognized ∧ (d.monitor n).reinterrogate = true) :
    d.acceptScan n r = d.monitorMoved n
      { d.monitor n with
        held := some r, age := some 0, state := .interrogating, reason := .none, attempts := 0, reinterrogate := false }
      (if n ∈ d.slc.identityList then d.slc.identityList else d.slc.identityList ++ [n])
      [.monitorStateReport n, .csuEvaluation n (.hardOnly r), .swcScanRecord n r.current r.voltage] := by
  have e : d.acceptScan n r = ((d.modMonitor n (·.hold r)).interrogate n).deliverHard n r := by
    rcases h with h | ⟨h, hr⟩
    · simp [Device.acceptScan, h]
    · simp [Device.acceptScan, h, hr, Device.when]
  rw [e]
  simp [Device.interrogate, Device.deliverHard, Device.post, Device.joinList_eq, Device.modMonitor, Device.monitor,
    Monitor.hold, Device.monitorMoved, PerString.set_set]

/-- R10: any other record of a monitor that is not PRESENT. -/
theorem Device.acceptScan_waits {d : Device} {n : StringId} (r : ScanRecord)
    (h : ¬((d.monitor n).state = .absent ∨ (d.monitor n).state = .unrecognized ∧ (d.monitor n).reinterrogate = true))
    (hp : (d.monitor n).state ≠ .present) :
    d.acceptScan n r = d.monitorMoved n { d.monitor n with held := some r, age := some 0 } d.slc.identityList
      [.csuEvaluation n (.hardOnly r), .swcScanRecord n r.current r.voltage] := by
  have e : d.acceptScan n r = (d.modMonitor n (·.hold r)).deliverHard n r := by
    cases hm : (d.monitor n).state <;> simp [hm] at h hp <;> simp [Device.acceptScan, hm, h, Device.when]
  rw [e]
  simp [Device.deliverHard, Device.post, Device.modMonitor, Monitor.hold, Device.monitorMoved]

/-- R11: a record of a PRESENT monitor. -/
theorem Device.acceptScan_present {d : Device} {n : StringId} (r : ScanRecord) (h : (d.monitor n).state = .present) :
    d.acceptScan n r = d.monitorMoved n
      { d.monitor n with held := some r, age := some 0, stale := false, staleIn := some 400 } d.slc.identityList
      [.csuEvaluation n (.full r ((d.monitor n).gap r)), .swcScanRecord n r.current r.voltage,
        .balanceRecord n (r.modules.map (·.vmax)) r.bleed] := by
  have e : d.acceptScan n r = ((d.modMonitor n (·.hold r)).modMonitor n fun m => { m with stale := false, staleIn := some 400 }).deliverFull
      n r ((d.monitor n).gap r) := by
    simp only [Device.acceptScan, h]
  rw [e]
  simp [Device.deliverFull, Device.post, Device.modMonitor, Device.monitor, Monitor.hold,
    Device.monitorMoved, PerString.set_set]

/-! What an accepted identity record does. -/

/-- R9: the expectation of table 2, met. -/
theorem Device.expects_iff (d : Device) (n : StringId) (i : Identity) : d.expects n i = true ↔
    (i.modules : Int) = d.item .t2 (32 + 2 * n.num) ∧ (i.chemistry : Int) = d.item .t2 (33 + 2 * n.num) := by
  simp [Device.expects]

/-- R9: outside INTERROGATING an identity record is not taken. -/
theorem Device.acceptIdentity_idle {d : Device} {n : StringId} (i : Identity)
    (h : (d.monitor n).state ≠ .interrogating) : d.acceptIdentity n i = d := by
  simp [Device.acceptIdentity, Device.when, h]

/-- R9: an identity that does not meet the expectation. -/
theorem Device.acceptIdentity_mismatch {d : Device} {n : StringId} {i : Identity}
    (h : (d.monitor n).state = .interrogating) (hf : ¬d.expects n i = true) :
    Unrecognized d (d.acceptIdentity n i) n { d.monitor n with identity := some i } .mismatch := by
  have e : d.acceptIdentity n i =
      (d.modMonitor n fun m => { m with identity := some i, identityTimer := none }).unrecognize n .mismatch := by
    have same : ∀ f, (d.modMonitor n f).expects n i = d.expects n i := fun _ => rfl
    simp [Device.acceptIdentity, Device.when, h, same, hf]
  rw [e]
  exact d.unrecognize_modMonitor n _ .mismatch

/-- R9, R13: an identity that meets the expectation; a record age of 400 ms or more makes the monitor stale at once. -/
theorem Device.acceptIdentity_present {d : Device} {n : StringId} {i : Identity} {age : Nat}
    (h : (d.monitor n).state = .interrogating) (hf : d.expects n i = true) (ha : (d.monitor n).age.getD 0 = age) :
    d.acceptIdentity n i = d.monitorMoved n
      { d.monitor n with
        state := .present, identity := some i, identityTimer := none, learned := some i.modules
        stale := decide (400 ≤ age), staleIn := some (if 400 ≤ age then 100 else 400 - age) }
      (d.slc.identityList.filter (· != n))
      (.eventOccurrence ⟨.monitorAppeared, .string n, none, false⟩ :: .monitorStateReport n ::
        (if 400 ≤ age then [.csuEvaluation n .staleExpiry] else [])) := by
  have e : d.acceptIdentity n i =
      (d.modMonitor n fun m => { m with identity := some i, identityTimer := none }).enterPresent n i.modules := by
    have same : ∀ f, (d.modMonitor n f).expects n i = d.expects n i := fun _ => rfl
    simp [Device.acceptIdentity, Device.when, h, same, hf]
  have held : ((d.modMonitor n fun m => { m with identity := some i, identityTimer := none }).monitor n).age.getD 0 = age := by
    simpa [Device.modMonitor_monitor] using ha
  rw [e, Device.enterPresent, held]
  by_cases old : 400 ≤ age <;>
    simp [old, Device.postIf, Device.post, Device.raise, Device.leaveList, Device.modMonitor, Device.monitor,
      Device.monitorMoved, PerString.set_set]

end Sys2Proof.Machine

section
open Sys2Proof Sys2Proof.Machine

/-- Settles O41: whether the exchange is in progress, then whether the answer passes R3, then the monitor's state. -/
theorem answersAreAcceptedOrDiscarded : Obligations.AnswersAreAcceptedOrDiscarded := by
  intro s ended
  refine ⟨fun x h => ⟨fun a => answered_not_awaiting h _, fun a => answered_not_awaiting h _, fun a => answered_not_awaiting h _⟩,
    fun x h => ?_, fun n a h => ?_, fun a h hc => ?_, fun n a h hc => ?_⟩
  · intro c counted discards
    have counts : (s.dev.exchangeEnded x).discard x = counted := by cases x <;> rfl
    refine ⟨fun a ha => ?_, fun a ha => ?_, fun a ha => ?_⟩
    · refine (execScanRecord_discards h fun n hx ⟨hc, ht⟩ => ?_).trans (by rw [counts])
      obtain ⟨low, high, learned⟩ := (Monitor.takes_iff _ _).mp ht
      rcases ha n hx with hb | hb | hb | ⟨hp, hb⟩
      · exact hb hc
      · omega
      · omega
      · exact hb (learned hp)
    · exact (execBusRecord_discards h ha).trans (by rw [counts])
    · exact (execIdentityRecord_discards h ha).trans (by rw [counts])
  · intro m r c hc low high learned
    refine ⟨_, execScanRecord_accepts h hc ((Monitor.takes_iff _ _).mpr ⟨low, high, learned⟩), rfl, fun hs => ?_, fun hs hp => ?_, fun hp => ?_⟩
    · exact Device.acceptScan_opens (d := s.dev.exchangeEnded (.scanPoll n)) r hs
    · exact Device.acceptScan_waits (d := s.dev.exchangeEnded (.scanPoll n)) r hs hp
    · exact ⟨_, m.gap_iff r, Device.acceptScan_present (d := s.dev.exchangeEnded (.scanPoll n)) r hp⟩
  · exact (execBusRecord_accepts h hc).trans (by simp [Device.acceptBus, Device.post, Device.exchangeEnded, ended])
  · refine ⟨_, execIdentityRecord_accepts h hc, rfl, fun hs => ?_, fun hs hf => ?_, fun hs hf => ?_⟩
    · exact Device.acceptIdentity_idle (d := s.dev.exchangeEnded (.identityRequest n)) a.fields hs
    · exact Device.acceptIdentity_mismatch (d := s.dev.exchangeEnded (.identityRequest n)) hs
        (fun e => hf ((s.dev.expects_iff n a.fields).mp e))
    · exact Device.acceptIdentity_present (d := s.dev.exchangeEnded (.identityRequest n)) hs ((s.dev.expects_iff n a.fields).mpr hf) rfl

end

end

section
/-! SUPPORT. The link cycle (R1, R2, R8). -/

namespace Sys2Proof

theorem StringId.ofNum_num (n : StringId) : StringId.ofNum n.num = some n := by cases n <;> rfl

theorem StringId.ofNum_of_le {k : Nat} (h : 4 ≤ k) : StringId.ofNum k = none := by
  obtain ⟨j, rfl⟩ := Nat.exists_eq_add_of_le' h
  rfl

end Sys2Proof

namespace Sys2Proof.Machine

/-! ## The link cycle (R1, R2, R8) -/

/-- The part after a slot that began with SLC as c and the part as d, and in which these requests of its own went out. -/
def Device.slotSent (d : Device) (c : Slc) (own : List LinkRequest) : Device :=
  { d with slc := { c with
    slot := (d.slc.slot + 1) % 5
    slotIn := 20
    sent := (LinkRequest.busPoll :: own).map SentRequest.of
    awaiting := (LinkRequest.busPoll :: own).map exchangeOf } }

/-- R2: a slot of a string sends its scan poll with the bleed set. -/
theorem execLinkSlot_scan {s : State} {n : StringId} (h : n.num = s.dev.slc.slot) :
    execLinkSlot s = .next ⟨s.pending, s.dev.slotSent s.dev.slc [.scanPoll n (s.dev.bleedOf n)]⟩ := by
  have hn : StringId.ofNum s.dev.slc.slot = some n := h ▸ n.ofNum_num
  simp only [execLinkSlot, State.next, State.on, hn, Device.slotSent]

/-- R8: slot 4 with no string on the identity list. -/
theorem execLinkSlot_none {s : State} (h : 4 ≤ s.dev.slc.slot) (hl : s.dev.slc.identityList = []) :
    execLinkSlot s = .next ⟨s.pending, s.dev.slotSent s.dev.slc []⟩ := by
  simp only [execLinkSlot, State.next, State.on, StringId.ofNum_of_le h, Device.identitySlot, hl, Device.slotSent]

/-- R8: slot 4 asks the oldest string of the list for its identity. -/
theorem execLinkSlot_identity {s : State} (h : 4 ≤ s.dev.slc.slot) {n : StringId} {rest : List StringId}
    (hl : s.dev.slc.identityList = n :: rest) :
    execLinkSlot s = .next ⟨s.pending, s.dev.slotSent
      { s.dev.slc with
        identityList := rest
        monitors := s.dev.slc.monitors.set n { s.dev.monitor n with
          attempts := (s.dev.monitor n).attempts + 1, identityTimer := some 200 } }
      [.identityRequest n]⟩ := by
  simp only [execLinkSlot, State.next, State.on, StringId.ofNum_of_le h, Device.identitySlot, hl, Device.slotSent,
    Device.modMonitor, Device.monitor]

end Sys2Proof.Machine

section
open Sys2Proof Sys2Proof.Machine

/-- Settles O40: a slot of a string, and slot 4 without and with a string to ask. -/
theorem linkSlotPollsInTurn : Obligations.LinkSlotPollsInTurn :=
  fun _ => ⟨fun _ h => execLinkSlot_scan h, execLinkSlot_none, fun h _ _ hl => execLinkSlot_identity h hl⟩

end

end

section
/-! SUPPORT. The rewrite of a string's expectation (R12, R35, R165). -/

namespace Sys2Proof.Machine

/-! ## The rewrite of an expectation (R12, R35, R165) -/

theorem Device.setItem_wrote (d : Device) (t : StoredTable) (i : Nat) (v : Int) : d.setItem t i v = d.wrote t i v := by
  cases t <;> try rfl
  cases i <;> rfl

/-- The rows that stop a WRITE read nothing that a transfer's own reply changes. -/
theorem Stopped.clockOut {d : Device} {p : Port} {t : StoredTable} {r : Result} (h : Stopped d p t r) :
    Stopped (d.clockOut p) p t r := by
  cases h with
  | denied h => exact .denied h
  | noStanding h ht => exact .noStanding h ht
  | locked h ht hl => exact .locked h ht hl
  | busy h ht hl he => exact .busy h ht hl he

/-- The index of an expectation is one of table 2 that can be written, belongs to its string, and feeds ENV for the chemistry. -/
theorem expectationIndex_facts (n : StringId) (e : Expectation) :
    expectationIndex n e < 40 ∧ (ItemRef.mk 2 (expectationIndex n e)).writable = true ∧
      expectationOf .t2 (expectationIndex n e) = some n ∧
      feedsEnvelope .t2 (expectationIndex n e) = (match e with | .moduleCount => false | .chemistry => true) := by
  cases n <;> cases e <;> decide

/-- R165: a value outside the item's range, or one that would break an order, is refused. -/
theorem writeStored_t2_refused {d : Device} {i : Nat} {v : Int} (h : ¬Admits d .t2 i v) :
    d.writeStored .t2 i v = (d, .no .range) := by
  have bad : (!(rangeOf .t2 i).has v || !d.ordered .t2 i v) = true := by
    simpa [Admits, Device.ordered, Bool.and_eq_true, -not_and, Classical.not_and_iff_not_or_not] using h
  simp only [Device.writeStored, saturates, bad, reduceCtorEq, false_and, ↓reduceIte, beq_iff_eq,
    Bool.and_eq_true]

/-- R165: any other value is stored. -/
theorem writeStored_t2_taken {d : Device} {i : Nat} {v : Int} (h : Admits d .t2 i v) :
    d.writeStored .t2 i v = (d.storeItem .t2 i v, .ok v) := by
  obtain ⟨hr, ho⟩ := h
  have hord : d.ordered .t2 i v = true := ho
  simp [Device.writeStored, saturates, hr, hord]

/-- R12, R41: what ENV hears of a rewrite. -/
def heardOf : Expectation → List Instr
  | .moduleCount => []
  | .chemistry => [.envelopeRecomputation .settings]

/-- R12: SLC acts on the part with the expectation stored, and ENV hears of the chemistry. -/
theorem storeItem_expectation (d : Device) (n : StringId) (e : Expectation) (v : Int) :
    let slc := (d.wrote .t2 (expectationIndex n e) v).expectationRewritten n
    d.storeItem .t2 (expectationIndex n e) v = { slc with handoffs := slc.handoffs ++ heardOf e } := by
  obtain ⟨-, -, hs, hf⟩ := expectationIndex_facts n e
  cases e <;> simp [Device.storeItem, hs, hf, feedsOrder, Device.when, Device.setItem_wrote, Device.postIf, Device.post, heardOf]

/-- R12: the monitor's identity meets the expectation of table 2 as part d has it. -/
def Device.identityFits (d : Device) (n : StringId) : Prop :=
  ∃ id, (d.monitor n).identity = some id ∧ (id.modules : Int) = d.item .t2 (32 + 2 * n.num) ∧
    (id.chemistry : Int) = d.item .t2 (33 + 2 * n.num)

theorem Device.identityFits_iff (d : Device) (n : StringId) :
    (d.monitor n).identity.any (d.expects n) = true ↔ d.identityFits n := by
  simp only [Option.any_eq_true, Device.identityFits, Device.expects_iff]

/-- R12: ABSENT and INTERROGATING, or PRESENT with an identity that still fits. -/
theorem Device.expectationRewritten_kept {d : Device} {n : StringId}
    (h : (d.monitor n).state = .absent ∨ (d.monitor n).state = .interrogating ∨
      (d.monitor n).state = .present ∧ d.identityFits n) : d.expectationRewritten n = d := by
  rcases h with h | h | ⟨h, hf⟩
  · simp [Device.expectationRewritten, h]
  · simp [Device.expectationRewritten, h]
  · simp [Device.expectationRewritten, h, d.identityFits_iff n |>.mpr hf]

/-- R12: PRESENT with an identity that no longer fits. -/
theorem Device.expectationRewritten_lost {d : Device} {n : StringId} (h : (d.monitor n).state = .present)
    (hf : ¬d.identityFits n) : d.expectationRewritten n = d.unrecognize n .mismatch := by
  simp [Device.expectationRewritten, h, mt (d.identityFits_iff n).mp hf]

/-- R12: UNRECOGNIZED waits for the next record. -/
theorem Device.expectationRewritten_marked {d : Device} {n : StringId} (h : (d.monitor n).state = .unrecognized) :
    d.expectationRewritten n = d.modMonitor n fun m => { m with reinterrogate := true } := by
  simp [Device.expectationRewritten, h]

/-- The request of a rewrite that the part acts on. -/
theorem Takes.expectationRewrite {s : State} {p : Port} {n : StringId} {e : Expectation} {f : ValueFrame}
    (h : Takes s (.expectationRewrite p n e f)) : (s.dev.link p).running = true ∧
      (f.frame kindWrite 2 (BitVec.ofNat 8 (expectationIndex n e))).check =
        crc8 (f.frame kindWrite 2 (BitVec.ofNat 8 (expectationIndex n e))).body := by
  obtain ⟨r, hr, hrun, hchk⟩ := h
  cases e <;> cases hr <;> exact ⟨hrun, hchk⟩

/-- What SLC and ENV make of the part with the expectation stored, by the monitor's state. -/
theorem storeItem_expectation_kept {d : Device} {n : StringId} {e : Expectation} {v : Int}
    (h : (d.monitor n).state = .absent ∨ (d.monitor n).state = .interrogating ∨
      (d.monitor n).state = .present ∧ (d.wrote .t2 (expectationIndex n e) v).identityFits n) :
    d.storeItem .t2 (expectationIndex n e) v =
      { d.wrote .t2 (expectationIndex n e) v with handoffs := d.handoffs ++ heardOf e } := by
  rw [storeItem_expectation, Device.expectationRewritten_kept h]
  rfl

theorem storeItem_expectation_marked {d : Device} {n : StringId} {e : Expectation} {v : Int}
    (h : (d.monitor n).state = .unrecognized) :
    d.storeItem .t2 (expectationIndex n e) v = { d.wrote .t2 (expectationIndex n e) v with
      slc := { d.slc with monitors := d.slc.monitors.set n { d.monitor n with reinterrogate := true } }
      handoffs := d.handoffs ++ heardOf e } := by
  rw [storeItem_expectation, Device.expectationRewritten_marked (d := d.wrote .t2 (expectationIndex n e) v) h]
  rfl

theorem storeItem_expectation_lost {d : Device} {n : StringId} {e : Expectation} {v : Int}
    (h : (d.monitor n).state = .present) (hf : ¬(d.wrote .t2 (expectationIndex n e) v).identityFits n) :
    d.storeItem .t2 (expectationIndex n e) v = { d.wrote .t2 (expectationIndex n e) v with
      slc := { d.slc with
        monitors := d.slc.monitors.set n { d.monitor n with
          state := .unrecognized, reason := .mismatch, identityTimer := none, stale := false, staleIn := none }
        identityList := d.slc.identityList.filter (· != n) }
      handoffs := d.handoffs ++
        (.eventOccurrence ⟨.stringUnrecognized, .string n, some 2, false⟩ :: .monitorStateReport n :: heardOf e) } := by
  have lost := (d.wrote .t2 (expectationIndex n e) v).unrecognize_unrecognized n .mismatch
  unfold Unrecognized at lost
  rw [storeItem_expectation, Device.expectationRewritten_lost (d := d.wrote .t2 (expectationIndex n e) v) h hf, lost, List.append_assoc]
  rfl

/-- R165: the reply to a rewrite that every row lets pass, over the part d that its store leaves. -/
theorem expectationRewrite_replies {s : State} {p : Port} {n : StringId} {e : Expectation} {f : ValueFrame}
    (h : Takes s (.expectationRewrite p n e f)) (hp : Passes s.dev p .t2)
    (ha : Admits s.dev .t2 (expectationIndex n e) f.value.toInt) {d : Device} (hd : d.pif = s.dev.pif)
    (he : (s.dev.clockOut p).storeItem .t2 (expectationIndex n e) f.value.toInt =
      { d with pif := { d.pif with ports := (s.dev.clockOut p).pif.ports } }) :
    Replies s (s.on (·.request p (f.frame kindWrite 2 (BitVec.ofNat 8 (expectationIndex n e)))
      (portWrite p 2 (expectationIndex n e) f.value))) p 2 .ok (some f.value) d := by
  obtain ⟨hrun, hchk⟩ := h.expectationRewrite
  obtain ⟨hi, hw, -, -⟩ := expectationIndex_facts n e
  have gate := portWrite_gate (s.dev.clockOut p) p (expectationIndex n e) f.value .t2
    (Nat.lt_of_lt_of_le hi (by decide)) hw fun _ => hi
  have ha' : Admits (s.dev.clockOut p) .t2 (expectationIndex n e) f.value.toInt := ha
  have hv : Answer.ok f.value.toInt = ⟨.ok, some f.value⟩ := by simp [Answer.ok, word]
  refine request_replies hrun hchk d ⟨.ok, some f.value⟩ (by rw [hd]) ?_
  exact (gate.2 hp).trans ((writeStored_t2_taken ha').trans (by rw [hv, he]))

end Sys2Proof.Machine

section
open Sys2Proof Sys2Proof.Machine

/-- Settles O24: the rows of R165 stop the write or pass it, and then the monitor's state says what SLC does. -/
theorem expectationRewriteActsOnTheMonitor : Obligations.ExpectationRewriteActsOnTheMonitor := by
  intro p n e f s h
  obtain ⟨hrun, hchk⟩ := h.expectationRewrite
  obtain ⟨hi, hw, -, -⟩ := expectationIndex_facts n e
  have gate := portWrite_gate (s.dev.clockOut p) p (expectationIndex n e) f.value .t2
    (Nat.lt_of_lt_of_le hi (by decide)) hw fun _ => hi
  refine ⟨_, rfl, fun r hr => request_refuses hrun hchk r (gate.1 r hr.clockOut),
    fun hp hna => request_refuses hrun hchk .range ((gate.2 hp).trans (writeStored_t2_refused hna)),
    fun hp ha => ⟨fun hs => ?_, fun hs => ?_, fun hs hf => ?_⟩⟩
  · exact expectationRewrite_replies h hp ha rfl (storeItem_expectation_kept (d := s.dev.clockOut p) hs)
  · exact expectationRewrite_replies h hp ha rfl (storeItem_expectation_marked (d := s.dev.clockOut p) hs)
  · exact expectationRewrite_replies h hp ha rfl (storeItem_expectation_lost (d := s.dev.clockOut p) hs hf)

end

end

section
/-! SUPPORT. Records and hand-offs at SWC (R15, R82, R83, R88, R94, R95). -/

namespace Sys2Proof

theorem StringId.switch_ne_g (n : StringId) : n.switch ≠ .g := by cases n <;> decide

theorem StringId.switch_string (n : StringId) : n.switch.string = some n := by cases n <;> rfl

theorem StringId.switch_inj {n m : StringId} : n.switch = m.switch ↔ n = m := by cases n <;> cases m <;> decide

theorem PerSwitch.set_get {α : Type} (x : PerSwitch α) (n : SwitchId) : x.set n (x.get n) = x := by cases n <;> rfl

end Sys2Proof

namespace Sys2Proof.Machine

/-! ## Records and hand-offs at SWC (R15, R82, R83, R88, R94, R95) -/

/-- The part with a delivered record held at SWC. -/
def Device.sampled (d : Device) (n : StringId) (i v : Int) : Device :=
  { d.took (.swcScanRecord n i v) with swc := { d.swc with samples := d.swc.samples.set n (some ⟨i, v⟩) } }

theorem execSwcScanRecord_eq (n : StringId) (i v : Int) (s : State) :
    execSwcScanRecord n i v s = .next ⟨s.pending, ((s.dev.sampled n i v).when
      ((s.dev.sw n.switch).openDelay.isSome && decide (i.natAbs ≤ 20)) (·.forceOpen n.switch)).swcEnd⟩ := rfl

theorem execSwcScanRecord_quiet {s : State} {n : StringId} {i : Int} (v : Int)
    (h : ¬((s.dev.sw n.switch).openDelay ≠ none ∧ i.natAbs ≤ 20)) :
    execSwcScanRecord n i v s = .next ⟨s.pending, (s.dev.sampled n i v).swcEnd⟩ := by
  have no : ((s.dev.sw n.switch).openDelay.isSome && decide (i.natAbs ≤ 20)) = false := by
    simpa [Bool.eq_false_iff, Option.isSome_iff_ne_none] using h
  rw [execSwcScanRecord_eq, no]
  rfl

/-- R94: a current of at most 20 ends an open-pending wait. -/
theorem execSwcScanRecord_opens {s : State} {n : StringId} {i : Int} (v : Int)
    (h : (s.dev.sw n.switch).openDelay ≠ none ∧ i.natAbs ≤ 20) :
    execSwcScanRecord n i v s = .next ⟨s.pending, ((s.dev.sampled n i v).forceOpen n.switch).swcEnd⟩ := by
  have yes : ((s.dev.sw n.switch).openDelay.isSome && decide (i.natAbs ≤ 20)) = true := by
    simpa [Option.isSome_iff_ne_none] using h
  rw [execSwcScanRecord_eq, yes]
  rfl

/-- A switch marked as interrupted where a condition holds. -/
theorem Device.when_interrupted (d : Device) (n : SwitchId) (b : Bool) :
    d.when b (·.modSw n fun r => { r with interrupted := true }) =
      d.modSw n fun r => { r with interrupted := r.interrupted || b } := by
  cases b
  · simp only [Device.when, Bool.or_false, Bool.false_eq_true, ↓reduceIte]
    exact (congrArg (fun x => { d with swc := { d.swc with switches := x } }) (d.swc.switches.set_get n)).symm
  · simp only [Device.when, Bool.or_true, ↓reduceIte]

/-- R95: a loss interrupts a string in PRECHARGING or CLOSING. -/
theorem execSwcMonitorLoss_eq (n : StringId) (s : State) :
    let r := s.dev.sw n.switch
    execSwcMonitorLoss n s = .next ⟨s.pending, Device.swcEnd { s.dev.took (.swcMonitorLoss n) with
      swc := { s.dev.swc with
        samples := s.dev.swc.samples.set n none
        switches := s.dev.swc.switches.set n.switch
          { r with interrupted := r.interrupted || (r.state == .precharging || r.state == .closing) } } }⟩ := by
  simp only [execSwcMonitorLoss, Device.when_interrupted]
  rfl

/-! R88: a bus record judges the strings in PRECHARGING one by one. -/

/-- The string waits in PRECHARGING, and the bus voltage lies within MATCH_WINDOW of its own. -/
def Device.matchFound (d : Device) (n : StringId) : Prop :=
  (d.sw n.switch).state = .precharging ∧ ((d.swc.busVoltage - d.stringVoltage n).natAbs : Int) ≤ d.item .t11 19

/-- The record of a string whose match is found. -/
def SwitchRec.joining (r : SwitchRec) : SwitchRec :=
  { r with state := .closing, selection := none, openDelay := none, timer := some 200 }

/-- What judging the strings xs of part d leaves. -/
structure MatchesJudged (d m : Device) (xs : List StringId) : Prop where
  only : Only [.handoffs, .swc] d m
  keeps : m.swc = { d.swc with switches := m.swc.switches }
  grid : m.sw .g = d.sw .g
  told : ∀ i ∈ d.handoffs, i ∈ m.handoffs
  others : ∀ n, n ∉ xs ∨ ¬d.matchFound n → m.sw n.switch = d.sw n.switch
  joined : ∀ n ∈ xs, d.matchFound n → .envelopeRecomputation (.stringSwitch n .closing false) ∈ m.handoffs ∧
    m.sw n.switch = (d.sw n.switch).joining

theorem MatchesJudged.none (d : Device) : MatchesJudged d d [] :=
  ⟨.refl _ d, rfl, rfl, fun _ h => h, fun _ _ => rfl, fun _ h => nomatch h⟩

/-- R88: one string judged. -/
theorem Device.judgeMatch_judged (d : Device) (n : StringId) : MatchesJudged d (d.judgeMatch n) [n] := by
  by_cases h : d.matchFound n
  · have e : d.judgeMatch n = d.changeState n.switch .closing (some 200) := by
      simp only [Device.judgeMatch, Device.when, h.1, beq_self_eq_true, Bool.true_and, decide_eq_true h.2, ↓reduceIte]
    obtain ⟨hm, hd⟩ := d.changeState_set n.switch .closing (some 200)
    rw [if_neg n.switch_ne_g] at hm hd
    rw [hd, ← e] at hm
    have sw : ∀ k, (d.judgeMatch n).sw k = if k = n.switch then (d.sw n.switch).joining else d.sw k := by
      intro k
      rw [hm]
      exact PerSwitch.get_set _ _ _ _
    refine ⟨?_, ?_, ?_, fun i hi => ?_, fun k hk => ?_, fun k hk _ => ?_⟩
    · rw [hm]
      intro b hb
      cases b <;> simp at hb <;> rfl
    · rw [hm]; rfl
    · rw [sw, if_neg n.switch_ne_g.symm]
    · rw [hm]; exact List.mem_append_left _ hi
    · have : k ≠ n := by rintro rfl; simp [h] at hk
      rw [sw, if_neg (mt StringId.switch_inj.mp this)]
    · rw [List.mem_singleton.mp hk, sw, if_pos rfl, hm]
      exact ⟨List.mem_append_right _ (by simp [reportsOf, n.switch_string]), rfl⟩
  · have e : d.judgeMatch n = d := by
      have no : ((d.sw n.switch).state == .precharging &&
          decide (((d.swc.busVoltage - d.stringVoltage n).natAbs : Int) ≤ d.item .t11 19)) = false := by
        rw [Bool.eq_false_iff]
        simpa [Device.matchFound] using h
      simp only [Device.judgeMatch, Device.when, no, Bool.false_eq_true, ↓reduceIte]
    rw [e]
    exact ⟨.refl _ d, rfl, rfl, fun _ h => h, fun _ _ => rfl, fun k hk hf => absurd (List.mem_singleton.mp hk ▸ hf) h⟩

/-- Judging string n changes no other string's match. -/
theorem MatchesJudged.matchFound_iff {d m : Device} {xs : List StringId} (h : MatchesJudged d m xs) {n : StringId}
    (hn : n ∉ xs) : m.matchFound n ↔ d.matchFound n := by
  have voltage : m.stringVoltage n = d.stringVoltage n := by unfold Device.stringVoltage; rw [h.keeps]
  have item : m.item .t11 19 = d.item .t11 19 := by
    unfold Device.item
    rw [show m.settings = d.settings from h.only .settings (by decide)]
  unfold Device.matchFound
  rw [h.others n (.inl hn), voltage, item, h.keeps]

/-- R88: the strings judged in turn are each judged as the record found them. -/
theorem Device.each_judgeMatch {xs : List StringId} (hx : xs.Nodup) (d : Device) :
    MatchesJudged d (d.each xs Device.judgeMatch) xs := by
  induction xs generalizing d with
  | nil => exact .none d
  | cons x xs ih =>
    obtain ⟨hnx, hxs⟩ := List.nodup_cons.mp hx
    have one := d.judgeMatch_judged x
    have rest := ih hxs (d.judgeMatch x)
    have iff : ∀ n, n ≠ x → ((d.judgeMatch x).matchFound n ↔ d.matchFound n) := fun n hn =>
      one.matchFound_iff (by simpa using hn)
    refine ⟨one.only.trans rest.only, ?_, rest.grid.trans one.grid, fun i hi => rest.told i (one.told i hi),
      fun n hn => ?_, fun n hn hf => ?_⟩
    · exact rest.keeps.trans (by rw [one.keeps]; rfl)
    · by_cases hnx' : n = x
      · subst hnx'
        have hf : ¬d.matchFound n := hn.resolve_left (by simp)
        exact (rest.others n (.inl hnx)).trans (one.others n (.inr hf))
      · refine (rest.others n ?_).trans (one.others n (.inl (by simpa using hnx')))
        rw [iff n hnx']
        exact hn.imp_left fun h hm => h (List.mem_cons_of_mem _ hm)
    · by_cases hnx' : n = x
      · subst hnx'
        obtain ⟨told, sw⟩ := one.joined n (by simp) hf
        exact ⟨rest.told _ told, (rest.others n (.inl hnx)).trans sw⟩
      · obtain ⟨told, sw⟩ := rest.joined n (List.mem_of_ne_of_mem hnx' hn) ((iff n hnx').mpr hf)
        exact ⟨told, sw.trans (by rw [one.others n (.inl (by simpa using hnx'))])⟩

theorem execSwcBusRecord_eq (dc : Int) (s : State) :
    execSwcBusRecord dc s = .next ⟨s.pending, (Device.each StringId.all Device.judgeMatch { s.dev.took (.swcBusRecord dc) with
      swc := { s.dev.swc with busVoltage := dc, busStale := false } }).swcEnd⟩ := rfl

end Sys2Proof.Machine

section
open Sys2Proof Sys2Proof.Machine

/-- Settles O50: each record and hand-off on its own; for a bus record, the strings are judged in turn. -/
theorem recordsReachTheSwitches : Obligations.RecordsReachTheSwitches := by
  intro s d
  refine ⟨fun n i v => ?_, fun dc => ?_, fun n => execSwcMonitorLoss_eq n s, rfl, fun w => rfl⟩
  · by_cases h : (d.sw n.switch).openDelay ≠ none ∧ i.natAbs ≤ 20
    · exact ⟨_, execSwcScanRecord_opens v h, fun hn => absurd h hn, fun _ => Device.forceOpen_forced _ n.switch⟩
    · exact ⟨_, execSwcScanRecord_quiet v h, fun _ => rfl, fun ho => absurd ho h⟩
  · have h := Device.each_judgeMatch (xs := StringId.all) (by decide) { d.took (.swcBusRecord dc) with
      swc := { d.swc with busVoltage := dc, busStale := false } }
    refine ⟨_, execSwcBusRecord_eq dc s, ?_, h.keeps, h.grid, fun n => ⟨fun hj => h.others n (.inr hj), fun hj => ?_⟩⟩
    · refine Only.trans ?_ h.only
      intro b hb
      cases b <;> simp at hb <;> rfl
    · exact h.joined n (by cases n <;> decide) hj

end

end

section
/-! SUPPORT. The laws at the reset state. -/

namespace Sys2Proof.Machine

/-! At reset no incident, no selection, no run and no forfeit stands, every switch is OPEN, and each table holds its factory values. -/

theorem reset_queueLaw : QueueLaw Device.reset := ⟨by decide, by decide, fun _ h => nomatch h⟩

theorem reset_counterLaw : CounterLaw Device.reset := by
  intro s k
  cases s <;> cases k <;> decide

theorem reset_dispatchLaw : DispatchLaw Device.reset := by unfold DispatchLaw; decide

/-- R35, R58, R76, R105, R123, R141, R154, R167: the factory values lie in their ranges and orders. -/
theorem factory_sound (t : StoredTable) : Sound t (factory t) := by
  cases t <;> exact ⟨rfl, by decide, by decide⟩

theorem reset_settingsLaw : SettingsLaw Device.reset := by
  have copies : ∀ t, Device.reset.sto.copies.get t = ⟨factory t, true⟩ := PerTable.get_ofFn _
  have tables : ∀ t, Device.reset.settings.get t = factory t := PerTable.get_ofFn _
  exact ⟨fun t => ⟨tables t ▸ factory_sound t, fun _ => by rw [copies]; exact factory_sound t⟩, factory_sound .t8⟩

theorem reset_storeLaw : StoreLaw Device.reset := by
  refine ⟨fun t => ?_, by decide, fun x h => ?_, fun h => ?_⟩
  · cases t <;> decide
  · cases h
  · cases h

theorem reset_envelopeLaw : EnvelopeLaw Device.reset := by
  refine ⟨by decide, by decide, by decide, by decide, fun k => ?_, fun k => ?_, fun k => ?_, by decide, by decide, by decide, by decide⟩ <;>
    cases k <;> decide

theorem reset_no_selection (n : SwitchId) : (Device.reset.sw n).selection = none := by cases n <;> rfl

theorem reset_selectionLaw : SelectionLaw Device.reset := by
  constructor
  · intro n x h
    simp [reset_no_selection] at h
  · intro n m x y h
    simp [reset_no_selection] at h

theorem reset_resting (n : SwitchId) : Resting Device.reset n := .inl (by cases n <;> rfl)

theorem reset_inhibitLaw : InhibitLaw Device.reset := by
  refine ⟨fun n => ?_, fun s => ?_, by decide, iff_of_true rfl fun s => ?_, by decide⟩
  · cases n <;> decide
  · cases s <;> decide
  · cases s <;> decide

theorem reset_interlockLaw : InterlockLaw Device.reset := ⟨fun s _ => .inl (reset_resting s.switch), fun _ n => .inl (reset_resting n)⟩

theorem reset_isolationLaw : IsolationLaw Device.reset := by
  refine ⟨by decide, fun h => absurd rfl h, fun h => ?_, fun _ => reset_resting, fun h => ?_⟩
  · cases h
  · cases h

theorem reset_coolingLaw : CoolingLaw Device.reset := by
  refine ⟨fun c h => ?_, by decide, by decide⟩
  cases c <;> cases h

theorem reset_bleedLaw : BleedLaw Device.reset := ⟨fun _ _ => rfl, fun _ => rfl⟩

theorem reset_forfeitLaw : ForfeitLaw Device.reset := fun p => by cases p <;> decide

end Sys2Proof.Machine

section
open Sys2Proof Sys2Proof.Machine

/-- Settles O3: law by law. -/
theorem resetObeysTheLaws : Obligations.ResetObeysTheLaws :=
  ⟨reset_queueLaw, reset_counterLaw, reset_dispatchLaw, reset_settingsLaw, reset_storeLaw, reset_envelopeLaw, reset_selectionLaw,
    reset_inhibitLaw, reset_interlockLaw, reset_isolationLaw, reset_coolingLaw, reset_bleedLaw, reset_forfeitLaw⟩

end

end

section
/-! SUPPORT. What both resets start: the envelope formed, SWC with no switch closed (R40, R56, R82, R99, R107). -/

namespace Sys2Proof.Machine

/-! ## The envelope formed (R40, R56) -/

/-- R40: the least of values and a bound: it lies below each, and is one of them or the bound. -/
theorem foldl_min_least {α : Type} (f : α → Int) (ks : List α) (b : Int) :
    let m := ks.foldl (fun m k => min m (f k)) b
    m ≤ b ∧ (∀ k ∈ ks, m ≤ f k) ∧ (m = b ∨ ∃ k ∈ ks, f k = m) := by
  induction ks generalizing b with
  | nil => exact ⟨le_refl b, by simp, .inl rfl⟩
  | cons x xs ih =>
    obtain ⟨below, each, attained⟩ := ih (min b (f x))
    refine ⟨below.trans (min_le_left _ _), fun k hk => ?_, ?_⟩
    · rcases List.mem_cons.mp hk with rfl | hk
      · exact below.trans (min_le_right _ _)
      · exact each k hk
    · rcases attained with h | ⟨k, hk, h⟩
      · rcases min_choice b (f x) with e | e
        · exact .inl (h.trans e)
        · exact .inr ⟨x, List.mem_cons_self, (h.trans e).symm⟩
      · exact .inr ⟨k, List.mem_cons_of_mem _ hk, h⟩

theorem Term.mem_all (k : Term) : k ∈ Term.all := by cases k <;> decide

/-- R40: the envelope value. -/
theorem leastTerm_least (ts : PerTerm TermValue) (f : TermValue → Int) :
    leastTerm ts f ≤ 9999 ∧ (∀ k, (ts.get k).active = true → leastTerm ts f ≤ f (ts.get k)) ∧
      (leastTerm ts f = 9999 ∨ ∃ k, (ts.get k).active = true ∧ f (ts.get k) = leastTerm ts f) := by
  obtain ⟨below, each, attained⟩ := foldl_min_least (fun k => f (ts.get k)) (Term.all.filter fun k => (ts.get k).active) 9999
  refine ⟨below, fun k hk => each k (List.mem_filter.mpr ⟨Term.mem_all k, hk⟩), attained.imp_right ?_⟩
  rintro ⟨k, hk, h⟩
  exact ⟨k, (List.mem_filter.mp hk).2, h⟩

/-- R56: the binding set. -/
theorem mem_bindingSet (ts : PerTerm TermValue) (f : TermValue → Int) (k : Term) :
    k ∈ bindingSet ts f ↔ (ts.get k).active = true ∧ f (ts.get k) = leastTerm ts f := by
  simp [bindingSet, Term.mem_all]

theorem Device.fireTerm_eq (d : Device) : d.fireTerm =
    if d.env.fireStage = .normal ∧ d.env.fireTest = false then ⟨9999, 9999, false⟩
    else if d.env.fireStage = .normal ∨ d.env.fireStage = .fault then ⟨d.item .t9 3, d.item .t9 3, true⟩ else ⟨0, 0, true⟩ := by
  unfold Device.fireTerm
  cases d.env.fireStage <;> cases d.env.fireTest <;> rfl

theorem Device.gridTerm_eq (d : Device) : d.gridTerm =
    if d.env.breaker = .closed ∧ d.env.window = .inWindow then ⟨9999, 9999, true⟩
    else if d.env.breaker = .closed ∧ d.env.window = .rideThrough then ⟨d.item .t10 16, d.item .t10 16, true⟩
    else ⟨0, 0, true⟩ := by
  unfold Device.gridTerm
  cases d.env.breaker <;> cases d.env.window <;> rfl

theorem Device.rackTerm_eq (d : Device) (b : TermValue) : d.rackTerm b =
    if d.env.cellStanding = .inStanding ∨ d.env.cellStanding = .lapsed then ⟨9999, 9999, false⟩
    else ⟨b.chg * d.item .t11 8 / 1024, b.dis * d.item .t11 8 / 1024, true⟩ := by
  unfold Device.rackTerm
  cases d.env.cellStanding <;> rfl

/-- R40, R46 to R53, R56: what ENV forms from its inputs. -/
theorem Device.envForm_formed (d : Device) : EnvelopeFormed d.envForm :=
  ⟨rfl, d.rackTerm_eq _, rfl, d.fireTerm_eq, d.gridTerm_eq, rfl, rfl, rfl, leastTerm_least _ _, leastTerm_least _ _,
    mem_bindingSet _ _, mem_bindingSet _ _⟩

/-- What ENV has formed rests on its own record and the settings. -/
theorem EnvelopeFormed.congr {d e : Device} (h : EnvelopeFormed d) (env : e.env = d.env) (settings : e.settings = d.settings) :
    EnvelopeFormed e := by
  have item : e.item = d.item := by funext t i; rw [Device.item, settings, Device.item]
  unfold EnvelopeFormed
  rw [env, item]
  exact h

/-! ## SWC at a start (R82, R99, R107) -/

/-- The part with SWC's inputs as the blocks hold them, the isolation sequence in state i. -/
def Device.swcStart (d : Device) (i : IsolationStatus) : Device :=
  d.modSwc fun c =>
    { c with
      samples := .all none
      busVoltage := 0
      busStale := true
      isolation := i
      isolationTimer := none
      health := d.csu.strings.map (·.health)
      fireStage := d.fgu.stationStage
      window := .holdOff }

/-- A switch that is OPEN, OPENING or WELDED is neither closing nor closed. -/
theorem Away.still {d : Device} {n : SwitchId} (h : Away d n) :
    (d.sw n).state ≠ .precharging ∧ (d.sw n).state ≠ .closing ∧ (d.sw n).state ≠ .closed := by
  rcases h with (h | h) | h <;> simp [h]

theorem Away.not_closed {d : Device} {n : SwitchId} (h : Away d n) : (d.sw n).state ≠ .closed := h.still.2.2

/-- What changes nothing member by member changes nothing in turn. -/
theorem Device.each_id {α : Type} {xs : List α} {f : α → Device → Device} {d : Device} (h : ∀ x ∈ xs, f x d = d) :
    d.each xs f = d := by
  induction xs with
  | nil => rfl
  | cons x xs ih =>
    have hx : f x d = d := h x List.mem_cons_self
    have := ih fun y hy => h y (List.mem_cons_of_mem _ hy)
    simpa [Device.each, hx] using this

/-- The part with the isolation sequence in state i. -/
def Device.inIsolation (d : Device) (i : IsolationStatus) : Device := d.modSwc fun c => { c with isolation := i }

/-- R99, step 2: with no switch closing none is forced open. -/
theorem Device.isolationStart_eq {d : Device} (h : ∀ n, Away d n) :
    d.isolationStart = (d.inIsolation .isolating).isolationStep.deriveInhibits := by
  have idle : (d.inIsolation .isolating).each SwitchId.all (fun n e =>
      e.when ((e.sw n).state == .precharging || (e.sw n).state == .closing) (·.forceOpen n)) = d.inIsolation .isolating := by
    refine Device.each_id fun n _ => ?_
    have away : Away (d.inIsolation .isolating) n := h n
    simp [Device.when, away.still]
  have breaker : (d.inIsolation .isolating).breakerClosed = false := beq_eq_false_iff_ne.mpr (h .g).not_closed
  unfold Device.inIsolation at *
  simp only [Device.isolationStart]
  rw [idle, breaker]
  rfl

/-- R99, step 4: with every switch at rest the sequence is at its end. -/
theorem Device.isolationStep_rest {d : Device} (h : ∀ n, Resting d n) :
    (d.inIsolation .isolating).isolationStep = d.inIsolation .isolated := by
  have strings : (d.inIsolation .isolating).each StringId.all (fun s e =>
      e.when ((e.sw s.switch).state == .closed) (·.forceOpen s.switch)) = d.inIsolation .isolating := by
    refine Device.each_id fun s _ => ?_
    have still : ((d.inIsolation .isolating).sw s.switch).state ≠ .closed := Away.not_closed (.inl (h s.switch))
    simp [Device.when, still]
  have rest : ∀ n, (d.inIsolation .isolating).atRest n = true := fun n => (Device.atRest_iff _ n).mpr (h n)
  have all : SwitchId.all.all (d.inIsolation .isolating).atRest = true := List.all_eq_true.mpr fun n _ => rest n
  simp only [Device.isolationStep]
  rw [show ((d.inIsolation .isolating).swc.isolation == .isolating) = true from rfl]
  simp only [Device.when, ↓reduceIte] at strings ⊢
  rw [if_pos (rest .g), strings, if_pos all]
  rfl

/-- R99: with no switch closed or closing, the sequence waits for the switches that are OPENING. -/
theorem Device.isolationStart_away {d : Device} (h : ∀ n, Away d n) : ∃ i : IsolationStatus,
    ((∀ n, Resting d n) → i = .isolated) ∧ ((∃ n, ¬Resting d n) → i = .isolating) ∧
      d.isolationStart = (d.inIsolation i).deriveInhibits := by
  rw [Device.isolationStart_eq h]
  by_cases rest : ∀ n, Resting d n
  · exact ⟨.isolated, fun _ => rfl, fun ⟨n, hn⟩ => absurd (rest n) hn, by rw [Device.isolationStep_rest rest]⟩
  · obtain ⟨n, hn⟩ := not_forall.mp rest
    have idle : (d.inIsolation .isolating).isolationStep = d.inIsolation .isolating :=
      Device.isolationStep_idle fun _ => ⟨⟨n, hn⟩, fun _ s => (h s.switch).not_closed⟩
    exact ⟨.isolating, fun hr => absurd (hr n) hn, fun _ => rfl, by rw [idle]⟩

theorem Device.isolationOn_iff (d : Device) : d.isolationOn = true ↔ d.item .t11 16 = 1 := beq_iff_eq

/-- R107: SWC at a start, with no switch closed or closing. -/
theorem Device.startSwc_away {d : Device} (h : ∀ n, Away d n) : ∃ i : IsolationStatus,
    (d.item .t11 16 ≠ 1 → i = .released) ∧ (d.item .t11 16 = 1 → (∀ n, Resting d n) → i = .isolated) ∧
      (d.item .t11 16 = 1 → (∃ n, ¬Resting d n) → i = .isolating) ∧
      d.startSwc = (d.swcStart i).deriveInhibits := by
  by_cases on : d.item .t11 16 = 1
  · obtain ⟨i, rest, wait, e⟩ := Device.isolationStart_away (d := d.swcStart .released) h
    refine ⟨i, fun hn => absurd on hn, fun _ => rest, fun _ => wait, ?_⟩
    exact (if_pos (d.isolationOn_iff.mpr on)).trans e
  · exact ⟨.released, fun _ => rfl, fun h => absurd h on, fun h => absurd h on, if_neg (mt d.isolationOn_iff.mp on)⟩

/-- R82, R83: inhibits derived afresh stand exactly while their causes do. -/
theorem Device.deriveInhibits_law (d : Device) : InhibitLaw d.deriveInhibits := by
  have noString : (!StringId.all.any fun s => (d.sw s.switch).state == .closed) = true ↔
      ∀ s : StringId, (d.sw s.switch).state ≠ .closed := by
    simp only [Bool.not_eq_true', List.any_eq_false, beq_iff_eq]
    exact ⟨fun h s => h s (by cases s <;> decide), fun h s _ => h s⟩
  have same : ∀ n, (d.deriveInhibits.sw n).state = (d.sw n).state := fun n => by rw [d.deriveInhibits_sw]
  refine ⟨fun n => ?_, fun s => ?_, ?_⟩
  · rw [d.deriveInhibits_sw]
    cases n <;> exact ⟨Iff.rfl, Iff.rfl, d.isolationOn_iff, Iff.rfl⟩
  · rw [d.deriveInhibits_sw]
    cases s <;> exact ⟨bne_iff_ne, rfl, rfl, rfl⟩
  · simp only [same]
    rw [d.deriveInhibits_sw]
    exact ⟨bne_iff_ne, noString, bne_iff_ne, rfl, rfl⟩

/-- The inhibits' law rests on SWC, the isolation request and the converter's standing. -/
theorem InhibitLaw.congr {d e : Device} (h : InhibitLaw d) (swc : e.swc = d.swc) (settings : e.settings = d.settings)
    (sdm : e.sdm = d.sdm) : InhibitLaw e := by
  unfold InhibitLaw Device.sw Device.item Device.standing at *
  rw [swc, settings, sdm]
  exact h

end Sys2Proof.Machine

end

section
/-! SUPPORT. The blocks at a start, one after the other. -/

namespace Sys2Proof.Machine

/-! ## The blocks at a start -/

/-- R38: with its monitor ABSENT a string's health is LOCKED_OUT or ABSENT. -/
theorem healthOf_absent (causes : Causes) (channels : PerChannel ChannelRec) :
    healthOf causes .absent channels = if causes = .none then .absent else .lockedOut := by
  obtain ⟨locked, free⟩ := healthOf_is causes .absent channels
  split
  · next h => exact (free h).1 rfl
  · next h => exact locked h

/-- R79: DU at a start, with the Site and Converter Ports untrusted. -/
theorem Device.startDu_forced {d : Device} (site : ¬Trusted d .site) (converter : ¬Trusted d .converter) :
    d.startDu = { d with du := { Du.reset with siteStanding := d.standing .site, order := d.item .t5 2 } } := by
  have untrusted : ∀ p, ¬Trusted d p → (d.standing p).trusted = false := by
    unfold Trusted
    intro p h
    cases e : d.standing p <;> simp [e] at h <;> rfl
  have ordered : (d.modDu fun _ => { Du.reset with siteStanding := d.standing .site }).duOrder =
      { d with du := { Du.reset with siteStanding := d.standing .site, order := d.item .t5 2 } } := by
    rw [Device.duOrder, Device.modDu_du, untrusted _ site]
    rfl
  have forced : ({ d with du := { Du.reset with siteStanding := d.standing .site, order := d.item .t5 2 } } : Device).forced = true := by
    have : (!(d.standing .converter).trusted) = true := by rw [untrusted _ converter]; rfl
    simp only [Device.forced, Device.causeStanding]
    exact Bool.or_eq_true_iff.mpr (.inl (Bool.or_eq_true_iff.mpr (.inl this)))
  rw [Device.startDu, ordered, Device.duRefresh_eq, forced]
  rfl

/-- R116: a pump that is off, outside a flow fault, stops no stage and leaves the exhaust fan as it is. -/
theorem PumpFollows.of_off {d : Device} {y y' : Clc} {hs : List Instr} (h : PumpFollows d y y' hs) (flow : y.flow = .none)
    (pump : y.pump = false) : hs = [] ∧ y'.exhaust = y.exhaust ∧ y'.exhaustTimer = y.exhaustTimer := by
  obtain ⟨-, h⟩ := h
  obtain ⟨-, confirmed, starting, still, -⟩ := h (by simp [flow])
  by_cases wanted : PumpWanted y
  · cases hf : d.pins.flow with
    | true => obtain ⟨rfl, rfl⟩ := confirmed wanted pump hf; exact ⟨rfl, rfl, rfl⟩
    | false => obtain ⟨rfl, rfl⟩ := starting wanted pump hf; exact ⟨rfl, rfl, rfl⟩
  · obtain ⟨rfl, rfl⟩ := still wanted pump
    exact ⟨rfl, rfl, rfl⟩

/-- R125: CLC at a start over a reset record with these stages. -/
theorem Device.startClc_started {d : Device} {stages : PerStage CoolStage} (h : d.clc = { Clc.reset with stages := stages }) :
    ∃ y, PumpFollows d (d.clcStart stages) y [] ∧ y.exhaust = false ∧ y.exhaustTimer = none ∧
      d.startClc = ({ d with clc := y } : Device).deriveOutputs := by
  obtain ⟨y, hs, follows, e⟩ := Device.formPump_follows { d with clc := d.clcStart stages }
  obtain ⟨rfl, exhaust, timer⟩ := follows.of_off rfl rfl
  refine ⟨y, follows, exhaust, timer, ?_⟩
  have taken : d.startClc = ({ d with clc := d.clcStart stages } : Device).formPump.deriveOutputs := by
    rw [Device.startClc, Device.modClc, h]
    rfl
  rw [taken, e, List.append_nil]

/-- A part whose blocks may start: SLC and CLC at their reset records but for these stages, no channel failing, no switch closed or
closing, no port trusted. -/
structure ReadyToStart (d : Device) (stages : PerStage CoolStage) : Prop where
  slc : d.slc = .reset
  clc : d.clc = { Clc.reset with stages := stages }
  failing : ∀ n k, (d.sup n).failing.get k = false
  away : ∀ n, Away d n
  untrusted : ∀ p, ¬Trusted d p

/-- What the start of the blocks keeps of part d. -/
structure StartKeeps (d e : Device) : Prop where
  handoffs : e.handoffs = d.handoffs
  settings : e.settings = d.settings
  pins : e.pins = d.pins
  fgu : e.fgu = d.fgu
  sdm : e.sdm = d.sdm
  pif : e.pif = d.pif
  evr : e.evr = d.evr
  sto : e.sto = d.sto
  sup : ∀ n, (e.sup n).causes = (d.sup n).causes ∧ (e.sup n).channels = (d.sup n).channels
  sw : ∀ n, e.sw n = { d.sw n with inhibits := (e.sw n).inhibits }
  bal : e.bal.run = d.bal.run ∧ e.bal.commanded = d.bal.commanded ∧ e.bal.history = d.bal.history ∧
    e.bal.mismatch = d.bal.mismatch

/-- The part with CSU and SWC started, the isolation sequence in state i. -/
def Device.supervised (d : Device) (i : IsolationStatus) : Device :=
  { d with csu := d.startCsu.csu, swc := (d.startCsu.swcStart i).deriveInhibits.swc }

/-- The part with BAL and GWM started too. -/
def Device.windowed (d : Device) (i : IsolationStatus) : Device :=
  { d.supervised i with bal := (d.supervised i).startBal.bal, gwm := (d.supervised i).startGwm.gwm }

/-- The part once every block but CLC has started. -/
def Device.startedTo (d : Device) (i : IsolationStatus) : Device :=
  { d.windowed i with
    env := (d.windowed i).startEnv.env
    du := { Du.reset with siteStanding := d.standing .site, order := d.item .t5 2 } }

theorem Device.startBlocks_eq {d : Device} {stages : PerStage CoolStage} (h : ReadyToStart d stages) :
    ∃ i y z, (d.item .t11 16 ≠ 1 → i = .released) ∧ (d.item .t11 16 = 1 → (∀ n, Resting d n) → i = .isolated) ∧
      (d.item .t11 16 = 1 → (∃ n, ¬Resting d n) → i = .isolating) ∧
      PumpFollows (d.startedTo i) ((d.startedTo i).clcStart stages) y [] ∧
      d.startBlocks = { d.startedTo i with clc := y.withOutputs z } ∧
      OutputsFollow { d.startBlocks with clc := (d.startedTo i).clcStart stages } d.startBlocks := by
  obtain ⟨i, off, rest, wait, swc⟩ := Device.startSwc_away (d := d.startCsu) h.away
  have super : d.startCsu.startSwc = d.supervised i := swc
  have window : (d.supervised i).startBal.startGwm = d.windowed i := rfl
  have env : (d.windowed i).startEnv = { d.windowed i with env := (d.windowed i).startEnv.env } := rfl
  have du : (d.windowed i).startEnv.startDu = d.startedTo i := by
    rw [env]
    exact Device.startDu_forced (h.untrusted .site) (h.untrusted .converter)
  obtain ⟨y, follows, exhaust, timer, clc⟩ := Device.startClc_started (d := d.startedTo i) (stages := stages) h.clc
  have e : d.startBlocks = ({ d.startedTo i with clc := y } : Device).deriveOutputs := by
    rw [Device.startBlocks, super, window, du, clc]
  refine ⟨i, y, _, off, rest, wait, follows, e.trans (Device.deriveOutputs_eq _), ?_⟩
  rw [e]
  exact Device.deriveOutputs_follow exhaust timer

theorem Device.startBlocks_keeps {d : Device} {stages : PerStage CoolStage} (h : ReadyToStart d stages) :
    StartKeeps d d.startBlocks := by
  obtain ⟨i, y, z, -, -, -, -, e, -⟩ := Device.startBlocks_eq h
  rw [e]
  refine ⟨rfl, rfl, rfl, rfl, rfl, rfl, rfl, rfl, fun n => ?_, fun n => ?_, rfl, rfl, rfl, rfl⟩
  · cases n <;> exact ⟨rfl, rfl⟩
  · cases n <;> rfl

end Sys2Proof.Machine

end

section
/-! SUPPORT. What the start of the blocks leaves (R18, R38, R62, R79, R107, R125, R153). -/

namespace Sys2Proof.Machine

/-- R82: with no string CLOSED no string has MISMATCH. -/
theorem Device.inhibitsNow_mismatch {d : Device} (h : ∀ n, Away d n) (n : SwitchId) : (d.inhibitsNow n).mismatch = false := by
  have still : ∀ s, d.mismatched s = false := fun s => by
    have : ∀ o : StringId, ((d.sw o.switch).state == .closed) = false := fun o => beq_eq_false_iff_ne.mpr (h o.switch).not_closed
    simp [Device.mismatched, this]
  unfold Device.inhibitsNow
  cases n <;> first | exact still _ | rfl

/-- R42: no string has delivered a record, so none contributes. -/
theorem Device.startEnv_contributions (d : Device) : d.startEnv.env.contributions = .all .zero :=
  PerString.ext_get fun s => by cases s <;> rfl

/-- R62: ENV's record at a start, over the inputs as the blocks hold them. -/
theorem Device.startEnv_env (d : Device) : d.startEnv.env = { d.startEnv.env with
    strings := .ofFn fun n => ⟨none, (d.sup n).health, (d.sw n.switch).state, false⟩
    contributions := .all ⟨false, 0, 0, 0, 0, 0, 0, 0⟩
    cellStanding := d.standing .cell
    thermal := 9999
    fireStage := d.fgu.stationStage
    fireTest := d.fgu.testing
    window := .holdOff
    breaker := (d.sw .g).state
    isolation := decide (d.item .t11 16 = 1)
    ratingChg := 9999, ratingDis := 9999, ratingWritten := false
    generation := 0
    changed := .all true } :=
  congrArg (fun c => { d.startEnv.env with contributions := c }) d.startEnv_contributions

/-- What follows from a pump want rests on the flow switch alone. -/
theorem PumpFollows.congr {d e : Device} {y y' : Clc} {hs : List Instr} (h : PumpFollows d y y' hs) (pins : e.pins = d.pins) :
    PumpFollows e y y' hs := by
  unfold PumpFollows at *
  rw [pins]
  exact h

/-- R18, R38, R62, R79, R107, R125, R153: what the start of the blocks leaves. -/
theorem Device.startBlocks_started {d : Device} {stages : PerStage CoolStage} (h : ReadyToStart d stages) :
    BlocksStarted d.startBlocks stages := by
  have k := Device.startBlocks_keeps h
  obtain ⟨i, y, z, off, rest, wait, follows, e, outputs⟩ := Device.startBlocks_eq h
  have item : d.startBlocks.item = d.item := by funext t j; rw [Device.item, k.settings, Device.item]
  have resting : ∀ n, Resting d.startBlocks n ↔ Resting d n := fun n => by rw [Resting, k.sw n, Resting]
  have absent : ∀ n, (d.monitor n).state = .absent := fun n => by rw [Device.monitor, h.slc]; cases n <;> rfl
  have health : ∀ n, (d.startBlocks.sup n).health = d.healthNow n := by rw [e]; intro n; cases n <;> rfl
  have failing : ∀ n, (d.startBlocks.sup n).failing = (d.sup n).failing := by rw [e]; intro n; cases n <;> rfl
  have swc : d.startBlocks.swc = (d.startCsu.swcStart i).deriveInhibits.swc := by rw [e]; rfl
  have env : d.startBlocks.env = (d.windowed i).startEnv.env := by rw [e]; rfl
  have same : d.startBlocks.clcStart stages = (d.startedTo i).clcStart stages := by rw [e]; rfl
  unfold BlocksStarted
  rw [item]
  refine ⟨?_, fun n => ⟨?_, fun c => ?_⟩, ?_, fun hn => ?_, fun hn hr => ?_, fun hn hr => ?_, ?_, fun n => ?_, ?_, ?_, ?_, ?_, ?_,
    y, ?_, ?_, ?_⟩
  · exact (by rw [e]; exact h.slc)
  · rw [health, Device.healthNow, absent, healthOf_absent, (k.sup n).1]
  · rw [failing]
    exact h.failing n c
  · rw [e]; rfl
  · rw [swc]; exact off hn
  · rw [swc]; exact rest hn fun n => (resting n).mp (hr n)
  · rw [swc]; exact wait hn (hr.imp fun n hn => mt (resting n).mpr hn)
  · exact (d.startCsu.swcStart i).deriveInhibits_law.congr swc k.settings k.sdm
  · have inhibits : (d.startBlocks.sw n.switch).inhibits = (d.startCsu.swcStart i).inhibitsNow n.switch := by
      rw [Device.sw, swc]; cases n <;> rfl
    rw [inhibits]
    exact Device.inhibitsNow_mismatch (d := d.startCsu.swcStart i) h.away _
  · rw [e]; rfl
  · rw [env]
    have started := (d.windowed i).startEnv_env
    rw [started]
    rw [e]
    rfl
  · exact (Device.envForm_formed _).congr env (k.settings.trans rfl)
  · rw [e]; rfl
  · rw [e]; rfl
  · rw [same]
    exact follows.congr (by rw [e])
  · rw [e]; rfl
  · rw [same]; exact outputs

end Sys2Proof.Machine

end

section
/-! SUPPORT. What a power-on reset loads and reports (R39, R107, R178). -/

namespace Sys2Proof.Machine

/-! ## What a power-on reset loads and reports (R39, R107, R178) -/

/-- Steps that each make hand-offs and nothing else make them one after the other. -/
theorem Device.each_told {α : Type} {f : α → Device → Device} {g : α → List Instr} {d : Device}
    (h : ∀ x hs, f x { d with handoffs := hs } = { d with handoffs := hs ++ g x }) (xs : List α) :
    d.each xs f = { d with handoffs := d.handoffs ++ xs.flatMap g } := by
  suffices all : ∀ hs, ({ d with handoffs := hs } : Device).each xs f = { d with handoffs := hs ++ xs.flatMap g } from all d.handoffs
  induction xs with
  | nil => intro hs; simp [Device.each]
  | cons x xs ih =>
    intro hs
    have := ih (hs ++ g x)
    simpa [Device.each, h] using this

theorem filter_map_eq_flatMap {α β : Type} (p : α → Bool) (f : α → β) (xs : List α) :
    (xs.filter p).map f = xs.flatMap fun x => if p x then [f x] else [] := by
  induction xs with
  | nil => rfl
  | cons x xs ih => by_cases h : p x = true <;> simp [h, ih]

/-- R178: STORE_FAILED for each failed copy and for the record. -/
theorem Device.reportLoads_eq (d : Device) : d.reportLoads = { d with handoffs := d.handoffs ++
    ((StoredTable.all.filter d.sto.errors.get).map fun t => .eventOccurrence ⟨.storeFailed, .table t.num, some 2, false⟩) ++
    (if d.sto.recordError then [.eventOccurrence ⟨.storeFailed, .table 15, some 4, false⟩] else []) } := by
  have tables := Device.each_told (d := d) (f := fun t d => d.when (d.sto.errors.get t) (·.raise .storeFailed (.table t.num) (some 2)))
    (g := fun t => if d.sto.errors.get t then [.eventOccurrence ⟨.storeFailed, .table t.num, some 2, false⟩] else [])
    (fun t hs => by cases h : d.sto.errors.get t <;> simp [Device.when, Device.raise, Device.post]) StoredTable.all
  rw [Device.reportLoads, tables, ← filter_map_eq_flatMap]
  cases h : d.sto.recordError <;> simp [Device.when, Device.raise, Device.post]

/-- R39: the record loss locks out every string. -/
theorem Device.recordLoss_eq (d : Device) : d.recordLoss = { d with
    csu := ⟨d.csu.strings.map fun u => { u with causes := { u.causes with recordLost := true } }⟩
    handoffs := d.handoffs ++
      ((StringId.all.map fun n => .eventOccurrence ⟨.stringLockout, .string n, some 16, false⟩) ++ [.updateRequest]) } := by
  simp only [Device.recordLoss, Device.each, StringId.all, List.foldl_cons, List.foldl_nil, Device.modSup, Device.raise, Device.post,
    List.append_assoc]
  rfl

/-- R107: what is told of a switch found WELDED. -/
def weldTold (n : SwitchId) : List Instr :=
  .eventOccurrence ⟨.switchFailed, .switch n, some 3, false⟩ ::
    (match n.string with | some m => [.weldReport m] | none => [])

theorem Device.reportWelds_eq (d : Device) : d.each SwitchId.all Device.reportWeld = { d with
    handoffs := d.handoffs ++ SwitchId.all.flatMap fun n => if (d.sw n).state = .welded then weldTold n else [] } := by
  refine Device.each_told (fun n hs => ?_) _
  have same : ({ d with handoffs := hs } : Device).sw n = d.sw n := rfl
  by_cases h : (d.sw n).state = .welded
  · cases n <;> simp [Device.reportWeld, Device.when, same, h, weldTold, SwitchId.string, Device.raise, Device.post]
  · simp [Device.reportWeld, Device.when, same, h]

/-- R178, R39: the causes of string n after a power-on reset. -/
def Device.loadCauses (d : Device) (n : StringId) : Causes :=
  if d.sto.recordValid then d.sto.record.causes.get n else { Causes.none with recordLost := true }

/-- R178, R39, R107: what a power-on reset tells. -/
def Device.loadReports (d : Device) : List Instr :=
  ((StoredTable.all.filter fun tb => !(d.sto.copies.get tb).valid).map fun tb =>
    .eventOccurrence ⟨.storeFailed, .table tb.num, some 2, false⟩) ++
  (if d.sto.recordValid then [] else
    .eventOccurrence ⟨.storeFailed, .table 15, some 4, false⟩ ::
      (StringId.all.map fun n => .eventOccurrence ⟨.stringLockout, .string n, some 16, false⟩) ++ [.updateRequest]) ++
  SwitchId.all.flatMap fun n => if d.pins.feedback.get n then weldTold n else []

/-- The part loaded, its losses and welds reported, before the blocks start. -/
def Device.loaded (d : Device) : Device :=
  { d.load with csu := ⟨.ofFn fun n => d.load.loadString (d.loadCauses n)⟩, handoffs := d.loadReports }

theorem Device.load_sw (d : Device) (n : SwitchId) : d.load.sw n = loadSwitch n (d.pins.feedback.get n) := by cases n <;> rfl

theorem loadSwitch_state (n : SwitchId) (shut : Bool) : (loadSwitch n shut).state = if shut then .welded else .opened := by
  cases shut <;> rfl

theorem Device.load_weld (d : Device) (n : SwitchId) : (d.load.sw n).state = .welded ↔ d.pins.feedback.get n = true := by
  rw [d.load_sw, loadSwitch_state]
  cases d.pins.feedback.get n <;> simp

/-- R38, R39: CSU as the record, or its loss, leaves it. -/
theorem Device.load_csu_valid {d : Device} (h : d.sto.recordValid = true) :
    d.load.csu = ⟨.ofFn fun n => d.load.loadString (d.loadCauses n)⟩ := by
  have causes : ∀ n, d.loadCauses n = d.sto.record.causes.get n := fun n => if_pos h
  have record : (if d.sto.recordValid then d.sto.record else StandingRecord.empty) = d.sto.record := if_pos h
  have csu : d.load.csu =
      ⟨(if d.sto.recordValid then d.sto.record else StandingRecord.empty).causes.map d.load.loadString⟩ := rfl
  rw [csu, record]
  exact congrArg Csu.mk (PerString.ext_get fun n => by rw [PerString.get_map, PerString.get_ofFn, causes])

theorem Device.load_csu_lost {d : Device} (h : d.sto.recordValid = false) :
    d.load.csu.strings.map (fun u => { u with causes := { u.causes with recordLost := true } }) =
      .ofFn fun n => d.load.loadString (d.loadCauses n) := by
  have causes : ∀ n, d.loadCauses n = { Causes.none with recordLost := true } := fun n => if_neg (by simp [h])
  have record : (if d.sto.recordValid then d.sto.record else StandingRecord.empty) = .empty := if_neg (by simp [h])
  have csu : d.load.csu =
      ⟨(if d.sto.recordValid then d.sto.record else StandingRecord.empty).causes.map d.load.loadString⟩ := rfl
  rw [csu, record]
  refine PerString.ext_get fun n => ?_
  rw [PerString.get_map, PerString.get_map, PerString.get_ofFn, causes]
  cases n <;> rfl

/-- R178, R39, R107: the load and its reports, up to the start of the blocks. -/
theorem Device.load_reported (d : Device) :
    (d.load.reportLoads.when (!d.sto.recordValid) (·.recordLoss)).each SwitchId.all Device.reportWeld = d.loaded := by
  have errors : d.load.sto.errors.get = fun tb => !(d.sto.copies.get tb).valid := funext fun tb => by cases tb <;> rfl
  have lost : d.load.sto.recordError = !d.sto.recordValid := rfl
  have start : d.load.handoffs = [] := rfl
  have welds : ∀ c hs, ({ d.load with csu := c, handoffs := hs } : Device).each SwitchId.all Device.reportWeld =
      { d.load with csu := c, handoffs := hs ++ SwitchId.all.flatMap fun n => if d.pins.feedback.get n then weldTold n else [] } := by
    intro c hs
    have same : ∀ n, ({ d.load with csu := c, handoffs := hs } : Device).sw n = d.load.sw n := fun _ => rfl
    rw [Device.reportWelds_eq]
    simp only [same, d.load_weld]
  rw [Device.reportLoads_eq, start, errors, lost, Device.loaded, Device.loadReports]
  cases h : d.sto.recordValid with
  | true =>
    rw [← Device.load_csu_valid h]
    exact welds d.load.csu _
  | false =>
    simp only [Bool.not_false, Device.when, ↓reduceIte]
    rw [Device.recordLoss_eq]
    refine (welds _ _).trans ?_
    rw [Device.load_csu_lost h]
    simp

theorem Device.powerOn_eq (d : Device) : d.powerOn = d.loaded.startBlocks := by rw [Device.powerOn, d.load_reported]

end Sys2Proof.Machine

end

section
/-! SUPPORT. The part after a power-on reset (R178). -/

namespace Sys2Proof.Machine

theorem Device.loaded_ready (d : Device) : ReadyToStart d.loaded (.all ⟨.off, 180000, none⟩) where
  slc := rfl
  clc := rfl
  failing n k := by cases n <;> cases k <;> rfl
  away n := by
    refine .inl ?_
    change (d.load.sw n).state = .opened ∨ (d.load.sw n).state = .welded
    rw [d.load_sw, loadSwitch_state]
    cases d.pins.feedback.get n <;> simp
  untrusted p := by
    have unchecked : d.loaded.standing p = .unchecked := by cases p <;> rfl
    simp [Trusted, unchecked]

theorem Device.loaded_settings (d : Device) (tb : StoredTable) :
    d.loaded.settings.get tb = loadTable tb (d.sto.copies.get tb) := by cases tb <;> rfl

/-- R178: a loaded item. -/
theorem Device.loaded_item (d : Device) (tb : StoredTable) (i : Nat) : d.loaded.item tb i = if tb = .t5 ∧ i = 0 then 0 else
    (if (d.sto.copies.get tb).valid then (d.sto.copies.get tb).contents else factory tb).getD i 0 := by
  rw [Device.item, d.loaded_settings, loadTable]
  generalize (if (d.sto.copies.get tb).valid then (d.sto.copies.get tb).contents else factory tb) = items
  cases tb with
  | t5 => cases i <;> cases items <;> simp [storedPart]
  | _ => simp [storedPart]

theorem storedPart_storedPart (t : StoredTable) (items : List Int) : storedPart t (storedPart t items) = storedPart t items := by
  cases t <;> simp [storedPart]

/-- R178, R179: the kept checks are those of the loaded tables. -/
theorem Device.loaded_kept (d : Device) : d.loaded.sto.kept = d.loaded.settings := by
  refine PerTable.ext_get fun tb => ?_
  have kept : d.loaded.sto.kept.get tb = storedPart tb (d.loaded.settings.get tb) := by cases tb <;> rfl
  rw [kept, d.loaded_settings, loadTable, storedPart_storedPart]

/-- R38, R39: a loaded channel is at 255 where its cause pins it. -/
theorem Device.loaded_channel (d : Device) (n : StringId) (k : Channel) :
    let u := d.loaded.sup n
    let pinned := k = .ov ∧ u.causes.ovHard = true ∨ k = .uv ∧ u.causes.uvHard = true ∨ k = .ot ∧ u.causes.otHard = true
    (pinned → u.channels.get k = ⟨255, true, true, d.loaded.limitOf k, d.loaded.holdOf k⟩) ∧
    (¬pinned → u.channels.get k = ⟨0, false, false, d.loaded.limitOf k, d.loaded.holdOf k⟩) := by
  have causes : (d.loaded.sup n).causes = d.loadCauses n := by cases n <;> rfl
  have channel : (d.loaded.sup n).channels.get k = d.loaded.freshChannel k (Causes.pins (d.loadCauses n) k) := by
    cases n <;> cases k <;> rfl
  intro u pinned
  have iff : pinned ↔ Causes.pins (d.loadCauses n) k = true := by
    rw [← causes]
    cases k <;> simp [pinned, Causes.pins, u]
  rw [iff]
  constructor <;> intro h
  · rw [channel, h]; rfl
  · rw [channel, Bool.eq_false_iff.mpr h]; rfl

theorem loadLoop_eq (raw : LoopState) : loadLoop raw =
    ⟨raw, .normal, if raw = .normal then none else if raw = .active then some 2000 else some 10000⟩ := by
  cases raw <;> rfl

/-- R143: a loaded zone. -/
theorem Device.loaded_zone (d : Device) (z : Zone) :
    let loop (raw : LoopState) : LoopRec :=
      ⟨raw, .normal, if raw = .normal then none else if raw = .active then some 2000 else some 10000⟩
    d.loaded.zone z = {
      stage := if d.sto.recordValid && d.sto.record.released.get z then .released else .normal
      testTimer := none, testGas := false, faultFlag := false, releaseTimer := none, pulseTimer := none
      smoke := loop (d.zone z).smoke.raw, heat := loop (d.zone z).heat.raw } := by
  have zone : d.loaded.zone z = loadZone (d.zone z)
      ((if d.sto.recordValid then d.sto.record else StandingRecord.empty).released.get z) := by cases z <;> rfl
  have released : (if d.sto.recordValid then d.sto.record else StandingRecord.empty).released.get z =
      (d.sto.recordValid && d.sto.record.released.get z) := by
    cases d.sto.recordValid <;> cases z <;> rfl
  simp only [← loadLoop_eq, zone, released]
  rfl

end Sys2Proof.Machine

section
open Sys2Proof Sys2Proof.Machine

/-- Settles O37: the load and its reports give the part from which the blocks start, and their start keeps the rest. -/
theorem powerOnLoadsTheStore : Obligations.PowerOnLoadsTheStore := by
  intro s
  have started := Device.startBlocks_started s.dev.loaded_ready
  have kept := Device.startBlocks_keeps s.dev.loaded_ready
  rw [← Device.powerOn_eq] at started kept
  refine ⟨⟨s.pending, s.dev.powerOn⟩, rfl, rfl, ?_⟩
  intro d e x
  have item : e.item = s.dev.loaded.item := by funext t j; rw [Device.item, kept.settings, Device.item]
  refine ⟨fun tb i => ?_, ?_, fun tb => ?_, started, kept.pins, kept.evr, ?_, fun tb => ?_, fun p => ⟨?_, ?_⟩, fun n => ⟨?_, fun k => ?_⟩,
    fun z => ?_, ?_, fun n => ?_, ?_, ?_, ?_, ?_, ?_⟩
  · rw [item]; exact s.dev.loaded_item tb i
  · rw [kept.sto, kept.settings, ← s.dev.loaded_kept]; rfl
  · rw [kept.sto]; cases tb <;> rfl
  · rw [kept.pif]; rfl
  · rw [kept.pif]; cases tb <;> exact ⟨rfl, rfl⟩
  · rw [Device.link, kept.pif]; cases p <;> rfl
  · rw [Device.port, kept.sdm, Device.itemNat, item]; cases p <;> rfl
  · rw [(kept.sup n).1]; cases n <;> rfl
  · have same : e.limitOf k = s.dev.loaded.limitOf k ∧ e.holdOf k = s.dev.loaded.holdOf k := by
      simp only [Device.limitOf, Device.holdOf, Device.itemNat, item, and_self]
    rw [(kept.sup n).1, (kept.sup n).2, same.1, same.2]
    exact s.dev.loaded_channel n k
  · have zone : e.zone z = s.dev.loaded.zone z := by rw [Device.zone, kept.fgu, Device.zone]
    exact zone.trans (s.dev.loaded_zone z)
  · rw [kept.fgu]; rfl
  · refine (kept.sw n).trans ?_
    rw [show s.dev.loaded.sw n = _ from s.dev.load_sw n]
    cases s.dev.pins.feedback.get n <;> rfl
  · exact kept.bal.1
  · exact kept.bal.2.1
  · exact kept.bal.2.2.1
  · exact kept.bal.2.2.2
  · exact kept.handoffs

end

end

section
/-! SUPPORT. The tables marked for reload at a warm restart (R179). -/

namespace Sys2Proof

theorem PerTable.set_get {α : Type} (x : PerTable α) (t : StoredTable) : x.set t (x.get t) = x := by cases t <;> rfl

end Sys2Proof

namespace Sys2Proof.Machine

/-! ## The tables marked for reload (R179) -/

/-- R179: what a table holds after the reload; the site order is kept. -/
def Device.reloadedItems (d : Device) (t : StoredTable) : List Int :=
  if d.sto.reload.get t then
    let items := if (d.sto.copies.get t).valid then (d.sto.copies.get t).contents else factory t
    match t with
    | .t5 => items.set 0 (d.item .t5 0)
    | _ => items
  else d.settings.get t

def Sto.reloadedError (x : Sto) (t : StoredTable) : Bool := x.errors.get t || x.reload.get t && !(x.copies.get t).valid

def Device.reloadedKept (d : Device) (t : StoredTable) : List Int :=
  if d.sto.reload.get t then storedPart t (d.reloadedItems t) else d.sto.kept.get t

theorem Device.reloadTable_eq (d : Device) (t : StoredTable) : d.reloadTable t = { d with
    settings := d.settings.set t (d.reloadedItems t)
    sto := { d.sto with errors := d.sto.errors.set t (d.sto.reloadedError t), kept := d.sto.kept.set t (d.reloadedKept t) } } := by
  cases marked : d.sto.reload.get t with
  | false =>
    simp only [Device.reloadTable, Device.when, Device.reloadedKept, Device.reloadedItems, Sto.reloadedError, marked,
      Bool.false_eq_true, ↓reduceIte, Bool.false_and, Bool.or_false, PerTable.set_get]
  | true =>
    cases valid : (d.sto.copies.get t).valid <;> cases t <;>
      simp [Device.reloadTable, Device.when, Device.reloadedKept, Device.reloadedItems, Sto.reloadedError, marked, valid,
        Device.keepCheck, Sto.keep, Device.modSto, PerTable.set_get]

/-- A reload of one table leaves what another takes. -/
theorem Device.reloadTable_items (d : Device) {t u : StoredTable} (h : u ≠ t) :
    (d.reloadTable t).reloadedItems u = d.reloadedItems u := by
  have get : (d.reloadTable t).settings.get u = d.settings.get u := by simp [d.reloadTable_eq, h]
  have sto : (d.reloadTable t).sto.reload = d.sto.reload ∧ (d.reloadTable t).sto.copies = d.sto.copies := by
    rw [d.reloadTable_eq]; exact ⟨rfl, rfl⟩
  unfold Device.reloadedItems
  rw [sto.1, sto.2, get]
  cases u with
  | t5 => simp only [Device.item, get]
  | _ => rfl

theorem Device.reloadTable_kept (d : Device) {t u : StoredTable} (h : u ≠ t) :
    (d.reloadTable t).reloadedKept u = d.reloadedKept u := by
  have sto : (d.reloadTable t).sto.reload = d.sto.reload ∧ (d.reloadTable t).sto.kept.get u = d.sto.kept.get u := by
    rw [d.reloadTable_eq]
    exact ⟨rfl, by simp [h]⟩
  rw [Device.reloadedKept, sto.1, sto.2, d.reloadTable_items h, Device.reloadedKept]

/-- The part with the tables of a list reloaded where they are marked. -/
def Device.reloadedOver (d : Device) (ts : List StoredTable) : Device :=
  { d with
    settings := .ofFn fun t => if t ∈ ts then d.reloadedItems t else d.settings.get t
    sto := { d.sto with
      errors := .ofFn fun t => if t ∈ ts then d.sto.reloadedError t else d.sto.errors.get t
      kept := .ofFn fun t => if t ∈ ts then d.reloadedKept t else d.sto.kept.get t } }

theorem Device.each_reloadTable {ts : List StoredTable} (h : ts.Nodup) (d : Device) :
    d.each ts Device.reloadTable = d.reloadedOver ts := by
  induction ts generalizing d with
  | nil =>
    have whole : ∀ {α : Type} (x : PerTable α), PerTable.ofFn x.get = x := fun x => PerTable.ext_get (PerTable.get_ofFn _)
    simp [Device.each, Device.reloadedOver, whole]
  | cons t ts ih =>
    obtain ⟨ht, hts⟩ := List.nodup_cons.mp h
    have each : d.each (t :: ts) Device.reloadTable = (d.reloadTable t).each ts Device.reloadTable := rfl
    rw [each, ih hts, d.reloadTable_eq t]
    have others : ∀ u ∈ ts, u ≠ t := fun u hu e => ht (e ▸ hu)
    have settings : ∀ u, u ∈ ts → (d.reloadTable t).reloadedItems u = d.reloadedItems u := fun u hu =>
      d.reloadTable_items (others u hu)
    have kept : ∀ u, u ∈ ts → (d.reloadTable t).reloadedKept u = d.reloadedKept u := fun u hu =>
      d.reloadTable_kept (others u hu)
    rw [d.reloadTable_eq t] at settings kept
    have split : ∀ {α : Type} (x f : StoredTable → α), (∀ u ∈ ts, x u = f u) → ∀ (y : PerTable α) u,
        (if u ∈ ts then x u else (y.set t (f t)).get u) = if u ∈ t :: ts then f u else y.get u := by
      intro α x f hx y u
      by_cases hu : u ∈ ts
      · simp [hu, hx u hu]
      · by_cases e : u = t
        · subst e; simp [ht]
        · simp [hu, e]
    simp only [Device.reloadedOver]
    congr 1
    · exact PerTable.ext_get fun u => by
        simp only [PerTable.get_ofFn]
        exact split _ d.reloadedItems settings d.settings u
    · congr 1
      · exact PerTable.ext_get fun u => by
          simp only [PerTable.get_ofFn]
          exact split _ d.sto.reloadedError (fun u hu => by simp [Sto.reloadedError, others u hu]) d.sto.errors u
      · exact PerTable.ext_get fun u => by
          simp only [PerTable.get_ofFn]
          exact split _ d.reloadedKept kept d.sto.kept u

end Sys2Proof.Machine

end

section
/-! SUPPORT. The zones at a warm restart (R137, R143). -/

namespace Sys2Proof.Machine

/-! ## The zones at a warm restart (R132, R137, R143) -/

/-- R132: reading the hold button of a zone. -/
theorem Device.holdZone_eq (d : Device) (z : Zone) :
    d.holdZone d.fgu.holdPressed z = d.withZone z ((d.zone z).underButton d) := by
  have self : d.withZone z (d.zone z) = d := by rw [Device.withZone, Device.zone, Fgu.withZone_self]
  have delay : d.releaseDelay = 1000 * d.itemNat .t9 0 := rfl
  cases hs : (d.zone z).stage <;> cases hp : d.fgu.holdPressed <;>
    simp [Device.holdZone, ZoneRec.underButton, hs, hp, self, Device.countdown, Device.modZone_eq, delay]

/-- R143: the stage that the confirmed inputs give. -/
theorem Device.rederiveZone_eq (d : Device) (z : Zone) :
    let o := d.zone z
    d.rederiveZone z = d.withZone z (if o.stage = .normal ∨ o.stage = .fault ∨ o.stage = .prealarm then
      { o with stage := if d.fgu.kinds z = [] then (if o.faultFlag then .fault else .normal) else .prealarm } else o) := by
  have self : d.withZone z (d.zone z) = d := by rw [Device.withZone, Device.zone, Fgu.withZone_self]
  have derived : (if (d.fgu.kinds z).isEmpty then d.modZone z fun r => { r with stage := r.byFlag }
      else d.modZone z fun r => { r with stage := .prealarm }) = d.withZone z { d.zone z with
        stage := if d.fgu.kinds z = [] then (if (d.zone z).faultFlag then .fault else .normal) else .prealarm } := by
    by_cases h : d.fgu.kinds z = [] <;> simp [h, Device.modZone_eq, ZoneRec.byFlag]
  cases hs : (d.zone z).stage <;>
    simp only [Device.rederiveZone, hs, reduceCtorEq, true_or, or_true, or_self, ↓reduceIte, self, derived]

/-- What a record under the hold button rests on. -/
theorem ZoneRec.underButton_congr {d e : Device} (held : e.fgu.holdPressed = d.fgu.holdPressed) (settings : e.settings = d.settings)
    (r : ZoneRec) : r.underButton e = r.underButton d := by
  simp only [ZoneRec.underButton, held, Device.itemNat, Device.item, settings]

/-- R137, R143: one zone at a warm restart. -/
theorem Device.restartZone_restarted (d : Device) (z : Zone) : ∃ r hs, ZoneRestarted d z r hs ∧
    d.restartZone z = { d with fgu := d.fgu.withZone z r, handoffs := d.handoffs ++ hs } := by
  have button : ∀ r hs, ({ d with fgu := d.fgu.withZone z r, handoffs := d.handoffs ++ hs } : Device).holdZone d.fgu.holdPressed z =
      { d with fgu := d.fgu.withZone z (r.underButton d), handoffs := d.handoffs ++ hs } := by
    intro r hs
    have e := Device.holdZone_eq { d with fgu := d.fgu.withZone z r, handoffs := d.handoffs ++ hs } z
    have record : ({ d with fgu := d.fgu.withZone z r, handoffs := d.handoffs ++ hs } : Device).zone z = r := d.withZone_zone z r
    have same : r.underButton { d with fgu := d.fgu.withZone z r, handoffs := d.handoffs ++ hs } = r.underButton d :=
      ZoneRec.underButton_congr rfl rfl r
    rw [record, same] at e
    refine e.trans ?_
    rw [Device.withZone, Fgu.withZone_withZone]
  cases ht : (d.zone z).testTimer with
  | some t =>
    obtain ⟨r', hs, ended, e⟩ := d.endTest_ended z
    refine ⟨_, hs, ⟨r', rfl, fun _ => ended, fun h => ?_⟩, ?_⟩
    · cases ht.symm.trans h
    · rw [Device.restartZone, if_pos (by simp [ZoneRec.inTest, ht]), e, button]
  | none =>
    refine ⟨_, [], ⟨_, rfl, fun h => absurd ht h, fun _ => ⟨rfl, rfl⟩⟩, ?_⟩
    have e := button (if (d.zone z).stage = .normal ∨ (d.zone z).stage = .fault ∨ (d.zone z).stage = .prealarm then
      { d.zone z with stage := if d.fgu.kinds z = [] then (if (d.zone z).faultFlag then .fault else .normal) else .prealarm }
      else d.zone z) []
    rw [List.append_nil] at e ⊢
    rw [Device.restartZone, if_neg (by simp [ZoneRec.inTest, ht]), d.rederiveZone_eq z]
    exact e

section
variable {d e : Device} {z : Zone} {r : ZoneRec} {hs : List Instr}

/-- The kinds present in a zone rest on its record and the gas readings. -/
theorem Fgu.kinds_congr {g h : Fgu} (zone : h.zones.get z = g.zones.get z) (gas : h.gas = g.gas) : h.kinds z = g.kinds z := by
  have low : h.gasLow z = g.gasLow z := by cases z <;> simp only [Fgu.gasLow, gas]
  simp only [Fgu.kinds, zone, low]

/-- A judgment rests on the zone's record, the gas readings, the hold button and the settings. -/
theorem Judged.congr (h : Judged d z r hs) (zone : e.zone z = d.zone z) (gas : e.fgu.gas = d.fgu.gas)
    (held : e.fgu.holdPressed = d.fgu.holdPressed) (settings : e.settings = d.settings) : Judged e z r hs := by
  have high : e.fgu.gasHigh z = d.fgu.gasHigh z := by cases z <;> simp only [Fgu.gasHigh, gas]
  have alarmed : ∀ o : ZoneRec, o.alarmed e = o.alarmed d := fun o => by
    simp only [ZoneRec.alarmed, held, Device.itemNat, Device.item, settings]
  unfold Judged at h ⊢
  simp only [zone, Fgu.kinds_congr zone gas, high, alarmed]
  exact h

/-- So does what a zone becomes at a warm restart. -/
theorem ZoneRestarted.congr (h : ZoneRestarted d z r hs) (zone : e.zone z = d.zone z) (gas : e.fgu.gas = d.fgu.gas)
    (held : e.fgu.holdPressed = d.fgu.holdPressed) (settings : e.settings = d.settings) : ZoneRestarted e z r hs := by
  obtain ⟨r', hr, test, kept⟩ := h
  refine ⟨r', by rw [hr, ZoneRec.underButton_congr held settings], fun ht => ?_, fun ht => ?_⟩
  · exact (test (zone ▸ ht)).congr (by rw [Device.withZone_zone, Device.withZone_zone, zone]) gas held settings
  · rw [zone, Fgu.kinds_congr zone gas]
    exact kept (zone ▸ ht)

end

/-- R143: FGU at a warm restart, zone by zone. -/
theorem Device.restartFgu_restarted (d : Device) : ∃ zones hs0 hs1 hs2,
    ZoneRestarted d .z0 (zones.get .z0) hs0 ∧ ZoneRestarted d .z1 (zones.get .z1) hs1 ∧ ZoneRestarted d .z2 (zones.get .z2) hs2 ∧
    d.restartFgu = { d with
      fgu := { d.fgu with
        zones := zones
        stationStage := ({ d.fgu with zones := zones } : Fgu).formStage
        gas := d.fgu.gas.map fun x => { x with sampleIn := 1000 } }
      handoffs := d.handoffs ++ hs0 ++ hs1 ++ hs2 } := by
  obtain ⟨r0, hs0, z0, e0⟩ := d.restartZone_restarted .z0
  obtain ⟨r1, hs1, z1, e1⟩ := (d.restartZone .z0).restartZone_restarted .z1
  obtain ⟨r2, hs2, z2, e2⟩ := ((d.restartZone .z0).restartZone .z1).restartZone_restarted .z2
  rw [e1, e0] at z2 e2
  rw [e0] at z1
  refine ⟨⟨r0, r1, r2⟩, hs0, hs1, hs2, z0, z1.congr rfl rfl rfl rfl, z2.congr rfl rfl rfl rfl, ?_⟩
  have zones : d.each Zone.all Device.restartZone = ((d.restartZone .z0).restartZone .z1).restartZone .z2 := rfl
  rw [Device.restartFgu, zones, e1, e0, e2]
  rfl

end Sys2Proof.Machine

end

section
/-! SUPPORT. The blocks cleared at a warm restart, ready to start (R107, R143, R179). -/

namespace Sys2Proof.Machine

/-! ## The warm restart (R179) -/

/-- The part m, its tables reloaded, with SLC and CLC afresh, and the records of CSU, SWC and SDM as they restart. -/
def Device.blocksCleared (m : Device) : Device :=
  let d := { m with slc := .reset, clc := restartClc m.clc, sto := m.sto.restarted }
  let d := { d with csu := ⟨d.csu.strings.map d.restartString⟩ }
  let d := d.modSwc fun c =>
    { c with switches := .ofFn fun n => restartSwitch n (d.pins.feedback.get n) (c.switches.get n) }
  { d with sdm := ⟨.ofFn d.restartPort⟩ }

/-- The part at a warm restart up to FGU. -/
def Device.restartedTo (d : Device) : Device :=
  (({ d with handoffs := d.handoffs.filter outlasts } : Device).reloadedOver StoredTable.all).blocksCleared

/-- FGU restarts, and a live run ends with code 11. -/
def Device.fireAndRunRestarted (m : Device) : Device := m.restartFgu.when m.runLive (·.endRun 11)

theorem Device.restart_steps (d : Device) : d.restart =
    (({ d with handoffs := d.handoffs.filter outlasts } : Device).each StoredTable.all Device.reloadTable
      ).blocksCleared.fireAndRunRestarted.startBlocks := rfl

theorem Device.restart_eq (d : Device) : d.restart = d.restartedTo.fireAndRunRestarted.startBlocks := by
  rw [Device.restart_steps, Device.each_reloadTable (by decide)]
  rfl

theorem restartSwitch_eq (n : SwitchId) (shut : Bool) (r : SwitchRec) :
    let opens := r.state = .closed ∨ r.state = .precharging ∨ r.state = .closing
    restartSwitch n shut r = {
      state := if opens then (if shut = true then .opening else .opened) else r.state
      selection := none, lastResult := .none, failure := r.failure, interrupted := false, badJoin := false, openDelay := none
      timer := if opens then (if shut = true then some (if n = .g then 150 else 200) else none)
        else if r.state = .opening then r.timer else none
      inhibits := .none } := by
  have time : n.feedbackTime = if n = .g then 150 else 200 := by cases n <;> rfl
  cases h : r.state <;> cases shut <;> simp [restartSwitch, SwitchState.opensAtRestart, SwitchRec.reset, h, time]

theorem restartSwitch_away (n : SwitchId) (shut : Bool) (r : SwitchRec) :
    ((restartSwitch n shut r).state = .opened ∨ (restartSwitch n shut r).state = .welded) ∨
      (restartSwitch n shut r).state = .opening := by
  rw [restartSwitch_eq]
  cases r.state <;> cases shut <;> simp

/-- The part at a warm restart when its blocks are about to start. -/
structure RestartReady (d e : Device) : Prop where
  only : Only [.handoffs, .fgu, .bal] d.restartedTo e
  live : d.bal.run.state.live = true → e.bal = d.bal.ended 11
  idle : d.bal.run.state.live = false → e.bal = d.bal
  fgu : e.fgu = { d.fgu with
    zones := e.fgu.zones
    stationStage := e.fgu.formStage
    gas := d.fgu.gas.map fun x => { x with sampleIn := 1000 } }
  zones : ∃ hs0 hs1 hs2, ZoneRestarted d.restartedTo .z0 (e.zone .z0) hs0 ∧ ZoneRestarted d.restartedTo .z1 (e.zone .z1) hs1 ∧
    ZoneRestarted d.restartedTo .z2 (e.zone .z2) hs2 ∧
    e.handoffs = d.handoffs.filter outlasts ++ hs0 ++ hs1 ++ hs2 ++
      (if d.bal.run.state.live then [.eventOccurrence ⟨.balanceEnded, .string d.bal.run.string, some 11, false⟩] else [])

theorem Device.restart_ready (d : Device) :
    RestartReady d d.restartedTo.fireAndRunRestarted := by
  obtain ⟨zones, hs0, hs1, hs2, z0, z1, z2, e⟩ := d.restartedTo.restartFgu_restarted
  rw [Device.fireAndRunRestarted, e]
  rw [show d.restartedTo.runLive = d.bal.run.state.live from rfl]
  cases h : d.bal.run.state.live with
  | true =>
    refine ⟨?_, fun _ => rfl, fun h' => (by cases h.symm.trans h'), rfl, hs0, hs1, hs2, z0, z1, z2, ?_⟩
    · intro b hb; cases b <;> simp at hb <;> rfl
    · rw [h]; rfl
  | false =>
    refine ⟨?_, fun h' => (by cases h.symm.trans h'), fun _ => rfl, rfl, hs0, hs1, hs2, z0, z1, z2, ?_⟩
    · intro b hb; cases b <;> simp at hb <;> rfl
    · rw [h]; exact (List.append_nil _).symm

/-- The stages of CLC after a warm restart: a FAILED one stays FAILED (R125). -/
def Clc.restartedStages (x : Clc) : PerStage CoolStage :=
  x.stages.map fun c => ⟨if c.state = .failed then .failed else .off, 180000, none⟩

theorem RestartReady.ready {d e : Device} (h : RestartReady d e) : ReadyToStart e d.clc.restartedStages where
  slc := h.only .slc (by decide)
  clc := (h.only .clc (by decide)).trans rfl
  failing n k := by
    have csu : e.csu = d.restartedTo.csu := h.only .csu (by decide)
    rw [Device.sup, csu]
    cases n <;> cases k <;> rfl
  away n := by
    have swc : e.swc = d.restartedTo.swc := h.only .swc (by decide)
    have sw : e.sw n = restartSwitch n (d.pins.feedback.get n) (d.sw n) := by rw [Device.sw, swc]; cases n <;> rfl
    unfold Away Resting
    rw [sw]
    exact restartSwitch_away _ _ _
  untrusted p := by
    have sdm : e.sdm = d.restartedTo.sdm := h.only .sdm (by decide)
    have standing : e.standing p = if d.standing p = .barred then .barred else .unchecked := by
      rw [Device.standing, sdm]; cases p <;> rfl
    unfold Trusted
    rw [standing]
    split <;> decide

end Sys2Proof.Machine

end

section
/-! SUPPORT. What a warm restart leaves (R179). -/

namespace Sys2Proof.Machine

/-! ## What a warm restart leaves (R179) -/

theorem Device.restartedTo_settings (d : Device) (t : StoredTable) : d.restartedTo.settings.get t = d.reloadedItems t := by
  cases t <;> rfl

theorem Device.restartedTo_kept (d : Device) (t : StoredTable) : d.restartedTo.sto.kept.get t = d.reloadedKept t := by
  cases t <;> rfl

theorem Device.restartedTo_errors (d : Device) (t : StoredTable) : d.restartedTo.sto.errors.get t = d.sto.reloadedError t := by
  cases t <;> rfl

/-- R179: a table that is not marked keeps its items, and table 5 its site order. -/
theorem Device.reloadedItems_kept {d : Device} {t : StoredTable} {i : Nat}
    (h : d.sto.reload.get t = false ∨ t = .t5 ∧ i = 0 ∧ (d.sto.copies.get .t5).contents ≠ []) :
    (d.reloadedItems t).getD i 0 = d.item t i := by
  unfold Device.reloadedItems
  split
  · next marked =>
    rcases h with h | ⟨rfl, rfl, full⟩
    · exact absurd marked (by simp [h])
    · have items : (if (d.sto.copies.get .t5).valid then (d.sto.copies.get .t5).contents else factory .t5) ≠ [] := by
        split
        · exact full
        · decide
      generalize (if (d.sto.copies.get .t5).valid then (d.sto.copies.get .t5).contents else factory .t5) = xs at items
      cases xs with
      | nil => exact absurd rfl items
      | cons x xs => rfl
  · rfl

/-- R179: a marked table takes its copy, or its factory defaults where the copy fails. -/
theorem Device.reloadedItems_marked {d : Device} {t : StoredTable} {i : Nat} (h : d.sto.reload.get t = true)
    (hi : ¬(t = .t5 ∧ i = 0)) : (d.reloadedItems t).getD i 0 =
      (if (d.sto.copies.get t).valid then (d.sto.copies.get t).contents else factory t).getD i 0 := by
  unfold Device.reloadedItems
  rw [if_pos h]
  cases t with
  | t5 =>
    cases i with
    | zero => exact absurd ⟨rfl, rfl⟩ hi
    | succ i => simp
  | _ => rfl

theorem Device.restartedTo_fgu (d : Device) : d.restartedTo.fgu = d.fgu := rfl

theorem Device.restartedTo_sto (d : Device) : d.restartedTo.sto = { d.sto with
    errors := d.restartedTo.sto.errors, kept := d.restartedTo.sto.kept
    restart := none, reload := .all false, checkNext := .t2, checkIn := 1000 } := rfl

theorem Device.restartedTo_port (d : Device) (p : Port) : d.restartedTo.port p = { d.port p with
    standing := if d.standing p = .barred then .barred else .unchecked
    token := none, outstanding := false, deadline := none, issueGeneration := 0
    periodIn := d.restartedTo.itemNat .t11 (2 * p.num) } := by
  cases p <;> rfl

theorem Device.restartedTo_sw (d : Device) (n : SwitchId) :
    d.restartedTo.sw n = restartSwitch n (d.pins.feedback.get n) (d.sw n) := by
  cases n <;> rfl

theorem Device.restartedTo_causes (d : Device) (n : StringId) : (d.restartedTo.sup n).causes = (d.sup n).causes := by
  cases n <;> rfl

theorem Device.restartedTo_channels (d : Device) (n : StringId) (k : Channel) :
    (d.restartedTo.sup n).channels.get k = d.restartedTo.freshChannel k ((d.sup n).channels.get k).pinned := by
  cases n <;> cases k <;> rfl

/-- A channel afresh rests on the settings alone. -/
theorem Device.freshChannel_congr {d e : Device} (h : e.settings = d.settings) (k : Channel) (pinned : Bool) :
    e.freshChannel k pinned =
      if pinned then ⟨255, true, true, d.limitOf k, d.holdOf k⟩ else ⟨0, false, false, d.limitOf k, d.holdOf k⟩ := by
  have items : e.item = d.item := by funext t i; rw [Device.item, h, Device.item]
  have limit : e.limitOf k = d.limitOf k := by simp only [Device.limitOf, Device.itemNat, items]
  have hold : e.holdOf k = d.holdOf k := by simp only [Device.holdOf, Device.itemNat, items]
  cases pinned <;> simp [Device.freshChannel, limit, hold]

/-- A zone's restart may be stated of the part before it, with the settings after it. -/
theorem ZoneRestarted.ofRestartedTo {d : Device} {z : Zone} {r : ZoneRec} {hs : List Instr} {items : PerTable (List Int)}
    (h : ZoneRestarted d.restartedTo z r hs) (settings : items = d.restartedTo.settings) :
    ZoneRestarted { d with settings := items } z r hs :=
  h.congr rfl rfl rfl settings

theorem Device.restart_restarted (d : Device) : Restarted d d.restart := by
  have r := d.restart_ready
  have started := Device.startBlocks_started r.ready
  have kept := Device.startBlocks_keeps r.ready
  rw [← Device.restart_eq] at started kept
  have settings : d.restart.settings = d.restartedTo.settings := kept.settings.trans (r.only .settings (by decide))
  have item : ∀ t i, d.restart.item t i = (d.reloadedItems t).getD i 0 := fun t i => by
    rw [Device.item, settings, d.restartedTo_settings]
  have sto : d.restart.sto = d.restartedTo.sto := kept.sto.trans (r.only .sto (by decide))
  have sdm : d.restart.sdm = d.restartedTo.sdm := kept.sdm.trans (r.only .sdm (by decide))
  have sup : ∀ n, d.restartedTo.fireAndRunRestarted.sup n = d.restartedTo.sup n := fun n => by
    rw [Device.sup, r.only .csu (by decide), Device.sup]
  have sw : ∀ n, d.restartedTo.fireAndRunRestarted.sw n = d.restartedTo.sw n := fun n => by
    rw [Device.sw, r.only .swc (by decide), Device.sw]
  obtain ⟨hs0, hs1, hs2, z0, z1, z2, told⟩ := r.zones
  have zone : ∀ z, d.restart.zone z = d.restartedTo.fireAndRunRestarted.zone z := fun z => by
    rw [Device.zone, kept.fgu, Device.zone]
  refine ⟨fun tb i h => ?_, fun tb i h hi => ?_, ?_, ?_, ?_, ?_, fun tb => ?_, fun tb => ?_, started, fun n => ⟨?_, fun k => ?_⟩,
    fun n => ?_, fun p => ?_, ?_, fun live => ?_, fun live => ?_, hs0, hs1, hs2, ?_, ?_, ?_, ?_⟩
  · rw [item]; exact Device.reloadedItems_kept h
  · rw [item]; exact Device.reloadedItems_marked h hi
  · exact kept.pins.trans (r.only .pins (by decide))
  · exact kept.pif.trans (r.only .pif (by decide))
  · exact kept.evr.trans (r.only .evr (by decide))
  · rw [sto]; exact d.restartedTo_sto
  · rw [sto]; exact d.restartedTo_errors tb
  · rw [sto, d.restartedTo_kept, settings, d.restartedTo_settings, Device.reloadedKept]
    cases tb <;> rfl
  · rw [(kept.sup n).1, sup, d.restartedTo_causes]
  · rw [(kept.sup n).2, sup, d.restartedTo_channels, Device.freshChannel_congr settings.symm]
  · have record := kept.sw n
    rw [sw, d.restartedTo_sw, restartSwitch_eq] at record
    exact record
  · rw [Device.port, sdm, Device.itemNat, Device.item, settings]
    exact d.restartedTo_port p
  · rw [kept.fgu]; exact r.fgu
  · obtain ⟨run, commanded, history, mismatch⟩ := kept.bal
    rw [run, commanded, history, mismatch, r.live live]
    exact ⟨rfl, rfl, rfl, rfl⟩
  · obtain ⟨run, commanded, history, mismatch⟩ := kept.bal
    rw [run, commanded, history, mismatch, r.idle live]
    exact ⟨rfl, rfl, rfl, rfl⟩
  · rw [zone]; exact z0.ofRestartedTo settings
  · rw [zone]; exact z1.ofRestartedTo settings
  · rw [zone]; exact z2.ofRestartedTo settings
  · exact kept.handoffs.trans told

end Sys2Proof.Machine

end

section
/-! SUPPORT. RESTART, and a restart that takes effect (R175, R179). -/

namespace Sys2Proof.Machine

/-! ## RESTART, and a restart that takes effect (R175, R179) -/

theorem Device.settle_settled (d : Device) : Settled d d.settle :=
  ⟨fun h => d.settle_eq.1 h ▸ d.restart_restarted, d.settle_eq.2⟩

/-- A restart, and the choice whether it takes effect, do not rest on the ports' links. -/
theorem Restarted.withPif {d e : Device} (h : Restarted d e) (l : Pif) : Restarted { d with pif := l } { e with pif := l } := by
  obtain ⟨kept, marked, pins, -, rest⟩ := h
  exact ⟨kept, marked, pins, rfl, rest⟩

theorem Settled.withPif {d e : Device} (h : Settled d e) (l : Pif) : Settled { d with pif := l } { e with pif := l } :=
  ⟨fun hr => (h.1 hr).withPif l, fun hr => by rw [h.2 hr]⟩

/-- R175: the cause of a pending restart stays where it is set, and is a service's otherwise. -/
def Device.restartAsked (d : Device) : Device := { d with sto := { d.sto with
  restart := match d.sto.restart with | none => some .service | some c => some c } }

theorem stoRestart_taken {d : Device} {p : Port} (hp : p = .site) (ht : (d.standing p).trusted = true) :
    stoRestart p d = (d.restartAsked.settle, .done) := by
  have asked : (d.modSto fun x => { x with restart := x.restart.or (some .service) }) = d.restartAsked := by
    cases h : d.sto.restart <;> simp [Device.modSto, Device.restartAsked, h]
  subst hp
  simp only [stoRestart, ht, asked, ne_eq, not_true_eq_false, ↓reduceIte, Bool.not_true, Bool.false_eq_true]

/-- The part that asks for a restart and settles, its links set aside. -/
theorem Device.restartAsked_settled (d : Device) (p : Port) :
    Settled d.restartAsked { (d.clockOut p).restartAsked.settle with pif := d.pif } :=
  (Device.settle_settled (d.clockOut p).restartAsked).withPif d.pif

/-- Links set aside and put back. -/
theorem Device.links_back {e : Device} {l : Pif} (h : e.pif = l) (l' : Pif) :
    { { e with pif := l' } with pif := l } = e := by rw [← h]

theorem Standing.trusted_iff (x : Standing) : x.trusted = true ↔ x = .inStanding ∨ x = .lapsed := by
  cases x <;> simp [Standing.trusted]

end Sys2Proof.Machine

section
open Sys2Proof Sys2Proof.Machine

/-- Settles O38: RESTART asks and settles, WARM_RESTART settles, and what settles is as `Device.restart_restarted` has it. -/
theorem restartWaitsAndTakesEffect : Obligations.RestartWaitsAndTakesEffect := by
  refine ⟨fun p f s h => ?_, fun s => ⟨_, rfl, s.dev.settle_settled⟩⟩
  obtain ⟨r, hr, hrun, hchk⟩ := h
  cases hr
  have trusted : (s.dev.standing p).trusted = true ↔ Trusted s.dev p := Standing.trusted_iff _
  refine ⟨_, rfl, fun hp => ?_, fun hp ht => ?_, fun hp ht => ⟨_, s.dev.restartAsked_settled p, ?_⟩⟩
  · exact request_refuses hrun hchk .denied (by simp [stoRestart, hp])
  · have barred : ((s.dev.clockOut p).standing p).trusted = false := Bool.eq_false_iff.mpr (mt trusted.mp ht)
    exact request_refuses hrun hchk .noStanding (by subst hp; simp [stoRestart, barred])
  · have taken := stoRestart_taken (d := s.dev.clockOut p) hp (trusted.mpr ht)
    refine request_replies hrun hchk _ .done rfl (taken.trans ?_)
    exact congrArg (·, Answer.done) (Device.links_back (settle_pif (s.dev.clockOut p).restartAsked) s.dev.pif).symm

end

end

section
/-! SUPPORT. What a reading shows, and table 1 (R17). -/

namespace Sys2Proof

theorem SwitchId.ofNum_num (n : SwitchId) : SwitchId.ofNum n.num = some n := by cases n <;> rfl
theorem Zone.ofNum_num (z : Zone) : Zone.ofNum z.num = some z := by cases z <;> rfl

end Sys2Proof

namespace Sys2Proof.Machine

/-! ## A list of items that a reading shows -/

/-- The items of a list lie between lo and hi, and a reading answers each with its value. -/
def Shows (lo hi : Nat) (read : Nat → Int) (xs : List Shown) : Prop :=
  ∀ x ∈ xs, lo ≤ x.index ∧ x.index < hi ∧ read x.index = x.value

section
variable {lo hi : Nat} {read : Nat → Int}

@[simp] theorem shows_nil : Shows lo hi read [] := fun _ h => nomatch h

@[simp] theorem shows_cons {i : Nat} {v : Int} {xs : List Shown} :
    Shows lo hi read (⟨i, v⟩ :: xs) ↔ (lo ≤ i ∧ i < hi ∧ read i = v) ∧ Shows lo hi read xs := List.forall_mem_cons

theorem Shows.append {xs ys : List Shown} (hx : Shows lo hi read xs) (hy : Shows lo hi read ys) : Shows lo hi read (xs ++ ys) :=
  List.forall_mem_append.mpr ⟨hx, hy⟩

theorem Shows.flatMap {α : Type} {as : List α} {f : α → List Shown} (h : ∀ a ∈ as, Shows lo hi read (f a)) :
    Shows lo hi read (as.flatMap f) := List.forall_mem_flatMap.mpr h

theorem Shows.map {α : Type} {as : List α} {f : α → Shown}
    (h : ∀ a ∈ as, lo ≤ (f a).index ∧ (f a).index < hi ∧ read (f a).index = (f a).value) :
    Shows lo hi read (as.map f) := List.forall_mem_map.mpr h

theorem Shows.mono {lo' hi' : Nat} {xs : List Shown} (h : Shows lo hi read xs) (hlo : lo' ≤ lo) (hhi : hi ≤ hi') :
    Shows lo' hi' read xs := fun x hx =>
  ⟨hlo.trans (h x hx).1, (h x hx).2.1.trans_le hhi, (h x hx).2.2⟩

/-- A reading that agrees with another over the range shows the same. -/
theorem Shows.congr {read' : Nat → Int} {xs : List Shown} (h : Shows lo hi read xs)
    (hr : ∀ i, lo ≤ i → i < hi → read' i = read i) : Shows lo hi read' xs := fun x hx =>
  have ⟨hl, hh, hv⟩ := h x hx
  ⟨hl, hh, (hr _ hl hh).trans hv⟩

end

/-- A flag as a number, one way and the other. -/
theorem boolNat_int (b : Bool) : ((boolNat b : Nat) : Int) = if b then 1 else 0 := by cases b <;> rfl

/-! ## Table 1 (R17) -/

theorem Slc.read_string (c : Slc) (n : StringId) {o : Nat} (h : o < 48) : c.read (48 * n.num + o) = (c.monitors.get n).read o := by
  have block : StringId.ofNum ((48 * n.num + o) / 48) = some n := by
    rw [show (48 * n.num + o) / 48 = n.num by omega, StringId.ofNum_num]
  have offset : (48 * n.num + o) % 48 = o := by omega
  simp only [Slc.read, block, offset]

theorem Monitor.read_voltages (m : Monitor) {k : Nat} (h : k < 16) : m.read (16 + k) =
    ((m.held.map fun r => ((r.modules[k]?).map fun e => e.vmax * 65536 + e.vmin).getD 0).getD 0 : Int) := by
  interval_cases k <;> rfl

theorem Monitor.read_temps (m : Monitor) {k : Nat} (h : k < 16) : m.read (32 + k) =
    ((m.held.map fun r => ((r.modules[k]?).map fun e => e.temp.getD 32767).getD 0).getD 0 : Int) := by
  interval_cases k <;> rfl

theorem Slc.temps_offered (d : Device) : d.slc.temps = offered d := by
  unfold Slc.temps offered
  refine congrArg (List.flatMap · _) (funext fun n => ?_)
  change (if (d.monitor n).state == .present && !(d.monitor n).stale then (((d.monitor n).held.map (·.temps)).getD []) else []) = _
  generalize d.monitor n = m
  cases h : m.held <;> simp [ScanRecord.temps, h]

/-- The items of string n lie within table 1, and show what a reading of its monitor gives. -/
theorem Slc.read_string_shows {d : Device} {n : StringId} {o : Nat} {v : Int} (h : o < 48) (hv : (d.monitor n).read o = v) :
    0 ≤ 48 * n.num + o ∧ 48 * n.num + o < 201 ∧ d.slc.read (48 * n.num + o) = v :=
  ⟨Nat.zero_le _, by cases n <;> simp [StringId.num] <;> omega, (d.slc.read_string n h).trans hv⟩

theorem shown1_shows (d : Device) : Shows 0 201 d.slc.read (shown1 d) := by
  refine .append (.flatMap fun n _ => .append ?_ (.flatMap fun k hk => ?_)) ?_
  · have item := @Slc.read_string_shows d n
    generalize d.monitor n = m at item ⊢
    refine shows_cons.mpr ⟨item (o := 0) (by decide) rfl, ?_⟩
    simp only [shows_cons, shows_nil, and_true]
    refine ⟨item ?_ ?_, item ?_ ?_, item ?_ ?_, item ?_ ?_, item ?_ ?_, item ?_ ?_, item ?_ ?_, item ?_ ?_, item ?_ ?_, item ?_ ?_,
      item ?_ ?_, item ?_ ?_, item ?_ ?_, item ?_ ?_, item ?_ ?_⟩
    all_goals cases hi : m.identity <;> cases hr : m.held <;> simp [Monitor.read, boolNat_int, hi, hr]
  · have hk : k < 16 := List.mem_range.mp hk
    have item := @Slc.read_string_shows d n
    have voltages := (d.monitor n).read_voltages hk
    have temps := (d.monitor n).read_temps hk
    generalize d.monitor n = m at item voltages temps ⊢
    refine shows_cons.mpr ⟨?_, shows_cons.mpr ⟨?_, shows_nil⟩⟩
    · rw [Nat.add_assoc]
      refine item (by omega) (voltages.trans ?_)
      cases m.held with
      | none => rfl
      | some r => cases he : r.modules[k]? <;> simp [he]
    · rw [Nat.add_assoc]
      refine item (by omega) (temps.trans ?_)
      cases m.held with
      | none => rfl
      | some r =>
        cases he : r.modules[k]? with
        | none => simp [he]
        | some e => cases ht : e.temp <;> simp [he, ht]
  · simp [Slc.read, StringId.ofNum, Slc.tmax, Slc.tmin, Slc.temps_offered, boolNat_int]

end Sys2Proof.Machine

end

section
/-! SUPPORT. Tables 0, 4, 5, 6 and 7 as they are read (R61, R76, R77, R106). -/

namespace Sys2Proof.Machine

/-! ## Sets as codes -/

theorem setCode_eq {α : Type} (all : List α) (num : α → Nat) (has : α → Bool) :
    setCode all num has = ((all.map fun k => boolNat (has k) * 2 ^ num k).sum : Nat) := by
  have power : ∀ k, (if has k then 2 ^ num k else 0) = boolNat (has k) * 2 ^ num k := fun k => by
    cases has k <;> simp [boolNat]
  simp only [setCode, power]

theorem setCode_filter {α : Type} (all : List α) (num : α → Nat) (has : α → Bool) :
    setCode all num has = (((all.filter has).map fun k => 2 ^ num k).sum : Nat) := by
  unfold setCode
  induction all with
  | nil => rfl
  | cons k ks ih => cases h : has k <;> simp_all

/-! ## Tables 0, 4, 5, 6 and 7 (R61, R76, R77, R106) -/

theorem shown0_shows : Shows 0 8 read0 shown0 := by simp [shown0, read0]

theorem shown6_shows (d : Device) : Shows 0 7 d.read6 (shown6 d) := by
  cases h : d.du.overrunTimer <;> cases j : d.du.judgment <;> simp [shown6, Device.read6, Judgment.code, h, j, boolNat]

theorem Device.causeStanding_eq (d : Device) : d.causeStanding = decide (¬Trusted d .converter) := by
  rw [Device.causeStanding, decide_not]
  exact congrArg (!·) (Bool.eq_iff_iff.mpr (by rw [Standing.trusted_iff]; simp [Trusted]))

theorem Device.breakerAway_eq (d : Device) : (!d.breakerClosed) = decide ((d.sw .g).state ≠ .closed) := by
  rw [decide_not]
  rfl

theorem Device.dispatchMode_shown (d : Device) : ((d.dispatchMode.code : Nat) : Int) =
    if ¬Trusted d .converter ∨ (d.sw .g).state ≠ .closed ∨ d.du.reportStale = true then 2
    else if d.standing .converter = .lapsed then 1 else 0 := by
  have forced : d.forced = true ↔ ¬Trusted d .converter ∨ (d.sw .g).state ≠ .closed ∨ d.du.reportStale = true := by
    simp [Device.forced, d.causeStanding_eq, d.breakerAway_eq, or_assoc]
  simp only [Device.dispatchMode, forced]
  split
  · rfl
  · split <;> rfl

theorem Device.forcingCode_shown (d : Device) : ((d.forcingCode : Nat) : Int) = (if ¬Trusted d .converter then 1 else 0) +
    (if (d.sw .g).state ≠ .closed then 2 else 0) + (if d.du.reportStale = true then 4 else 0) := by
  simp only [Device.forcingCode, d.causeStanding_eq, d.breakerAway_eq, Nat.cast_add, Nat.cast_mul, boolNat_int, decide_eq_true_eq,
    mul_ite, mul_one, mul_zero]
  rfl

theorem shown5_shows (d : Device) : Shows 7 14 d.duRead5 (shown5 d) := by
  cases hs : d.du.source <;> simp [shown5, Device.duRead5, hs, d.dispatchMode_shown, d.forcingCode_shown]

theorem shown4_shows (d : Device) : Shows 0 64 d.env.read (shown4 d) := by
  refine .append (.append (.append ?_ (.flatMap fun k _ => ?_)) (.map fun k hk => ?_)) (.flatMap fun n _ => ?_)
  · simp [Env.read, setCode_filter, termCode]
  · cases k <;> simp [Env.read, Term.num, Term.all]
  · have hk := List.mem_range.mp hk
    interval_cases k <;> simp [Env.read]
  · cases n <;> simp [Env.read, StringId.num, StringId.ofNum, Contribution.read, boolNat_int]

theorem Device.swcRead_switch (d : Device) (n : SwitchId) {o : Nat} (h : o < 8) : d.swcRead (8 * n.num + o) = (d.sw n).read o := by
  have block : SwitchId.ofNum ((8 * n.num + o) / 8) = some n := by
    rw [show (8 * n.num + o) / 8 = n.num by omega, SwitchId.ofNum_num]
  have offset : (8 * n.num + o) % 8 = o := by omega
  simp only [Device.swcRead, block, offset]

theorem Device.read7_switch {d : Device} {n : SwitchId} {o : Nat} {v : Int} (h : o < 8) (hv : (d.sw n).read o = v) :
    0 ≤ 8 * n.num + o ∧ 8 * n.num + o < 51 ∧ d.read7 (8 * n.num + o) = v := by
  have last : n.num ≤ 4 := by cases n <;> decide
  refine ⟨Nat.zero_le _, by omega, ?_⟩
  rw [Device.read7, if_neg (by omega), d.swcRead_switch n h, hv]

theorem shown7_shows (d : Device) : Shows 0 51 d.read7 (shown7 d) := by
  refine .append (.flatMap fun n _ => ?_) ?_
  · have item := @Device.read7_switch d n
    generalize d.sw n = r at item ⊢
    refine shows_cons.mpr ⟨item (o := 0) (by decide) rfl, ?_⟩
    simp only [shows_cons, shows_nil, and_true]
    refine ⟨item ?_ ?_, item ?_ ?_, item ?_ ?_, item ?_ ?_, item ?_ ?_, item ?_ ?_, item ?_ ?_⟩
    all_goals rcases hs : r.selection with _ | ⟨holder, _ | _, left⟩ <;> cases ho : r.openDelay <;>
      simp [SwitchRec.read, Action.code, boolNat_int, hs, ho]
  · rcases hr : d.gwm.ride with _ | ⟨elapsed, _ | limit⟩ <;> cases ht : d.gwm.trip <;> cases hl : d.gwm.last <;>
      simp [Device.read7, Device.swcRead, Gwm.read, SwitchId.ofNum, RideTimer.left, TripTimer.left, boolNat_int, hr, ht, hl]

end Sys2Proof.Machine

end

section
/-! SUPPORT. Tables 12 and 14 as they are read (R37, R124, R142, R152, R160, R172, R180). -/

namespace Sys2Proof.Machine

/-! ## Table 12 (R172) -/

theorem shown12_shows (d : Device) (p : Port) : ∀ x ∈ shown12 d p,
    x.index ≠ 1 ∧ x.index ≠ 2 ∧ x.index < 40 ∧ d.evr.read p x.index = .ok x.value := by
  refine List.forall_mem_append.mpr ⟨?_, List.forall_mem_map.mpr fun c _ => ?_⟩
  · cases hq : d.evr.queue <;> simp [Evr.read, hq, List.getLast?_cons]
  · have bound : c.num < 24 := by cases c <;> decide
    refine ⟨?_, ?_, ?_, ?_⟩
    · change 16 + c.num ≠ 1; omega
    · change 16 + c.num ≠ 2; omega
    · change 16 + c.num < 40; omega
    · cases c <;> rfl

/-! ## Table 14 (R37, R124, R142, R152, R160, R180) -/

theorem causesCode_shown (c : Causes) : ((causesCode c : Nat) : Int) = (if c.ovHard then 1 else 0) + (if c.uvHard then 2 else 0) +
    (if c.otHard then 4 else 0) + (if c.weld then 8 else 0) + (if c.recordLost then 16 else 0) := by
  simp [causesCode, boolNat_int]

theorem channelCode_shown (has : PerChannel Bool) : ((channelCode has : Nat) : Int) = setCode Channel.all Channel.num has.get := by
  rw [setCode_eq, channelCode]

theorem channelCode_ofFn (has : Channel → Bool) : ((channelCode (.ofFn has) : Nat) : Int) = setCode Channel.all Channel.num has := by
  simp [setCode_eq, channelCode]

theorem Csu.read_string (c : Csu) (n : StringId) {o : Nat} (h : o < 16) : c.read (16 * n.num + o) = (c.strings.get n).read o := by
  have block : StringId.ofNum ((16 * n.num + o) / 16) = some n := by
    rw [show (16 * n.num + o) / 16 = n.num by omega, StringId.ofNum_num]
  have offset : (16 * n.num + o) % 16 = o := by omega
  simp only [Csu.read, block, offset]

theorem shownCsu_shows (d : Device) : Shows 0 64 d.csu.read (shownCsu d) := by
  refine .flatMap fun n _ => ?_
  have item : ∀ {o : Nat} {v : Int}, o < 16 → (d.sup n).read o = v →
      0 ≤ 16 * n.num + o ∧ 16 * n.num + o < 64 ∧ d.csu.read (16 * n.num + o) = v := fun {o v} h hv =>
    ⟨Nat.zero_le _, by cases n <;> simp [StringId.num] <;> omega, (d.csu.read_string n h).trans hv⟩
  generalize d.sup n = u at item ⊢
  have failing := channelCode_shown u.failing
  refine .append (shows_cons.mpr ⟨item (o := 0) (by decide) rfl, ?_⟩) (.map fun k _ => ?_)
  · simp only [shows_cons, shows_nil, and_true]
    refine ⟨item ?_ ?_, item ?_ ?_, item ?_ ?_, item ?_ ?_, item ?_ ?_, item ?_ ?_, item ?_ ?_, item ?_ ?_⟩
    all_goals simp [StringSup.read, causesCode_shown, channelCode_ofFn, failing]
  · simp only [Nat.add_assoc]
    exact item (by cases k <;> decide) (by cases k <;> rfl)

theorem shownBal_shows (d : Device) : Shows 64 96 d.bal.read (shownBal d) := by
  refine .append ?_ (.map fun k hk => ?_)
  · rcases ho : d.bal.run.owner with _ | p <;> rcases hh : d.bal.history with _ | ⟨older, _ | ⟨newer, rest⟩⟩ <;>
      simp [Bal.read, Bal.older, boolNat_int, ho, hh]
  · have hk := List.mem_range.mp hk
    interval_cases k <;> simp [Bal.read]

theorem shownClc_shows (d : Device) : Shows 96 128 d.clcRead (shownClc d) := by
  refine .append (.append (.append ?_ (.flatMap fun c _ => ?_)) ?_) ?_
  · simp [Device.clcRead]
  · cases c <;> simp [Device.clcRead, Stage.num, seconds, PerStage.get]
  · simp [Device.clcRead, boolNat_int, Clc.available]
  · cases h : d.clc.supply <;> simp [Device.clcRead, h]

/-- A zone's confirmed state is the high half of its loop item. -/
theorem LoopRec.code_shown (l : LoopRec) : ((l.code : Nat) : Int) = l.confirmed.code * 16 + l.raw.code := by
  simp [LoopRec.code, mul_comm]

theorem Fgu.read_zone (g : Fgu) (z : Zone) {o : Nat} (h : o < 8) : g.read (128 + 8 * z.num + o) = g.zoneRead z o := by
  have block : Zone.ofNum ((128 + 8 * z.num + o - 128) / 8) = some z := by
    rw [show (128 + 8 * z.num + o - 128) / 8 = z.num by omega, Zone.ofNum_num]
  have offset : (128 + 8 * z.num + o) % 8 = o := by omega
  simp only [Fgu.read, block, offset]

theorem shownFgu_shows (d : Device) : Shows 128 160 d.fgu.read (shownFgu d) := by
  refine .append (.flatMap fun z _ => ?_) ?_
  · have item : ∀ {o : Nat} {v : Int}, o < 8 → d.fgu.zoneRead z o = v →
        128 ≤ 128 + 8 * z.num + o ∧ 128 + 8 * z.num + o < 160 ∧ d.fgu.read (128 + 8 * z.num + o) = v := fun {o v} h hv =>
      ⟨by omega, by cases z <;> simp [Zone.num] <;> omega, (d.fgu.read_zone z h).trans hv⟩
    have record : d.fgu.zones.get z = d.zone z := rfl
    refine shows_cons.mpr ⟨item (o := 0) (by decide) rfl, ?_⟩
    simp only [shows_cons, shows_nil, and_true]
    refine ⟨item ?_ ?_, item ?_ ?_, item ?_ ?_, item ?_ ?_, item ?_ ?_, item ?_ ?_, item ?_ ?_⟩
    case refine_10 => cases z <;> rfl
    all_goals simp [Fgu.zoneRead, record, ZoneRec.inTest, Option.isSome_iff_ne_none, boolNat_int, LoopRec.code_shown]
  · simp [Fgu.read, Zone.ofNum, boolNat_int]

theorem shownSdm_shows (d : Device) : Shows 160 192 d.sdm.read (shownSdm d) := by
  refine .append (.flatMap fun p _ => ?_) (.map fun k hk => ?_)
  · have read : ∀ o < 8, d.sdm.read (160 + 8 * p.num + o) = (d.port p).read o := fun o h => by
      interval_cases o <;> cases p <;> rfl
    have item : ∀ {o : Nat} {v : Int}, o < 8 → (d.port p).read o = v →
        160 ≤ 160 + 8 * p.num + o ∧ 160 + 8 * p.num + o < 192 ∧ d.sdm.read (160 + 8 * p.num + o) = v := fun {o v} h hv =>
      ⟨by omega, by cases p <;> simp [Port.num] <;> omega, (read o h).trans hv⟩
    generalize d.port p = r at item ⊢
    refine shows_cons.mpr ⟨item (o := 0) (by decide) rfl, ?_⟩
    simp only [shows_cons, shows_nil, and_true]
    refine ⟨item ?_ ?_, item ?_ ?_, item ?_ ?_, item ?_ ?_, item ?_ ?_, item ?_ ?_, item ?_ ?_⟩
    all_goals cases ht : r.token <;> simp [PortStanding.read, boolNat_int, ht]
  · have hk := List.mem_range.mp hk
    interval_cases k <;> simp [Sdm.read]

theorem tableCode_shown (has : PerTable Bool) : ((tableCode has : Nat) : Int) = setCode StoredTable.all StoredTable.num has.get := by
  simp [setCode_eq, tableCode]

theorem releasedCode_shown (has : PerZone Bool) :
    (((boolNat has.z0 + 2 * boolNat has.z1 + 4 * boolNat has.z2 : Nat)) : Int) = setCode Zone.all Zone.num has.get := by
  simp [setCode_eq, Zone.all, Zone.num, PerZone.get, mul_comm, add_assoc]

theorem shownSto_shows (d : Device) : Shows 192 203 d.sto.read (shownSto d) := by
  refine .append ?_ (.map fun n _ => ?_)
  · rcases hr : d.sto.restart with _ | _ | _ <;> cases he : d.sto.engine <;>
      simp [Sto.read, hr, he, boolNat_int, Engine.code, Engine.storingNum, restartCode, tableCode_shown, ← releasedCode_shown]
  · cases n <;> exact ⟨by simp [StringId.num], by simp [StringId.num], causesCode_shown _⟩

end Sys2Proof.Machine

end

section
/-! SUPPORT. READ, row by row (R57, R60, R165). -/

namespace Sys2Proof.Machine

/-! ## The status tables as READ answers them -/

theorem shownClc_stated (d : Device) : ∀ x ∈ shownClc d, d.clc.readStated x.index = true := by
  cases h : d.clc.supply with
  | some t => exact fun x _ => by simp [Clc.readStated, h]
  | none =>
    have away : ∀ x ∈ shownClc d, ¬(120 ≤ x.index ∧ x.index ≤ 122) := by
      simp [shownClc, h, Stage.all, Stage.num]
    exact fun x hx => by
      have := away x hx
      simp only [Clc.readStated, Bool.not_eq_true', Bool.and_eq_false_iff, decide_eq_false_iff_not]
      omega

/-- Table 14 is the items of its six owners, each with the indexes of its own. -/
theorem shown14_shows (d : Device) (p : Port) : Shows 0 203 d.read14 (statusItems d p 14) ∧
    ∀ x ∈ statusItems d p 14, d.clc.readStated x.index = true := by
  have away : ∀ {lo hi : Nat} {read : Nat → Int} {xs : List Shown}, Shows lo hi read xs → hi ≤ 120 ∨ 122 < lo →
      ∀ x ∈ xs, d.clc.readStated x.index = true := fun h out x hx => by
    have := h x hx
    simp only [Clc.readStated, Bool.not_eq_true', Bool.and_eq_false_iff, decide_eq_false_iff_not]
    omega
  have csu := shownCsu_shows d
  have bal := shownBal_shows d
  have clc := shownClc_shows d
  have fgu := shownFgu_shows d
  have sdm := shownSdm_shows d
  have sto := shownSto_shows d
  have within : ∀ {lo hi : Nat} {read : Nat → Int} {xs : List Shown}, Shows lo hi read xs → hi ≤ 203 →
      (∀ i, lo ≤ i → i < hi → d.read14 i = read i) → Shows 0 203 d.read14 xs := fun h hhi hr =>
    (h.congr hr).mono (Nat.zero_le _) hhi
  constructor
  · refine .append (.append (.append (.append (.append
      (within csu (by decide) fun i _ hi => ?_) (within bal (by decide) fun i lo hi => ?_)) (within clc (by decide) fun i lo hi => ?_))
      (within fgu (by decide) fun i lo hi => ?_)) (within sdm (by decide) fun i lo hi => ?_)) (within sto (by decide) fun i lo _ => ?_)
    · rw [Device.read14, if_pos hi]
    · rw [Device.read14, if_neg (by omega), if_pos hi]
    · rw [Device.read14, if_neg (by omega), if_neg (by omega), if_pos hi]
    · rw [Device.read14, if_neg (by omega), if_neg (by omega), if_neg (by omega), if_pos hi]
    · rw [Device.read14, if_neg (by omega), if_neg (by omega), if_neg (by omega), if_neg (by omega), if_pos hi]
    · rw [Device.read14, if_neg (by omega), if_neg (by omega), if_neg (by omega), if_neg (by omega), if_neg (by omega)]
  · simp only [statusItems, List.forall_mem_append]
    exact ⟨⟨⟨⟨⟨away csu (by decide), away bal (by decide)⟩, shownClc_stated d⟩, away fgu (by decide)⟩,
      away sdm (by decide)⟩, away sto (by decide)⟩

/-- Every item of a status table other than 12 is one that exists, and reads as it is shown. -/
theorem statusItems_read {d : Device} {p : Port} {table : Nat} {x : Shown} (h : x ∈ statusItems d p table) (ht : table ≠ 12) :
    x.index < itemCount table ∧ d.readItem ⟨table, x.index⟩ = x.value ∧ (table = 14 → d.clc.readStated x.index = true) := by
  have other : ∀ {lo : Nat} {read : Nat → Int} {xs : List Shown}, table ≠ 14 → Shows lo (itemCount table) read xs → x ∈ xs →
      (lo ≤ x.index → d.readItem ⟨table, x.index⟩ = read x.index) →
      x.index < itemCount table ∧ d.readItem ⟨table, x.index⟩ = x.value ∧ (table = 14 → d.clc.readStated x.index = true) :=
    fun h14 hs hx hr =>
      have ⟨lo, hi, hv⟩ := hs x hx
      ⟨hi, (hr lo).trans hv, fun h => absurd h h14⟩
  unfold statusItems at h
  split at h
  case h_1 => exact other (by decide) shown0_shows h fun _ => rfl
  case h_2 => exact other (by decide) (shown1_shows d) h fun _ => rfl
  case h_3 => exact other (by decide) (shown4_shows d) h fun _ => rfl
  case h_4 => exact other (by decide) (shown5_shows d) h fun lo => if_neg (Nat.not_le.mpr lo)
  case h_5 => exact other (by decide) (shown6_shows d) h fun _ => rfl
  case h_6 => exact other (by decide) (shown7_shows d) h fun _ => rfl
  case h_7 => exact absurd rfl ht
  case h_8 =>
    obtain ⟨shows', stated⟩ := shown14_shows d p
    exact ⟨(shows' x h).2.1, (shows' x h).2.2, fun _ => stated x h⟩
  case h_9 => cases h

/-! ## READ, row by row (R165) -/

section
variable {d : Device} {p : Port} {table index : Nat} {r : ItemRef}

theorem Device.canRead_iff (d : Device) (p : Port) (table : Nat) :
    d.canRead p table = true ↔ d.item .t13 (3 * table + p.num) = 1 ∨ MayWrite d p table := by
  simp [Device.canRead, Device.right, MayWrite]

theorem portRead_unknown (hr : (ItemRef.mk table index).resolve = r) (h : itemCount r.table ≤ r.index) :
    portRead p table index d = (d, .no .unknownItem) := by
  simp [portRead, hr, ItemRef.known, Nat.not_lt.mpr h]

theorem portRead_denied (hr : (ItemRef.mk table index).resolve = r) (h : r.index < itemCount r.table)
    (own : ¬(r.table = 12 ∧ (r.index = 1 ∨ r.index = 2))) (may : d.canRead p r.table = false) :
    portRead p table index d = (d, .no .denied) := by
  simp only [portRead, hr, ItemRef.known, h, decide_true, Bool.not_true, Bool.false_eq_true, ↓reduceIte, own, may, Bool.not_false]

theorem portRead_owner (hr : (ItemRef.mk table index).resolve = r) (h : r.index < itemCount r.table)
    (may : r.table = 12 ∧ (r.index = 1 ∨ r.index = 2) ∨ d.canRead p r.table = true) :
    portRead p table index d = d.ownerRead p r := by
  have known : (!decide (r.index < itemCount r.table)) = false := by simp [h]
  by_cases own : r.table = 12 ∧ (r.index = 1 ∨ r.index = 2)
  · simp only [portRead, hr, ItemRef.known, known, Bool.false_eq_true, ↓reduceIte, if_pos own]
  · simp only [portRead, hr, ItemRef.known, known, Bool.false_eq_true, ↓reduceIte, if_neg own, may.resolve_left own, Bool.not_true]

theorem ownerRead_events (h : r.table = 12) : d.ownerRead p r = (d, d.evr.read p r.index) := by simp [Device.ownerRead, h]

theorem ownerRead_item (h12 : r.table ≠ 12) (hg : r ≠ ⟨4, 2⟩) (stated : r.table = 14 → d.clc.readStated r.index = true) :
    d.ownerRead p r = (d, .ok (d.readItem r)) := by
  have stated : ¬(r.table = 14 ∧ (!d.clc.readStated r.index) = true) := fun ⟨h, h'⟩ => by simp [stated h] at h'
  simp only [Device.ownerRead, h12, stated, ↓reduceIte, Device.when, beq_iff_eq, hg]

/-- A READ of an item other than the generation changes nothing and answers OK. -/
theorem ownerRead_ok (h12 : r.table ≠ 12) (hg : r ≠ ⟨4, 2⟩) : ∃ v, d.ownerRead p r = (d, ⟨.ok, v⟩) := by
  by_cases stated : r.table = 14 → d.clc.readStated r.index = true
  · exact ⟨_, ownerRead_item h12 hg stated⟩
  · obtain ⟨h, h'⟩ := Classical.not_imp.mp stated
    exact ⟨none, by simp [Device.ownerRead, h, h', Answer.done]⟩

end

/-- The settings items of a table, by their number. -/
theorem readItem_setting (d : Device) {t : StoredTable} {i : Nat} (h : i < (factory t).length) :
    i < itemCount t.num ∧ t.num ≠ 12 ∧ t.num ≠ 14 ∧ d.readItem ⟨t.num, i⟩ = d.item t i := by
  have bound : (factory t).length ≤ itemCount t.num := by cases t <;> decide
  refine ⟨h.trans_le bound, ?_⟩
  cases t with
  | t5 => exact ⟨by decide, by decide, if_pos (Nat.le_of_lt_succ h)⟩
  | t13 => exact ⟨by decide, by decide, if_neg (Nat.ne_of_lt h)⟩
  | _ => exact ⟨by decide, by decide, rfl⟩

/-- The item that a READ of the address names, as the statement of `ReadAnswersByTheMap` has it (R60). -/
theorem resolve_frame (f : ItemFrame) :
    let windowed := f.table = 2 ∧ 40 ≤ f.index.toNat ∧ f.index.toNat ≤ 63
    (ItemRef.mk f.table.toNat f.index.toNat).resolve =
      ⟨if windowed then 3 else f.table.toNat, if windowed then f.index.toNat - 40 else f.index.toNat⟩ := by
  have table : f.table.toNat = 2 ↔ f.table = 2 := ⟨fun h => BitVec.eq_of_toNat_eq h, fun h => by rw [h]; rfl⟩
  simp only [ItemRef.resolve, table]
  split <;> rfl

/-- A READ that a well-formed frame makes is never that of the generation, which is GENERATION_READ's. -/
theorem resolve_not_generation {f : ItemFrame} (h : f.wfRead = true) :
    (ItemRef.mk f.table.toNat f.index.toNat).resolve ≠ ⟨4, 2⟩ := by
  intro e
  unfold ItemRef.resolve at e
  split at e
  · cases e
  · have table : f.table = 4 := BitVec.eq_of_toNat_eq (congrArg ItemRef.table e)
    have index : f.index = 2 := BitVec.eq_of_toNat_eq (congrArg ItemRef.index e)
    simp [ItemFrame.wfRead, table, index] at h

/-- An answer that is a narrower word. -/
theorem Answer.ok_ofNat {w : Nat} (x : BitVec w) : Answer.ok (x.toNat : Int) = ⟨.ok, some (x.setWidth 32)⟩ := by
  simp [Answer.ok, word]

/-- A request whose owner changes nothing: its answer is the next reply. -/
theorem request_answers {s : State} {p : Port} {f : Frame} {act : Device → Device × Answer}
    (hrun : (s.dev.link p).running = true) (hchk : f.check = crc8 f.body) {a : Answer}
    (hact : act (s.dev.clockOut p) = (s.dev.clockOut p, a)) :
    Replies s (s.on (·.request p f act)) p f.kind a.result a.value s.dev :=
  request_replies hrun hchk s.dev a rfl hact

end Sys2Proof.Machine

section
open Sys2Proof Sys2Proof.Machine

/-- Settles O17: the rows of READ one by one; each table's items by its reading. -/
theorem readAnswersByTheMap : Obligations.ReadAnswersByTheMap := by
  refine ⟨fun p f s hwf h => ?_, fun p f s h => ?_⟩
  · obtain ⟨_, hr, hrun, hchk⟩ := h
    cases hr
    refine ⟨_, rfl, ?_⟩
    intro windowed tb i own may
    have resolved : (ItemRef.mk f.table.toNat f.index.toNat).resolve = ⟨tb, i⟩ := resolve_frame f
    have generation : (⟨tb, i⟩ : ItemRef) ≠ ⟨4, 2⟩ := resolved ▸ resolve_not_generation hwf
    have allowed : may ↔ (s.dev.clockOut p).canRead p tb = true := (Device.canRead_iff (s.dev.clockOut p) p tb).symm
    have answers : ∀ {a : Answer}, portRead p f.table.toNat f.index.toNat (s.dev.clockOut p) = (s.dev.clockOut p, a) →
        Replies s (s.on (·.request p (f.frame kindRead) (portRead p f.table.toNat f.index.toNat))) p 1 a.result a.value s.dev :=
      fun ha => request_answers hrun hchk ha
    have owner : i < itemCount tb → own ∨ may →
        portRead p f.table.toNat f.index.toNat (s.dev.clockOut p) = (s.dev.clockOut p).ownerRead p ⟨tb, i⟩ :=
      fun hi hm => portRead_owner resolved hi (hm.imp_right allowed.mp)
    have item : ∀ {v : Int}, i < itemCount tb → tb ≠ 12 → (tb = 14 → (s.dev.clockOut p).clc.readStated i = true) →
        (s.dev.clockOut p).readItem ⟨tb, i⟩ = v → may →
        Replies s (s.on (·.request p (f.frame kindRead) (portRead p f.table.toNat f.index.toNat))) p 1 .ok
          (some (BitVec.ofInt 32 v)) s.dev :=
      fun hi h12 stated hv hmay =>
        answers ((owner hi (.inr hmay)).trans ((ownerRead_item h12 generation stated).trans (by rw [hv])))
    refine ⟨fun hi => ?_, fun h12 h1 => ?_, fun h12 h2 => ?_, fun hi hown hmay => ?_, fun hi hmay h12 => ?_, fun x hx hi hmay => ?_,
      fun x hx hi hmay => ?_, fun h13 h48 hmay => ?_⟩
    · exact answers (portRead_unknown resolved hi)
    · have read : (s.dev.clockOut p).evr.read p i = ⟨.ok, some ((s.dev.evr.masks.get p).setWidth 32)⟩ := by
        rw [h1]; exact Answer.ok_ofNat _
      exact answers ((owner (by rw [h12, h1]; decide) (.inl ⟨h12, .inl h1⟩)).trans
        ((ownerRead_events h12).trans (congrArg (Prod.mk _) read)))
    · have read : (s.dev.clockOut p).evr.read p i = ⟨.ok, some (s.dev.evr.cursors.get p)⟩ := by rw [h2]; rfl
      exact answers ((owner (by rw [h12, h2]; decide) (.inl ⟨h12, .inr h2⟩)).trans
        ((ownerRead_events h12).trans (congrArg (Prod.mk _) read)))
    · exact answers (portRead_denied resolved hi hown (Bool.eq_false_iff.mpr (mt allowed.mpr hmay)))
    · obtain ⟨v, hv⟩ := ownerRead_ok (d := s.dev.clockOut p) (p := p) (r := ⟨tb, i⟩) h12 generation
      exact ⟨v, answers ((owner hi (.inr hmay)).trans hv)⟩
    · obtain ⟨known, h12, h14, read⟩ := readItem_setting (s.dev.clockOut p) hi
      rw [hx] at known h12 h14 read
      exact item known h12 (fun h => absurd h h14) read hmay
    · by_cases h12 : tb = 12
      · rw [h12] at hx
        obtain ⟨-, -, known, read⟩ := shown12_shows (s.dev.clockOut p) p x hx
        rw [hi] at known read
        exact answers ((owner (h12 ▸ known) (.inr hmay)).trans ((ownerRead_events h12).trans (congrArg (Prod.mk _) read)))
      · obtain ⟨known, read, stated⟩ := statusItems_read (d := s.dev.clockOut p) hx h12
        rw [hi] at known read stated
        exact item known h12 stated read hmay
    · have shown := item (v := boolNat s.dev.pif.mapLock) (by rw [h13, h48]; decide) (by rw [h13]; decide)
        (fun h => absurd (h13.symm.trans h) (by decide)) (by rw [h13, h48]; rfl) hmay
      cases hl : s.dev.pif.mapLock <;> rw [hl] at shown <;> exact shown
  · obtain ⟨_, hr, hrun, hchk⟩ := h
    cases hr
    have resolved : (ItemRef.mk 4 2).resolve = ⟨4, 2⟩ := rfl
    have allowed := Device.canRead_iff (s.dev.clockOut p) p 4
    refine ⟨_, rfl, fun may => ?_, fun may => ?_⟩
    · have read : (s.dev.clockOut p).ownerRead p ⟨4, 2⟩ = ((s.dev.clockOut p).clearGenerationFlag p,
          ⟨.ok, some (s.dev.env.generation.setWidth 32)⟩) := congrArg (Prod.mk _) (Answer.ok_ofNat s.dev.env.generation)
      exact request_replies hrun hchk { s.dev with env := { s.dev.env with changed := s.dev.env.changed.set p false } } _ rfl
        ((portRead_owner resolved (by decide) (.inr (allowed.mpr may))).trans read)
    · exact request_refuses hrun hchk .denied
        (portRead_denied resolved (by decide) (by decide) (Bool.eq_false_iff.mpr (mt allowed.mp may)))

end

end

section
/-! SUPPORT. Which blocks a command that is no request may change. -/

namespace Sys2Proof.Machine

-- Bodies elaborated side by side would each hold a thread while a default argument waits for the kernel.
set_option Elab.async false

/-! ## The meanings of the events: the queue stays, and at most the blocks named differ -/

/-- A meaning answers a next state with the queue as it was, and changes at most the blocks bs. -/
def Completes (bs : List Block) (s : State) (o : Out) : Prop := ∃ d, o = .next ⟨s.pending, d⟩ ∧ Only bs s.dev d

theorem Completes.of {bs : List Block} {s : State} {f : Device → Device} (h : Only bs s.dev (f s.dev)) :
    Completes bs s (s.next f) := ⟨_, rfl, h⟩

theorem withPins_only (d : Device) (x : Pins) : Only [.pins] d { d with pins := x } := by
  intro b hb; cases b <;> first | rfl | simp at hb

theorem withSlc_only (d : Device) (x : Slc) : Only [.slc] d { d with slc := x } := by
  intro b hb; cases b <;> first | rfl | simp at hb

theorem withEvr_only (d : Device) (x : Evr) : Only [.evr] d { d with evr := x } := by
  intro b hb; cases b <;> first | rfl | simp at hb

theorem withPif_only (d : Device) (x : Pif) : Only [.pif] d { d with pif := x } := by
  intro b hb; cases b <;> first | rfl | simp at hb

section
variable (s : State)

/-! ### Resets and links -/

theorem execLinkResetAssert_completes (p : Port) : Completes [.pif] s (execLinkResetAssert p s) :=
  .of ((Only.refl _ _).modLink _ _)

theorem execIncompleteTransfer_completes (p : Port) : Completes [.pif] s (execIncompleteTransfer p s) :=
  .of ((Only.refl _ _).when _ _ fun _ h => h.clockOut _)

theorem execPortReset_completes (p : Port) : Completes [.handoffs, .env, .du, .swc, .sdm, .pif, .evr] s (execPortReset p s) :=
  .of (((((Only.refl _ _).modLink _ _).trans ((withEvr_only _ _).mono (by decide))).modEnv _).dropSelections _ |>.readmit _)

theorem execPowerOnReset_completes : Completes (touches .powerOnReset) s (execPowerOnReset s) :=
  .of fun b hb => by
    have pins : s.dev.powerOn.pins = s.dev.pins := s.dev.powerOn_eq ▸ (Device.startBlocks_keeps s.dev.loaded_ready).pins
    cases b with
    | pins => exact pins
    | _ => simp [touches] at hb

theorem execWarmRestart_completes : Completes restartTouches s (execWarmRestart s) := .of (settle_only _)

/-! ### SLC -/

theorem execLinkSlot_completes : Completes [.slc] s (execLinkSlot s) := by
  refine .of ?_
  dsimp only
  split
  · exact withSlc_only _ _
  · exact (identitySlot_only s.dev).trans (withSlc_only _ _)

theorem execScanRecord_completes (x : Exchange) (a : LinkAnswer ScanRecord) :
    Completes [.handoffs, .slc] s (execScanRecord x a s) := by
  refine .of ((Only.refl _ _).answered _ _ fun y h => ?_)
  split
  · exact .ite _ (h.acceptScan _ _) (h.discardString _)
  · exact h.discard _

theorem execBusRecord_completes (x : Exchange) (a : LinkAnswer BusRecord) :
    Completes [.handoffs, .slc] s (execBusRecord x a s) := by
  refine .of ((Only.refl _ _).answered _ _ fun y h => ?_)
  split
  · exact .ite _ (h.acceptBus _) h.discardBus
  · exact h.discard _

theorem execIdentityRecord_completes (x : Exchange) (a : LinkAnswer Identity) :
    Completes [.handoffs, .slc] s (execIdentityRecord x a s) := by
  refine .of ((Only.refl _ _).answered _ _ fun y h => ?_)
  split
  · exact .ite _ (h.acceptIdentity _ _) (h.discardString _)
  · exact h.discard _

theorem execIdentityTimerExpiry_completes (n : StringId) : Completes [.handoffs, .slc] s (execIdentityTimerExpiry n s) :=
  .of ((Only.refl _ _).when _ _ fun _ h => .ite _ ((h.modMonitor _ _).joinList _) ((h.modMonitor _ _).unrecognize _ _))

theorem execStaleExpiry_completes (n : StringId) : Completes [.handoffs, .slc] s (execStaleExpiry n s) := by
  refine .of ?_
  dsimp only
  split
  · exact (Only.refl _ _).when _ _ fun _ h => (h.modMonitor _ _).post _
  · exact .refl _ _

theorem execMonitorLoss_completes (n : StringId) : Completes [.handoffs, .slc] s (execMonitorLoss n s) :=
  .of ((Only.refl _ _).when _ _ fun _ h => ((((h.modMonitor _ _).leaveList _).raise _ _ _).post _).post _ |>.post _)

theorem execBusStaleOnset_completes : Completes [.handoffs, .slc] s (execBusStaleOnset s) :=
  .of ((Only.refl _ _).when _ _ fun _ h => ((h.trans ((withSlc_only _ _).mono (by decide))).post _).post _)

/-! ### CSU -/

theorem execCsuEvaluation_completes (n : StringId) (c : CsuDelivery) :
    Completes [.handoffs, .csu] s (execCsuEvaluation n c s) := by
  cases c with
  | full r gap => exact .of (((Only.refl _ _).took _).evaluateFull _ _ _)
  | hardOnly r => exact .of (((Only.refl _ _).took _).evaluateHard _ _)
  | staleExpiry => exact .of (((Only.refl _ _).took _).evaluateStale _)

theorem execMonitorStateReport_completes (n : StringId) : Completes [.handoffs, .csu] s (execMonitorStateReport n s) :=
  .of (((Only.refl _ _).took _).deriveHealthAlone _)

theorem execWeldReport_completes (n : StringId) : Completes [.handoffs, .csu] s (execWeldReport n s) :=
  .of ((((Only.refl _ _).took _).addCause _ _).deriveHealthAlone _)

/-! ### ENV and DU -/

theorem execEnvelopeRecomputation_completes (i : EnvInput) :
    Completes [.handoffs, .env, .du] s (execEnvelopeRecomputation i s) :=
  .of ((((Only.refl _ _).took _).modEnv _).envRecompute)

theorem execRampStep_completes : Completes [.du] s (execRampStep s) :=
  .of ((Only.refl _ _).when _ _ fun _ h => (h.modDu _).duRefresh)

theorem execReportStaleExpiry_completes : Completes [.handoffs, .du] s (execReportStaleExpiry s) :=
  .of ((Only.refl _ _).when _ _ fun _ h => (h.modDu _).when _ _ fun _ k => ((k.modDu _).duRefresh).raise _ _ _)

theorem execOverrunExpiry_completes : Completes [.handoffs, .du] s (execOverrunExpiry s) :=
  .of ((Only.refl _ _).when _ _ fun _ h => ((h.modDu _).raise _ _ _).post _)

theorem execSiteStandingHandoff_completes (st : Standing) : Completes [.handoffs, .du] s (execSiteStandingHandoff st s) :=
  .of ((((Only.refl _ _).took _).modDu _).duOrder.duRefresh)

/-! ### SWC -/

theorem execFeedbackChange_completes (n : SwitchId) (shut : Bool) :
    Completes [.handoffs, .pins, .swc, .du] s (execFeedbackChange n shut s) := by
  refine .of ((Only.refl _ _).when _ _ fun x h => ?_)
  have pins := h.trans ((withPins_only x { x.pins with feedback := x.pins.feedback.set n shut }).mono (by decide))
  refine Only.swcEnd ?_
  split
  · exact pins.weld _
  · exact pins.weld _
  · exact ((pins.changeState _ _ _).modSw _ _).raise _ _ _
  · exact pins.failOpen _ _
  · exact pins.finishOpen _
  · exact (pins.changeState _ _ _).raise _ _ _
  · exact pins

theorem execPrechargeExpiry_completes (n : StringId) : Completes [.handoffs, .swc, .du] s (execPrechargeExpiry n s) :=
  .of ((Only.refl _ _).when _ _ fun _ h => (h.failOpen _ _).swcEnd)

theorem execCloseFeedbackExpiry_completes (n : SwitchId) :
    Completes [.handoffs, .swc, .du] s (execCloseFeedbackExpiry n s) :=
  .of ((Only.refl _ _).when _ _ fun _ h => (h.failOpen _ _).swcEnd)

theorem execOpenFeedbackExpiry_completes (n : SwitchId) :
    Completes [.handoffs, .swc, .du] s (execOpenFeedbackExpiry n s) :=
  .of ((Only.refl _ _).when _ _ fun _ h => (h.weld _).swcEnd)

theorem execOpenDelayExpiry_completes (n : StringId) : Completes [.handoffs, .swc, .du] s (execOpenDelayExpiry n s) :=
  .of ((Only.refl _ _).when _ _ fun _ h => (h.forceOpen _).swcEnd)

theorem execSelectExpiry_completes (n : SwitchId) : Completes [.swc] s (execSelectExpiry n s) :=
  .of ((Only.refl _ _).when _ _ fun _ h => (h.dropSelection _).setResult _ _)

theorem execIsolationTimerExpiry_completes : Completes [.handoffs, .swc, .du] s (execIsolationTimerExpiry s) :=
  .of ((Only.refl _ _).when _ _ fun _ h => ((h.modSwc _).forceOpen _).swcEnd)

theorem execIsolationConverterReport_completes (kw : Int) :
    Completes [.handoffs, .swc, .du] s (execIsolationConverterReport kw s) :=
  .of (((Only.refl _ _).took _).when _ _ fun _ h => ((h.modSwc _).forceOpen _).swcEnd)

theorem execSwcScanRecord_completes (n : StringId) (i v : Int) :
    Completes [.handoffs, .swc, .du] s (execSwcScanRecord n i v s) :=
  .of (((((Only.refl _ _).took _).modSwc _).when _ _ fun _ h => h.forceOpen _).swcEnd)

theorem execSwcBusRecord_completes (dc : Int) : Completes [.handoffs, .swc, .du] s (execSwcBusRecord dc s) :=
  .of (((((Only.refl _ _).took _).modSwc _).each _ _ fun _ _ h => h.judgeMatch _).swcEnd)

theorem execSwcMonitorLoss_completes (n : StringId) : Completes [.handoffs, .swc, .du] s (execSwcMonitorLoss n s) :=
  .of (((((Only.refl _ _).took _).modSwc _).when _ _ fun _ h => h.modSw _ _).swcEnd)

theorem execSwcBusStale_completes : Completes [.handoffs, .swc, .du] s (execSwcBusStale s) :=
  .of ((((Only.refl _ _).took _).modSwc _).swcEnd)

theorem execHealthHandoffSwc_completes (n : StringId) (h : Health) :
    Completes [.handoffs, .swc, .du] s (execHealthHandoffSwc n h s) :=
  have held := ((Only.refl [.handoffs, .swc, .du] s.dev).took (.healthHandoffSwc n h)).modSwc
    fun c => { c with health := c.health.set n h }
  .of (Only.ite _ (held.forceOpen _) (.ite _ (held.softTrip _ _) held)).swcEnd

theorem execFireStageHandoffSwc_completes (st : FireStage) :
    Completes [.handoffs, .swc, .du] s (execFireStageHandoffSwc st s) :=
  .of (((((Only.refl _ _).took _).modSwc _).when _ _ fun _ h => h.each _ _ fun _ _ k => k.forceOpen _).swcEnd)

theorem execForcedOpen_completes : Completes [.handoffs, .swc, .du] s (execForcedOpen s) :=
  .of ((((Only.refl _ _).took _).forceOpen _).swcEnd)

theorem execGridWindowHandoffSwc_completes (st : WindowState) :
    Completes [.handoffs, .swc, .du] s (execGridWindowHandoffSwc st s) :=
  .of ((((Only.refl _ _).took _).modSwc _).swcEnd)

/-! ### GWM -/

theorem execGridRecord_completes (r : BusRecord) : Completes [.handoffs, .gwm] s (execGridRecord r s) :=
  .of ((((Only.refl _ _).took _).modGwm _).windowRecord _)

theorem execGwmBusStale_completes : Completes [.handoffs, .gwm] s (execGwmBusStale s) := by
  have stale := ((Only.refl [.handoffs, .gwm] s.dev).took .gwmBusStale).modGwm fun g => { g with busStale := true }
  refine .of ?_
  dsimp only
  split
  · exact stale.fullHoldOff _
  · exact stale.losePermission
  · exact (stale.stopGridTimers.setWindow _).staleDelay
  · exact stale.staleDelay
  · exact stale

theorem execBreakerReportGwm_completes (st : SwitchState) : Completes [.handoffs, .gwm] s (execBreakerReportGwm st s) := by
  have heard := ((Only.refl [.handoffs, .gwm] s.dev).took (.breakerReportGwm st)).modGwm fun g => { g with breaker := st }
  refine .of ?_
  dsimp only
  split
  · exact heard.postIf _ _
  · exact heard.when _ _ fun _ h => h.setWindow _
  all_goals exact heard.when _ _ fun _ h => h.enterHoldOff

theorem execHoldOffExpiry_completes : Completes [.handoffs, .gwm] s (execHoldOffExpiry s) :=
  .of ((Only.refl _ _).when _ _ fun _ h => ((h.modGwm _).raise _ _ _).setWindow _)

theorem execRideThroughExpiry_completes : Completes [.handoffs, .gwm] s (execRideThroughExpiry s) :=
  .of ((Only.refl _ _).when _ _ fun _ h => h.gridTrip _)

theorem execTripDelayExpiry_completes : Completes [.handoffs, .gwm] s (execTripDelayExpiry s) := by
  refine .of ?_
  split
  · exact (Only.refl _ _).when _ _ fun _ h => h.gridTrip _
  · exact .refl _ _

/-! ### CLC -/

theorem execCoolingSample_completes (supply ret ambient : Int) :
    Completes [.handoffs, .pins, .clc] s (execCoolingSample supply ret ambient s) := by
  have taken := (Only.refl [.handoffs, .pins, .clc] s.dev).sampleInputs supply ret ambient
  refine .of (Only.deriveOutputs (Only.formPump ?_))
  split
  · exact ((taken.sampleValid _ _).formThermal).setHold _
  · exact taken.sampleBlind.formThermal

theorem execRunFeedbackChange_completes (c : Stage) (running : Bool) :
    Completes [.pins, .clc] s (execRunFeedbackChange c running s) :=
  .of ((Only.refl _ _).when _ _ fun _ h => (h.trans ((withPins_only _ _).mono (by decide))).when _ _ fun _ k => k.modStage _ _)

theorem execFlowSwitchChange_completes (flow : Bool) : Completes [.pins, .clc] s (execFlowSwitchChange flow s) := by
  refine .of ((Only.refl _ _).when _ _ fun x h => Only.deriveOutputs ?_)
  have pins := h.trans ((withPins_only x { x.pins with flow := flow }).mono (by decide))
  split
  · exact pins.modClc _
  · exact pins.modClc _
  · exact pins.modClc _
  · exact pins.when _ _ fun _ k => k.tryFlow
  · exact pins.when _ _ fun _ k => k.waitFlow
  · exact pins

theorem execExhaustFeedbackChange_completes (running : Bool) :
    Completes [.pins, .clc] s (execExhaustFeedbackChange running s) :=
  .of ((Only.refl _ _).when _ _ fun _ h => (h.trans ((withPins_only _ _).mono (by decide))).modClc _)

theorem execRetryExpiry_completes : Completes [.clc] s (execRetryExpiry s) :=
  .of ((Only.refl _ _).when _ _ fun _ h => h.tryFlow.deriveOutputs)

theorem execTryExpiry_completes : Completes [.clc] s (execTryExpiry s) :=
  .of ((Only.refl _ _).when _ _ fun _ h => h.waitFlow.deriveOutputs)

theorem execRunFeedbackExpiry_completes (c : Stage) : Completes [.handoffs, .clc] s (execRunFeedbackExpiry c s) :=
  .of ((Only.refl _ _).when _ _ fun _ h => (((h.modStage _ _).raise _ _ _).raise _ _ _).formThermal.deriveOutputs)

theorem execFlowConfirmExpiry_completes : Completes [.handoffs, .clc] s (execFlowConfirmExpiry s) :=
  .of ((Only.refl _ _).when _ _ fun _ h => h.flowFault _)

theorem execFlowLossExpiry_completes : Completes [.handoffs, .clc] s (execFlowLossExpiry s) :=
  .of ((Only.refl _ _).when _ _ fun _ h => h.flowFault _)

theorem execProvingExpiry_completes : Completes [.handoffs, .clc] s (execProvingExpiry s) :=
  .of ((Only.refl _ _).when _ _ fun _ h => (h.modClc _).formThermal.deriveOutputs)

theorem execExhaustFeedbackExpiry_completes : Completes [.handoffs, .clc] s (execExhaustFeedbackExpiry s) :=
  .of ((Only.refl _ _).when _ _ fun _ h => (h.modClc _).when _ _ fun _ k => k.raise _ _ _)

theorem execZoneStageHandoffClc_completes (zs : PerZone ZoneShown) :
    Completes [.handoffs, .clc] s (execZoneStageHandoffClc zs s) :=
  .of (((((Only.refl _ _).took _).modClc _).when _ _ fun _ h => h.stopStages).formPump.deriveOutputs)

theorem execStringStateReportClc_completes (n : StringId) (st : SwitchState) :
    Completes [.handoffs, .clc] s (execStringStateReportClc n st s) :=
  .of ((((Only.refl _ _).took _).modClc _).formPump.deriveOutputs)

/-! ### FGU -/

theorem execLoopChange_completes (z : Zone) (l : Loop) (raw : LoopState) : Completes [.fgu] s (execLoopChange z l raw s) :=
  .of ((Only.refl _ _).when _ _ fun _ h => h.modZone _ _)

theorem execCallPointChange_completes (operated : Bool) : Completes [.fgu] s (execCallPointChange operated s) :=
  .of ((Only.refl _ _).when _ _ fun _ h => h.modFgu _)

theorem execPulseTimerExpiry_completes (z : Zone) : Completes [.fgu] s (execPulseTimerExpiry z s) :=
  .of ((Only.refl _ _).when _ _ fun _ h => h.modZone _ _)

/-- R138: an event at FGU changes at most what its own effect does, the hand-offs and FGU. -/
theorem Only.fguEvent {bs : List Block} {d e : Device} (h : Only bs d e) (f : Device → Device)
    (hf : Only bs e (f e)) (hb : ∀ b ∈ ([.handoffs, .fgu] : List Block), b ∈ bs := by decide) : Only bs d (e.fguEvent f) :=
  h.trans (fguEvent_only e f bs hf (hb _ (by decide)) (hb _ (by decide)))

theorem execLoopConfirmation_completes (z : Zone) (l : Loop) :
    Completes [.handoffs, .fgu] s (execLoopConfirmation z l s) :=
  .of ((Only.refl _ _).when _ _ fun x h => h.fguEvent _ (
    have confirmed := ((Only.refl _ x).modZone _ _).formFault _ _ _
    .ite _ (confirmed.testLoop _ _) (confirmed.judgeZone _)))

theorem execCallPointConfirmation_completes : Completes [.handoffs, .fgu] s (execCallPointConfirmation s) :=
  .of ((Only.refl _ _).when _ _ fun x h => h.fguEvent _
    (((Only.refl _ x).modFgu _).when _ _ fun _ k => k.each _ _ fun _ _ m => m.callZone _))

theorem execHoldButtonChange_completes (pressed : Bool) :
    Completes [.handoffs, .fgu] s (execHoldButtonChange pressed s) :=
  .of ((Only.refl _ _).when _ _ fun x h => h.fguEvent _ (((Only.refl _ x).modFgu _).each _ _ fun _ _ m => m.holdZone _ _))

theorem execGasSample_completes (z : BatteryZone) (ppm : Nat) :
    Completes [.handoffs, .pins, .fgu] s (execGasSample z ppm s) :=
  .of ((Only.refl _ _).fguEvent _ (
    have read := (Only.refl [.handoffs, .pins, .fgu] s.dev).readGas z ppm
    .ite _ (read.testSample _) (read.judgeZone _)))

theorem execReleaseTimerExpiry_completes (z : Zone) : Completes [.handoffs, .fgu] s (execReleaseTimerExpiry z s) :=
  .of ((Only.refl _ _).when _ _ fun x h => h.fguEvent _ ((((Only.refl _ x).modZone _ _).raise _ _ _).post _))

theorem execTestTimerExpiry_completes (z : Zone) : Completes [.handoffs, .fgu] s (execTestTimerExpiry z s) :=
  .of ((Only.refl _ _).when _ _ fun x h => h.fguEvent _ ((Only.refl _ x).endTest _))

/-! ### BAL -/

theorem execBalanceRecord_completes (n : StringId) (vmax : List Int) (bleed : BitVec 16) :
    Completes [.handoffs, .bal] s (execBalanceRecord n vmax bleed s) :=
  .of (((Only.refl _ _).took _).when _ _ fun _ h =>
    have counted := (h.modRun _).modBal _
    .ite _ (counted.endRun _) ((counted.bleedStep _).when _ _ fun _ k => k.modBal _))

theorem execThermalHoldHandoff_completes (on : Bool) : Completes [.handoffs, .bal] s (execThermalHoldHandoff on s) :=
  .of ((((Only.refl _ _).took _).modBal _).when _ _ fun _ h => h.setCauses _)

theorem execBalFireStageHandoff_completes (st : FireStage) : Completes [.handoffs, .bal] s (execBalFireStageHandoff st s) :=
  .of ((((Only.refl _ _).took _).modBal _).when _ _ fun _ h => h.endRun _)

theorem execBalHealthHandoff_completes (n : StringId) (h : Health) :
    Completes [.handoffs, .bal] s (execBalHealthHandoff n h s) := by
  have held := ((Only.refl [.handoffs, .bal] s.dev).took (.balHealthHandoff n h)).modBal
    fun b => { b with health := b.health.set n h }
  refine .of ?_
  dsimp only
  split
  · exact held.when _ _ fun _ k => k.endRun _
  · exact held

theorem execBalMonitorLoss_completes (n : StringId) : Completes [.handoffs, .bal] s (execBalMonitorLoss n s) :=
  .of (((Only.refl _ _).took _).when _ _ fun _ h => h.endRun _)

theorem execBalStandingHandoff_completes (p : Port) (st : Standing) :
    Completes [.handoffs, .bal] s (execBalStandingHandoff p st s) :=
  .of ((((Only.refl _ _).took _).modBal _).when _ _ fun _ h => h.endRun _)

theorem execDurationExpiry_completes : Completes [.handoffs, .bal] s (execDurationExpiry s) :=
  .of ((Only.refl _ _).when _ _ fun _ h => (h.modRun _).endRun _)

/-! ### SDM, EVR and STO -/

theorem execPeriodExpiry_completes (p : Port) : Completes [.handoffs, .du, .swc, .sdm] s (execPeriodExpiry p s) :=
  .of (((Only.refl _ _).modPort _ _).when _ _ fun _ h =>
    (h.when _ _ fun _ k => k.miss _ _).when _ _ fun _ k => k.challenge _)

theorem execDeadlineExpiry_completes (p : Port) : Completes [.handoffs, .du, .swc, .sdm] s (execDeadlineExpiry p s) :=
  .of ((Only.refl _ _).when _ _ fun _ h => h.miss _ _)

theorem execEventOccurrence_completes (o : Occurrence) : Completes [.handoffs, .evr] s (execEventOccurrence o s) :=
  .of (((Only.refl _ _).took _).trans ((withEvr_only _ _).mono (by decide)))

theorem execUpdateRequest_completes : Completes [.handoffs, .sto] s (execUpdateRequest s) :=
  have taken := (Only.refl [.handoffs, .sto] s.dev).took .updateRequest
  .of (.ite _ taken.startUpdate (taken.modSto _))

theorem execProgrammingCompletion_completes (ok : Bool) : Completes restartTouches s (execProgrammingCompletion ok s) := by
  refine .of ?_
  split
  · exact ((Only.refl _ _).storeEnds _ _).proceed.settle
  · exact .refl _ _

theorem execUpdateCompletion_completes (ok : Bool) : Completes restartTouches s (execUpdateCompletion ok s) := by
  refine .of ?_
  split
  · exact ((Only.refl _ _).updateEnds _ _).proceed.settle
  · exact .refl _ _

theorem execIntegrityCheck_completes (upset : Bool) : Completes restartTouches s (execIntegrityCheck upset s) :=
  .of (((Only.refl _ _).modSto _).when _ _ fun _ h => h.selfFailed _).settle

end

end Sys2Proof.Machine

end

section
/-! SUPPORT. Which blocks a request may change, and what a WRITE that is taken leaves in the settings. -/

namespace Sys2Proof.Machine

-- Bodies elaborated side by side would each hold a thread while a default argument waits for the kernel.
set_option Elab.async false

/-! ## Every command that is no request -/

/-- A command that is no request keeps the queue and changes at most the blocks that `touches` lists for it, well formed or not. -/
theorem event_completes {i : Instr} (h : requestOf i = none) (s : State) : Completes (touches i) s (exec i s) := by
  cases i with
  | powerOnReset => exact execPowerOnReset_completes s
  | warmRestart => exact execWarmRestart_completes s
  | linkResetAssert p => exact execLinkResetAssert_completes s p
  | portReset p => exact execPortReset_completes s p
  | incompleteTransfer p => exact execIncompleteTransfer_completes s p
  | linkSlot => exact execLinkSlot_completes s
  | scanRecord x a => exact execScanRecord_completes s x a
  | busRecord x a => exact execBusRecord_completes s x a
  | identityRecord x a => exact execIdentityRecord_completes s x a
  | identityTimerExpiry n => exact execIdentityTimerExpiry_completes s n
  | staleExpiry n => exact execStaleExpiry_completes s n
  | monitorLoss n => exact execMonitorLoss_completes s n
  | busStaleOnset => exact execBusStaleOnset_completes s
  | csuEvaluation n c => exact execCsuEvaluation_completes s n c
  | monitorStateReport n => exact execMonitorStateReport_completes s n
  | weldReport n => exact execWeldReport_completes s n
  | envelopeRecomputation x => exact execEnvelopeRecomputation_completes s x
  | rampStep => exact execRampStep_completes s
  | reportStaleExpiry => exact execReportStaleExpiry_completes s
  | overrunExpiry => exact execOverrunExpiry_completes s
  | siteStandingHandoff st => exact execSiteStandingHandoff_completes s st
  | feedbackChange n shut => exact execFeedbackChange_completes s n shut
  | prechargeExpiry n => exact execPrechargeExpiry_completes s n
  | closeFeedbackExpiry n => exact execCloseFeedbackExpiry_completes s n
  | openFeedbackExpiry n => exact execOpenFeedbackExpiry_completes s n
  | openDelayExpiry n => exact execOpenDelayExpiry_completes s n
  | selectExpiry n => exact execSelectExpiry_completes s n
  | isolationTimerExpiry => exact execIsolationTimerExpiry_completes s
  | swcScanRecord n i v => exact execSwcScanRecord_completes s n i v
  | swcBusRecord dc => exact execSwcBusRecord_completes s dc
  | swcMonitorLoss n => exact execSwcMonitorLoss_completes s n
  | swcBusStale => exact execSwcBusStale_completes s
  | healthHandoffSwc n x => exact execHealthHandoffSwc_completes s n x
  | fireStageHandoffSwc st => exact execFireStageHandoffSwc_completes s st
  | forcedOpen => exact execForcedOpen_completes s
  | gridWindowHandoffSwc st => exact execGridWindowHandoffSwc_completes s st
  | isolationConverterReport kw => exact execIsolationConverterReport_completes s kw
  | gridRecord r => exact execGridRecord_completes s r
  | gwmBusStale => exact execGwmBusStale_completes s
  | breakerReportGwm st => exact execBreakerReportGwm_completes s st
  | holdOffExpiry => exact execHoldOffExpiry_completes s
  | rideThroughExpiry => exact execRideThroughExpiry_completes s
  | tripDelayExpiry => exact execTripDelayExpiry_completes s
  | coolingSample a b c => exact execCoolingSample_completes s a b c
  | runFeedbackChange c running => exact execRunFeedbackChange_completes s c running
  | runFeedbackExpiry c => exact execRunFeedbackExpiry_completes s c
  | flowSwitchChange flow => exact execFlowSwitchChange_completes s flow
  | flowConfirmExpiry => exact execFlowConfirmExpiry_completes s
  | flowLossExpiry => exact execFlowLossExpiry_completes s
  | retryExpiry => exact execRetryExpiry_completes s
  | tryExpiry => exact execTryExpiry_completes s
  | provingExpiry => exact execProvingExpiry_completes s
  | exhaustFeedbackChange running => exact execExhaustFeedbackChange_completes s running
  | exhaustFeedbackExpiry => exact execExhaustFeedbackExpiry_completes s
  | zoneStageHandoffClc zs => exact execZoneStageHandoffClc_completes s zs
  | stringStateReportClc n st => exact execStringStateReportClc_completes s n st
  | loopChange z l raw => exact execLoopChange_completes s z l raw
  | loopConfirmation z l => exact execLoopConfirmation_completes s z l
  | callPointChange operated => exact execCallPointChange_completes s operated
  | callPointConfirmation => exact execCallPointConfirmation_completes s
  | holdButtonChange pressed => exact execHoldButtonChange_completes s pressed
  | gasSample z ppm => exact execGasSample_completes s z ppm
  | releaseTimerExpiry z => exact execReleaseTimerExpiry_completes s z
  | pulseTimerExpiry z => exact execPulseTimerExpiry_completes s z
  | testTimerExpiry z => exact execTestTimerExpiry_completes s z
  | balanceRecord n vmax bleed => exact execBalanceRecord_completes s n vmax bleed
  | thermalHoldHandoff on => exact execThermalHoldHandoff_completes s on
  | balFireStageHandoff st => exact execBalFireStageHandoff_completes s st
  | balHealthHandoff n x => exact execBalHealthHandoff_completes s n x
  | balMonitorLoss n => exact execBalMonitorLoss_completes s n
  | balStandingHandoff p st => exact execBalStandingHandoff_completes s p st
  | durationExpiry => exact execDurationExpiry_completes s
  | periodExpiry p => exact execPeriodExpiry_completes s p
  | deadlineExpiry p => exact execDeadlineExpiry_completes s p
  | eventOccurrence o => exact execEventOccurrence_completes s o
  | updateRequest => exact execUpdateRequest_completes s
  | programmingCompletion ok => exact execProgrammingCompletion_completes s ok
  | updateCompletion ok => exact execUpdateCompletion_completes s ok
  | integrityCheck upset => exact execIntegrityCheck_completes s upset
  | siteCapWrite p dir f => cases dir <;> cases h
  | ratingWrite p dir f => cases dir <;> cases h
  | expectationRewrite p n e f => cases e <;> cases h
  | deratingWrite p via i f => cases via <;> cases h
  | _ => cases h

/-! ## Requests act by their bytes -/

/-- R163, R166: a request command does what its whole frame, routed by kind, table and index, does. -/
theorem exec_request {i : Instr} {r : Request} (h : requestOf i = some r) (s : State) :
    exec i s = s.next (·.request r.port r.frame (route r.port r.frame)) := by
  cases i with
  | siteCapWrite p dir f => cases dir <;> (cases h; rfl)
  | ratingWrite p dir f => cases dir <;> (cases h; rfl)
  | expectationRewrite p n e f => cases e <;> cases n <;> (cases h; rfl)
  | deratingWrite p via index f =>
    have same : ∀ b : Byte, BitVec.ofNat 8 b.toNat = b := fun b => by simp
    cases via <;>
    · cases h
      simp only [exec, execDeratingWrite, deratingRef, same]
      rfl
  | _ => cases h <;> rfl

/-- A request leaves what its owner's action and the links leave. -/
theorem request_keeps {P : Device → Prop} {p : Port} {f : Frame} {act : Device → Device × Answer} {d : Device}
    (links : ∀ {x y}, Only [.pif] x y → P x → P y) (owner : ∀ {x}, P x → P (act x).1) (h : P d) : P (d.request p f act) := by
  unfold Device.request Device.when
  split
  · have out := links (clockOut_only d p) h
    dsimp only
    split
    · exact links (reply_only _ _ _ _) out
    · exact links (reply_only _ _ _ _) (owner out)
  · exact h

/-! ## The owners' answers -/

/-- A row that refuses changes nothing, so the rows below it say what may change. -/
theorem Only.row {bs : List Block} {d : Device} {c : Prop} [Decidable c] {a : Answer} {x : Device × Answer}
    (h : Only bs d x.1) : Only bs d (if c then (d, a) else x).1 := by
  split
  · exact .refl _ d
  · exact h

section
variable (d : Device) (p : Port) (v : Word)

theorem stoStore_only : Only [.sto] d (stoStore p v d).1 := by
  unfold stoStore
  split
  · exact .refl _ d
  · exact .row (.row (.row (.row ((Only.refl _ d).modSto _))))

theorem stoClear_only : Only [.sto] d (stoClear p v d).1 := by
  unfold stoClear
  split
  · exact .row (.row ((Only.refl _ d).modSto _))
  · split
    · exact .refl _ d
    · exact .row (.row ((Only.refl _ d).modSto _))

theorem stoRestart_only : Only restartTouches d (stoRestart p d).1 := .row (.row ((Only.refl _ d).modSto _).settle)

theorem pifLockTable_only : Only [.pif] d (pifLockTable p v d).1 := by
  unfold pifLockTable
  split
  · exact .refl _ d
  · exact .row (.row (withPif_only d _))

theorem pifHold_only (on : Bool) : Only [.pif] d (pifHold on p v d).1 := by
  unfold pifHold
  split
  · exact .refl _ d
  · exact .row (.row (withPif_only d _))

theorem pifLockMap_only : Only [.pif] d (pifLockMap p d).1 := .row (.row (withPif_only d _))

theorem csuRelease_only : Only [.handoffs, .csu] d (csuRelease p v d).1 := by
  refine .row (.row ?_)
  split
  · exact .refl _ d
  · exact .row (.row (.row (.row (releaseLockout_only d _))))

theorem refuse_only (n : SwitchId) : Only [.swc] d (d.refuse n).1 := (Only.refl _ d).modSw _ _

theorem swcClear_only : Only [.handoffs, .swc, .du] d (swcClear p v d).1 := by
  unfold swcClear
  split
  · exact .refl _ d
  · exact .row (.row (.row ((Only.refl _ d).modSw _ _).swcEnd))

theorem swcCancel_only : Only [.swc] d (swcCancel p d).1 := by
  unfold swcCancel
  split
  · exact dropSelection_only d _
  · exact .refl _ d

theorem pifSelect_only (f : ItemFrame) : Only [.swc] d (pifSelect p f d).1 := by
  refine .row ?_
  unfold swcSelect
  split
  · exact .refl _ d
  · split
    · exact .refl _ d
    · refine .row (.row (.row (.row (.row ?_))))
      split
      · exact refuse_only d _
      · exact (Only.refl _ d).modSw _ _

theorem pifOperate_only (f : ItemFrame) : Only [.handoffs, .swc, .du] d (pifOperate p f d).1 := by
  refine .row ?_
  unfold swcOperate
  split
  · exact .refl _ d
  · split
    · exact .refl _ d
    · refine .row ?_
      split
      · exact (Only.refl _ d).when _ _ fun _ h => h.dropSelection _
      · split
        · exact ((Only.refl _ d).dropSelection _).trans ((refuse_only _ _).mono (by decide))
        · exact ((Only.refl _ d).startOperation _ _).swcEnd

/-- R138: a service of a zone leaves FGU's event, or nothing. -/
theorem zoneService_only {k : Zone → Device → Device × Answer} (h : ∀ z, Only [.handoffs, .fgu] d (k z d).1) :
    Only [.handoffs, .fgu] d (zoneService k p v d).1 := by
  refine .row (.row ?_)
  split
  · exact .refl _ d
  · exact h _

theorem resetZone_only (z : Zone) : Only [.handoffs, .fgu] d (d.resetZone z).1 :=
  .row (.row ((Only.refl _ d).fguEvent _ ((Only.refl _ d).modZone _ _)))

theorem rearmZone_only (z : Zone) : Only [.handoffs, .fgu] d (d.rearmZone z).1 :=
  .row (.row ((Only.refl _ d).fguEvent _ (((Only.refl _ d).modZone _ _).post _)))

theorem startTest_only (z : Zone) : Only [.handoffs, .fgu] d (d.startTest z).1 :=
  .row ((Only.refl _ d).fguEvent _ ((Only.refl _ d).modZone _ _))

theorem stopTest_only (z : Zone) : Only [.handoffs, .fgu] d (d.stopTest z).1 :=
  .row ((Only.refl _ d).fguEvent _ ((Only.refl _ d).endTest _))

theorem fguForceEvent_only : Only [.handoffs] d (fguForceEvent p v d).1 := by
  refine .row (.row ?_)
  split
  · exact .refl _ d
  · exact post_only d _

theorem balStart_only : Only [.bal] d (balStart p v d).1 := by
  refine .row (.row ?_)
  split
  · exact .refl _ d
  · exact .row (.row (.row (.row (.row (.row (startRun_only d _ _ _ _))))))

theorem balSuspend_only : Only [.bal] d (balSuspend p d).1 := .row (.row (.row (setCauses_only d _)))

theorem balResume_only : Only [.bal] d (balResume p d).1 := .row (.row (.row (setCauses_only d _)))

theorem balCancel_only : Only [.handoffs, .bal] d (balCancel p d).1 := .row (.row (.row (endRun_only d _)))

theorem balClear_only : Only [.bal] d (balClear p d).1 := .row (.row (.row (modRun_only d _)))

theorem clcFaultClear_only : Only [.handoffs, .clc] d (clcFaultClear p v d).1 := by
  refine .row (.row (.row ?_))
  split
  · exact clearCooling_only d _ _
  · exact clearCooling_only d _ _

theorem sdmAnswer_only : Only [.handoffs, .du, .swc, .sdm] d (sdmAnswer p v d).1 := by
  refine .row ?_
  dsimp only
  split
  · exact miss_only d _ _
  · split
    · exact miss_only d _ _
    · split
      · exact miss_only d _ _
      · exact ((Only.refl _ d).modPort _ _).setStanding _ _

theorem evrAck_only : Only [.evr] d (evrAck p v d).1 := .row (withEvr_only d _)

theorem evrWriteMask_only : Only [.evr] d (evrWriteMask p v d).1 := .row (withEvr_only d _)

theorem ownerRead_only (r : ItemRef) : Only [.env] d (d.ownerRead p r).1 := by
  unfold Device.ownerRead
  split
  · exact .refl _ d
  · exact .row ((Only.refl _ d).when _ _ fun _ h => h.clearGenerationFlag _)

theorem portRead_only (table index : Nat) : Only [.env] d (portRead p table index d).1 := by
  refine .row ?_
  split
  · exact ownerRead_only d p _
  · exact .row (ownerRead_only d p _)

end

/-! ## WRITE (R165) -/

/-- What a WRITE leaves of the settings: they and the store stand, or an item has taken a value that its range and its table's orders
allow, and other blocks have followed. -/
def WriteLeaves (d e : Device) : Prop :=
  Only [.handoffs, .env, .du, .evr] d e ∨
    ∃ t i v, Admits d t i v ∧ Only [.handoffs, .slc, .du, .swc] (d.setItem t i v) e

theorem WriteLeaves.row {d : Device} {c : Prop} [Decidable c] {a : Answer} {x : Device × Answer}
    (h : WriteLeaves d x.1) : WriteLeaves d (if c then (d, a) else x).1 := by
  split
  · exact .inl (.refl _ d)
  · exact h

theorem WriteLeaves.stored {d e : Device} {t : StoredTable} {i : Nat} {v : Int} (h : Admits d t i v)
    (he : Only [.handoffs, .slc, .du, .swc] (d.setItem t i v) e) : WriteLeaves d e := .inr ⟨t, i, v, h, he⟩

/-- What follows at the owner from a value stored. -/
theorem storeItem_follows (d : Device) (t : StoredTable) (i : Nat) (v : Int) :
    Only [.handoffs, .slc, .du, .swc] (d.setItem t i v) (d.storeItem t i v) := by
  unfold Device.storeItem
  refine Only.postIf (Only.when ?_ _ _ fun x h => h.duOrder.duRefresh) _ _
  split
  · exact (Only.refl _ _).expectationRewritten _
  · exact .refl _ _

/-- R98: the isolation request is stored, and SWC follows. -/
theorem swcIsolationWrite_leaves {d : Device} {v : Int} (h : Admits d .t11 16 v) : WriteLeaves d (swcIsolationWrite v d).1 := by
  have taken := (Only.refl [.handoffs, .slc, .du, .swc] (d.setItem .t11 16 v)).post (.envelopeRecomputation (.isolation (v == 1)))
  unfold swcIsolationWrite
  dsimp only
  split
  · exact .inl (.refl _ d)
  · split
    · exact .stored h taken.isolationStart
    · exact .stored h taken.swcEnd
  · split
    · exact .stored h taken
    · exact .stored h (taken.modSwc _).swcEnd

theorem Range.has_saturate {r : Range} (h : r.lo ≤ r.hi) (v : Int) : r.has (saturate r.lo r.hi v) = true := by
  simp [Range.has, saturate, h]

/-- R63: the site order and the ramp rate, saturated, lie in their ranges; table 5 has no orders. -/
theorem admits_saturated (d : Device) {t : StoredTable} {i : Nat} (h : saturates t i = true) (v : Int) :
    Admits d t i (saturate (rangeOf t i).lo (rangeOf t i).hi v) := by
  obtain ⟨rfl, hi⟩ : t = .t5 ∧ i ≤ 1 := by simpa [saturates] using h
  refine ⟨Range.has_saturate ?_ v, rfl⟩
  interval_cases i <;> decide

/-- R165, R167: the owner's answer to a WRITE of a stored table. -/
theorem writeStored_leaves (d : Device) (t : StoredTable) (i : Nat) (v : Int) : WriteLeaves d (d.writeStored t i v).1 := by
  refine .row ?_
  split
  · next sat => exact .stored (admits_saturated d sat v) (storeItem_follows d t i _)
  · split
    · exact .inl (.refl _ d)
    · next bad =>
      have admitted : Admits d t i v := by
        simpa [Admits, Device.ordered] using bad
      split
      · next iso => obtain ⟨rfl, rfl⟩ := iso; exact swcIsolationWrite_leaves admitted
      · exact .stored admitted (storeItem_follows d t i v)

/-- R77: the owner's answer to a WRITE of table 6. -/
theorem write6_only (d : Device) (i : Nat) (v : Int) : Only [.handoffs, .env, .du] d (d.write6 i v).1 := by
  unfold Device.write6
  dsimp only
  split
  · exact (Only.refl _ d).writeReport _
  · exact (Only.refl _ d).writeRating _ _
  · exact (Only.refl _ d).writeRating _ _

/-- R165: WRITE, by the first row that applies. -/
theorem portWrite_leaves (d : Device) (p : Port) (table index : Nat) (v : Word) :
    WriteLeaves d (portWrite p table index v d).1 := by
  refine .row ?_
  split
  · exact .inl ((withEvr_only d _).mono (by decide))
  · split
    · exact .inl ((evrWriteMask_only d p v).mono (by decide))
    · refine .row (.row (.row (.row ?_)))
      unfold Device.ownerWrite
      split
      · exact writeStored_leaves d _ _ _
      · exact .inl ((write6_only d _ _).mono (by decide))

theorem WriteLeaves.only {d e : Device} (h : WriteLeaves d e) :
    Only [.handoffs, .settings, .slc, .env, .du, .swc, .evr, .sto] d e := by
  rcases h with h | ⟨t, i, v, -, h⟩
  · exact h.mono (by decide)
  · exact ((setItem_only d t i v).mono (by decide)).trans (h.mono (by decide))

/-! ## Every request -/

/-- The blocks that a service may change. -/
def serviceTouches : Nat → List Block
  | 0 | 1 => [.sto]
  | 2 | 3 | 4 | 5 => [.pif]
  | 6 => [.handoffs, .csu]
  | 7 => [.handoffs, .swc, .du]
  | 8 | 9 | 10 | 11 => [.handoffs, .fgu]
  | 12 => [.handoffs]
  | 13 | 14 | 15 | 16 | 17 => [.handoffs, .bal]
  | 18 => [.handoffs, .clc]
  | 19 => restartTouches
  | _ => []

/-- The blocks beside PIF that a frame of a kind and an index may change. -/
def routeTouches (kind index : Nat) : List Block :=
  match kind with
  | 1 => [.env]
  | 2 => [.handoffs, .settings, .slc, .env, .du, .swc, .evr, .sto]
  | 3 => serviceTouches index
  | 4 => [.handoffs, .du, .swc, .sdm]
  | 5 => [.evr]
  | 6 | 8 => [.swc]
  | 7 => [.handoffs, .swc, .du]
  | _ => []

theorem service_only (d : Device) (p : Port) (n : Nat) (v : Word) : Only (serviceTouches n) d (service p n v d).1 := by
  unfold service
  split
  · exact stoStore_only d p v
  · exact stoClear_only d p v
  · exact pifLockTable_only d p v
  · exact pifHold_only d p v true
  · exact pifHold_only d p v false
  · exact pifLockMap_only d p
  · exact csuRelease_only d p v
  · exact swcClear_only d p v
  · exact zoneService_only d p v (resetZone_only d)
  · exact zoneService_only d p v (rearmZone_only d)
  · exact zoneService_only d p v (startTest_only d)
  · exact zoneService_only d p v (stopTest_only d)
  · exact fguForceEvent_only d p v
  · exact (balStart_only d p v).mono (by decide)
  · exact (balSuspend_only d p).mono (by decide)
  · exact (balResume_only d p).mono (by decide)
  · exact balCancel_only d p
  · exact (balClear_only d p).mono (by decide)
  · exact clcFaultClear_only d p v
  · exact stoRestart_only d p
  · exact .refl _ d

theorem route_only (d : Device) (p : Port) (f : Frame) : Only (routeTouches f.kind.toNat f.index.toNat) d (route p f d).1 := by
  unfold route
  generalize f.kind.toNat = kind
  split
  · exact .refl _ d
  · exact portRead_only d p _ _
  · exact (portWrite_leaves d p _ _ _).only
  · exact service_only d p _ _
  · exact sdmAnswer_only d p _
  · exact evrAck_only d p _
  · exact pifSelect_only d p _
  · exact pifOperate_only d p _
  · exact swcCancel_only d p
  · exact .refl _ d

/-! ## A law that every command and the clock keep -/

/-- A step is a command, the front one of the queue or the part's own, or one millisecond. -/
theorem step_cases {s t : State} (h : step s = .next t) :
    (∃ i q, exec i ⟨q, s.dev⟩ = .next t) ∨ t.dev = s.dev.tick := by
  unfold step at h
  split at h
  · exact .inl ⟨_, _, h⟩
  · unfold idleStep at h
    split at h
    · exact .inl ⟨_, s.pending, h⟩
    · cases h; exact .inr rfl

/-- A law of the part that the clock, every event and every request keep, every step keeps. -/
theorem step_keeps {P : Device → Prop} (tick : ∀ d, P d → P d.tick)
    (event : ∀ i s t, requestOf i = none → exec i s = .next t → P s.dev → P t.dev)
    (links : ∀ {d e}, Only [.pif] d e → P d → P e) (owner : ∀ p f d, P d → P (route p f d).1)
    {s t : State} (h : step s = .next t) (hs : P s.dev) : P t.dev := by
  rcases step_cases h with ⟨i, q, h⟩ | h
  · cases hr : requestOf i with
    | none => exact event i _ t hr h hs
    | some r =>
      rw [exec_request hr] at h
      cases h
      exact request_keeps links (owner _ _ _) hs
  · exact h ▸ tick _ hs

end Sys2Proof.Machine

end

section
/-! SUPPORT. The counters and trip flags of the channels, operation by operation (R21 to R28, R38, R39). -/

namespace Sys2Proof.Machine

-- Bodies elaborated side by side would each hold a thread while a default argument waits for the kernel.
set_option Elab.async false

/-! ## Laws through the shared operations -/

theorem Device.when_keeps {P : Device → Prop} {d : Device} {b : Bool} {f : Device → Device} (h : P d) (hf : P d → P (f d)) :
    P (d.when b f) := by
  unfold Device.when
  split
  · exact hf h
  · exact h

theorem Device.each_keeps {P : Device → Prop} {α : Type} {xs : List α} {f : α → Device → Device} {d : Device} (h : P d)
    (hf : ∀ a x, P x → P (f a x)) : P (d.each xs f) := by
  unfold Device.each
  induction xs generalizing d with
  | nil => exact h
  | cons a xs ih => exact ih (hf a d h)

theorem row_keeps {P : Device → Prop} {d : Device} {c : Prop} [Decidable c] {a : Answer} {x : Device × Answer} (h : P d)
    (hx : P x.1) : P (if c then (d, a) else x).1 := by
  split
  · exact h
  · exact hx

/-! ## One channel -/

/-- R21, R26: a pinned channel stands at 255 and tripped; any other counter lies within 0..L + H, and is at L or above while tripped. -/
def ChannelRec.Lawful (c : ChannelRec) : Prop :=
  if c.pinned then c.counter = 255 ∧ c.tripped = true
  else c.counter ≤ c.limit + c.hold ∧ (c.tripped = true → c.limit ≤ c.counter)

theorem counterLaw_iff (d : Device) : CounterLaw d ↔ ∀ s k, ((d.sup s).channels.get k).Lawful := Iff.rfl

/-- R26: a pinned channel is lawful whatever its limit and hold. -/
theorem lawful_pinned (limit hold : Nat) : ChannelRec.Lawful ⟨255, true, true, limit, hold⟩ := ⟨rfl, rfl⟩

/-- R28, R21: a channel released, or one that trips, stands at L + H. -/
theorem lawful_full (limit hold : Nat) (tripped : Bool) : ChannelRec.Lawful ⟨limit + hold, tripped, false, limit, hold⟩ :=
  ⟨le_refl _, fun _ => Nat.le_add_right _ _⟩

/-- R38: a channel cleared. -/
theorem lawful_cleared (limit hold : Nat) : ChannelRec.Lawful ⟨0, false, false, limit, hold⟩ := ⟨Nat.zero_le _, nofun⟩

theorem ChannelRec.Lawful.pin {c : ChannelRec} : c.pin.Lawful := lawful_pinned _ _

theorem ChannelRec.Lawful.unpin {c : ChannelRec} (h : c.Lawful) (limit hold : Nat) : (c.unpin limit hold).Lawful := by
  unfold ChannelRec.unpin
  split
  · exact lawful_full _ _ _
  · exact h

/-- R22: limit and hold come in; an unpinned counter is brought to at most L + H, and the flag follows it. -/
theorem ChannelRec.Lawful.adjust {c : ChannelRec} (h : c.Lawful) (limit hold : Nat) : (c.adjust limit hold).Lawful := by
  unfold ChannelRec.adjust
  split
  · exact h
  · split
    · next pinned =>
      obtain ⟨counter, tripped⟩ : c.counter = 255 ∧ c.tripped = true := by simpa [ChannelRec.Lawful, pinned] using h
      simp [ChannelRec.Lawful, pinned, counter, tripped]
    · next unpinned =>
      simp [ChannelRec.Lawful, unpinned]

/-- R21: one evaluation of an unpinned channel; R26: a pinned one stays. -/
theorem ChannelRec.Lawful.debounce {c : ChannelRec} (h : c.Lawful) (fails : Bool) : (c.debounce fails).Lawful := by
  unfold ChannelRec.debounce
  split
  · exact h
  · next unpinned =>
    obtain ⟨bound, above⟩ : c.counter ≤ c.limit + c.hold ∧ (c.tripped = true → c.limit ≤ c.counter) := by
      simpa [ChannelRec.Lawful, unpinned] using h
    split
    · split
      · simp [ChannelRec.Lawful, unpinned]
      · next quiet =>
        have low : c.tripped = false ∧ c.counter + 2 < c.limit := by simpa using quiet
        simp [ChannelRec.Lawful, unpinned, low.1]
        omega
    · simp [ChannelRec.Lawful, unpinned]
      omega

/-! ## The operations of CSU -/

theorem CounterLaw.congr {d e : Device} (h : CounterLaw d) (csu : e.csu = d.csu) : CounterLaw e := fun s k => by
  have sup : e.sup s = d.sup s := by rw [Device.sup, csu, Device.sup]
  rw [sup]
  exact h s k

theorem CounterLaw.only {d e : Device} {bs : List Block} (h : CounterLaw d) (only : Only bs d e)
    (csu : .csu ∉ bs := by decide) : CounterLaw e := h.congr (only .csu csu)

theorem CounterLaw.post {d : Device} (h : CounterLaw d) (i : Instr) : CounterLaw (d.post i) := h.only (post_only d i)

theorem CounterLaw.modSup {d : Device} (h : CounterLaw d) (s : StringId) {f : StringSup → StringSup}
    (hf : ∀ k, ((f (d.sup s)).channels.get k).Lawful) : CounterLaw (d.modSup s f) := fun n k => by
  rw [Device.modSup_sup]
  split
  · exact hf k
  · exact h n k

theorem CounterLaw.modSup_channels {d : Device} (h : CounterLaw d) (s : StringId) {f : StringSup → StringSup}
    (hf : (f (d.sup s)).channels = (d.sup s).channels) : CounterLaw (d.modSup s f) :=
  h.modSup s fun k => hf ▸ h s k

theorem CounterLaw.modChannel {d : Device} (h : CounterLaw d) (s : StringId) (k : Channel) {f : ChannelRec → ChannelRec}
    (hf : (f ((d.sup s).channels.get k)).Lawful) : CounterLaw (d.modChannel s k f) :=
  h.modSup s fun c => by
    dsimp only
    rw [PerChannel.get_set]
    split
    · exact hf
    · exact h s c

theorem CounterLaw.raiseEdge {d : Device} (h : CounterLaw d) (s : StringId) (k : Channel) (x y : Bool) :
    CounterLaw (d.raiseEdge s k x y) := h.only (raiseEdge_only d s k x y)

theorem CounterLaw.evaluateChannel {d : Device} (h : CounterLaw d) (s : StringId) (fails : Bool) (k : Channel) :
    CounterLaw (d.evaluateChannel s fails k) :=
  ((h.modChannel s k ((ChannelRec.Lawful.adjust (h s k) _ _).debounce fails)).raiseEdge _ _ _ _).raiseEdge _ _ _ _

theorem CounterLaw.addCause {d : Device} (h : CounterLaw d) (s : StringId) (c : Cause) : CounterLaw (d.addCause s c) :=
  Device.when_keeps h fun h => ((h.modSup_channels s rfl).post _).post _

theorem CounterLaw.applyHard {d : Device} (h : CounterLaw d) (s : StringId) (r : ScanRecord) : CounterLaw (d.applyHard s r) :=
  Device.each_keeps h fun _ _ h => Device.when_keeps h fun h => ((h.modChannel s _ .pin).raiseEdge _ _ _ _).addCause _ _

theorem CounterLaw.deriveHealth {d : Device} (h : CounterLaw d) (s : StringId) : CounterLaw (d.deriveHealth s) := by
  unfold Device.deriveHealth
  dsimp only
  split
  · exact h
  · exact ((h.modSup_channels s rfl).post _).post _

theorem CounterLaw.deriveHealthAlone {d : Device} (h : CounterLaw d) (s : StringId) : CounterLaw (d.deriveHealthAlone s) :=
  (h.deriveHealth s).only (postIf_only _ _ _)

theorem CounterLaw.endEvaluation {d : Device} (h : CounterLaw d) (s : StringId) (c : Option EnvCopy) :
    CounterLaw (d.endEvaluation s c) := (h.deriveHealth s).post _

theorem CounterLaw.evaluateFull {d : Device} (h : CounterLaw d) (s : StringId) (r : ScanRecord) (gap : Bool) :
    CounterLaw (d.evaluateFull s r gap) :=
  have moved := Device.each_keeps (h.applyHard s r) fun k _ h => h.evaluateChannel s _ k
  (moved.modSup_channels s rfl).endEvaluation s _

theorem CounterLaw.evaluateStale {d : Device} (h : CounterLaw d) (s : StringId) : CounterLaw (d.evaluateStale s) :=
  have moved := h.evaluateChannel s true .meas
  (moved.modSup_channels s rfl).endEvaluation s _

theorem CounterLaw.releaseLockout {d : Device} (h : CounterLaw d) (s : StringId) : CounterLaw (d.releaseLockout s) := by
  have emptied : CounterLaw ((d.modSup s fun u => { u with causes := .none }).post .updateRequest) :=
    (h.modSup_channels s rfl).post _
  exact (Device.each_keeps emptied fun k _ h => h.modChannel s k (ChannelRec.Lawful.unpin (h s k) _ _)).deriveHealthAlone s

theorem CounterLaw.csuRelease {d : Device} (h : CounterLaw d) (p : Port) (v : Word) : CounterLaw (csuRelease p v d).1 := by
  refine row_keeps h (row_keeps h ?_)
  split
  · exact h
  · exact row_keeps h (row_keeps h (row_keeps h (row_keeps h (h.releaseLockout _))))

/-! ## The resets -/

/-- R38: a warm restart leaves each channel pinned or cleared. -/
theorem restart_counterLaw (d : Device) : CounterLaw d.restart := by
  obtain ⟨-, -, -, -, -, -, -, -, -, sup, -⟩ := d.restart_restarted
  intro s k
  rw [(sup s).2 k]
  split
  · exact lawful_pinned _ _
  · exact lawful_cleared _ _

/-- R38, R39: so does a power-on reset. -/
theorem powerOn_counterLaw (d : Device) : CounterLaw d.powerOn := by
  intro s k
  rw [d.powerOn_eq, ((Device.startBlocks_keeps d.loaded_ready).sup s).2]
  obtain ⟨pinned, cleared⟩ := d.loaded_channel s k
  by_cases hp : k = .ov ∧ (d.loaded.sup s).causes.ovHard = true ∨ k = .uv ∧ (d.loaded.sup s).causes.uvHard = true ∨
      k = .ot ∧ (d.loaded.sup s).causes.otHard = true
  · rw [pinned hp]; exact lawful_pinned _ _
  · rw [cleared hp]; exact lawful_cleared _ _

theorem CounterLaw.settle {d : Device} (h : CounterLaw d) : CounterLaw d.settle :=
  Device.when_keeps h fun _ => restart_counterLaw d

theorem CounterLaw.stoRestart {d : Device} (h : CounterLaw d) (p : Port) : CounterLaw (stoRestart p d).1 :=
  row_keeps h (row_keeps h (h.only (modSto_only d _)).settle)

/-! ## Every command -/

/-- The events that touch CSU: its own and the restarts. -/
theorem event_csu {i : Instr} (h : .csu ∈ touches i) (event : requestOf i = none) :
    (i = .powerOnReset ∨ i = .warmRestart ∨ (∃ ok, i = .programmingCompletion ok) ∨ (∃ ok, i = .updateCompletion ok) ∨
      ∃ upset, i = .integrityCheck upset) ∨
    (∃ n c, i = .csuEvaluation n c) ∨ (∃ n, i = .monitorStateReport n) ∨ ∃ n, i = .weldReport n := by
  cases i <;> simp [touches, restartTouches, requestOf] at h event ⊢

theorem counterLaw_event {i : Instr} {s t : State} (event : requestOf i = none) (h : exec i s = .next t)
    (law : CounterLaw s.dev) : CounterLaw t.dev := by
  by_cases csu : .csu ∈ touches i
  · obtain (rfl | rfl | ⟨ok, rfl⟩ | ⟨ok, rfl⟩ | ⟨upset, rfl⟩) | ⟨n, c, rfl⟩ | ⟨n, rfl⟩ | ⟨n, rfl⟩ := event_csu csu event <;>
      cases h
    · exact powerOn_counterLaw _
    · exact law.settle
    · dsimp only [State.on_dev]
      split
      · exact (law.only ((Only.refl [.handoffs, .sto] _).storeEnds _ _).proceed).settle
      · exact law
    · dsimp only [State.on_dev]
      split
      · exact (law.only ((Only.refl [.handoffs, .sto] _).updateEnds _ _).proceed).settle
      · exact law
    · exact (law.only (((Only.refl [.handoffs, .sto] _).modSto _).when _ _ fun _ h => h.selfFailed _)).settle
    · cases c with
      | full r gap => exact (law.only (took_only _ _)).evaluateFull n r gap
      | hardOnly r => exact ((law.only (took_only _ _)).applyHard n r).endEvaluation n _
      | staleExpiry => exact (law.only (took_only _ _)).evaluateStale n
    · exact (law.only (took_only _ _)).deriveHealthAlone n
    · exact ((law.only (took_only _ _)).addCause n .weld).deriveHealthAlone n
  · obtain ⟨d, e, only⟩ := event_completes event s
    cases h.symm.trans e
    exact law.only only csu

/-- The requests that touch CSU: RELEASE_LOCKOUT and RESTART. -/
theorem request_csu {kind index : Nat} (h : .csu ∈ routeTouches kind index) : kind = 3 ∧ (index = 6 ∨ index = 19) := by
  unfold routeTouches at h
  split at h <;> simp at h ⊢
  unfold serviceTouches at h
  split at h <;> simp at h ⊢

theorem counterLaw_route (p : Port) (f : Frame) (d : Device) (law : CounterLaw d) : CounterLaw (route p f d).1 := by
  by_cases csu : .csu ∈ routeTouches f.kind.toNat f.index.toNat
  · obtain ⟨kind, index | index⟩ := request_csu csu <;> simp only [route, kind, service, index]
    · exact law.csuRelease p f.value
    · exact law.stoRestart p
  · exact law.only (route_only d p f) csu

end Sys2Proof.Machine

section
open Sys2Proof Sys2Proof.Machine

/-- Settles O5: the clock leaves CSU, and each command that touches it keeps every channel lawful. -/
theorem counterLawKept : Obligations.CounterLawKept := fun _ _ =>
  step_keeps (fun _ law => law.congr rfl) (fun _ _ _ => counterLaw_event) (fun only law => law.only only)
    counterLaw_route

end

end

section
/-! SUPPORT. The settings, their stored copies and CLC's table 8 in their ranges and orders, operation by operation (R123, R174, R179). -/

namespace Sys2Proof.Machine

-- Bodies elaborated side by side would each hold a thread while a default argument waits for the kernel.
set_option Elab.async false

/-! ## One table -/

/-- R165: a value within range and orders keeps a table sound. -/
theorem Sound.set {t : StoredTable} {xs : List Int} (h : Sound t xs) {i : Nat} {v : Int} (range : (rangeOf t i).has v = true)
    (orders : ordersOf t (fun j => if j = i then v else xs.getD j 0) = true) : Sound t (xs.set i v) := by
  obtain ⟨length, ranges, ordered⟩ := h
  by_cases hi : i < xs.length
  · have items : ∀ j, (xs.set i v).getD j 0 = if j = i then v else xs.getD j 0 := fun j => by
      by_cases hj : j = i
      · subst hj; simp [hi]
      · simp [hj, Ne.symm hj]
    refine ⟨by rw [List.length_set, length], fun j hj writable => ?_, by simp only [items, orders]⟩
    rw [items]
    split
    · next same => exact same ▸ range
    · exact ranges j (by simpa using hj) writable
  · rw [List.set_eq_of_length_le (Nat.not_lt.mp hi)]
    exact ⟨length, ranges, ordered⟩

/-- R174, R179: the site order, 0 or as it stood, keeps table 5 sound. -/
theorem Sound.siteOrder {xs : List Int} (h : Sound .t5 xs) {v : Int} (range : (range5 0).has v = true) : Sound .t5 (xs.set 0 v) :=
  h.set range rfl

/-- R174: what a copy holds of a sound table is sound. -/
theorem Sound.storedPart {t : StoredTable} {xs : List Int} (h : Sound t xs) : Sound t (storedPart t xs) := by
  cases t with
  | t5 => exact h.siteOrder (by decide)
  | _ => exact h

/-- R174, R178, R179: a table's copy where it passes its check, and else the factory values. -/
theorem sound_copy {t : StoredTable} {c : StoredCopy} (h : c.valid = true → Sound t c.contents) :
    Sound t (if c.valid then c.contents else factory t) := by
  split
  · next valid => exact h valid
  · exact factory_sound t

/-! ## The law through the operations -/

theorem SettingsLaw.congr {d e : Device} (h : SettingsLaw d) (settings : e.settings = d.settings)
    (copies : e.sto.copies = d.sto.copies) (cooling : e.clc.settings = d.clc.settings) : SettingsLaw e := by
  unfold SettingsLaw
  rw [settings, copies, cooling]
  exact h

theorem SettingsLaw.only {d e : Device} {bs : List Block} (h : SettingsLaw d) (only : Only bs d e)
    (apart : .settings ∉ bs ∧ .sto ∉ bs ∧ .clc ∉ bs := by decide) : SettingsLaw e := by
  obtain ⟨settings, sto, clc⟩ := apart
  exact h.congr (only .settings settings) (congrArg Sto.copies (only .sto sto)) (congrArg Clc.settings (only .clc clc))

theorem SettingsLaw.modSto {d : Device} (h : SettingsLaw d) {f : Sto → Sto} (copies : (f d.sto).copies = d.sto.copies) :
    SettingsLaw (d.modSto f) := h.congr rfl copies rfl

theorem SettingsLaw.setItem {d : Device} (h : SettingsLaw d) {t : StoredTable} {i : Nat} {v : Int} (admits : Admits d t i v) :
    SettingsLaw (d.setItem t i v) := by
  obtain ⟨tables, cooling⟩ := h
  obtain ⟨range, orders⟩ := admits
  have copies : (d.setItem t i v).sto.copies = d.sto.copies := by
    unfold Device.setItem
    dsimp only
    split <;> rfl
  refine ⟨fun u => ⟨?_, copies ▸ (tables u).2⟩, cooling⟩
  change Sound u ((d.settings.set t _).get u)
  rw [PerTable.get_set]
  split
  · next same => exact same ▸ (tables t).1.set range orders
  · exact (tables u).1

theorem SettingsLaw.writeLeaves {d e : Device} (h : SettingsLaw d) (w : WriteLeaves d e) : SettingsLaw e := by
  rcases w with only | ⟨t, i, v, admits, only⟩
  · exact h.only only
  · exact (h.setItem admits).only only

/-! ### CLC takes table 8 at a sample and at a start alone -/

theorem SettingsLaw.modClc {d : Device} (h : SettingsLaw d) {f : Clc → Clc} (same : (f d.clc).settings = d.clc.settings) :
    SettingsLaw (d.modClc f) := h.congr rfl rfl same

theorem SettingsLaw.modStage {d : Device} (h : SettingsLaw d) (c : Stage) (f : CoolStage → CoolStage) :
    SettingsLaw (d.modStage c f) := h.modClc rfl

theorem SettingsLaw.raise {d : Device} (h : SettingsLaw d) (c : EventClass) (sub : Subject) (n : Option Nat) :
    SettingsLaw (d.raise c sub n) := h.only (raise_only d c sub n)

theorem SettingsLaw.stopStages {d : Device} (h : SettingsLaw d) : SettingsLaw d.stopStages :=
  Device.each_keeps h fun _ _ h => Device.when_keeps h fun h => (h.modStage _ _).raise _ _ _

theorem SettingsLaw.formThermal {d : Device} (h : SettingsLaw d) : SettingsLaw d.formThermal :=
  SettingsLaw.only (d := d.modClc _) (h.modClc rfl) (postIf_only _ _ _)

theorem SettingsLaw.deriveOutputs {d : Device} (h : SettingsLaw d) : SettingsLaw d.deriveOutputs := h.modClc rfl

theorem SettingsLaw.tryFlow {d : Device} (h : SettingsLaw d) : SettingsLaw d.tryFlow := h.modClc rfl

theorem SettingsLaw.waitFlow {d : Device} (h : SettingsLaw d) : SettingsLaw d.waitFlow := h.modClc rfl

theorem SettingsLaw.startFlow {d : Device} (h : SettingsLaw d) : SettingsLaw d.startFlow := by
  unfold Device.startFlow
  split <;> exact h.modClc rfl

theorem SettingsLaw.formPump {d : Device} (h : SettingsLaw d) : SettingsLaw d.formPump := by
  unfold Device.formPump
  dsimp only
  split
  · split
    · exact Device.when_keeps h SettingsLaw.tryFlow
    · exact h.modClc rfl
  · split
    · exact Device.when_keeps h SettingsLaw.startFlow
    · exact Device.when_keeps h fun h => SettingsLaw.stopStages (h.modClc rfl)

theorem SettingsLaw.flowFault {d : Device} (h : SettingsLaw d) (detail : Nat) : SettingsLaw (d.flowFault detail) :=
  have faulted : SettingsLaw (d.modClc fun x => { x with flow := .fault }) := h.modClc rfl
  (faulted.stopStages.waitFlow.raise _ _ _).formThermal.deriveOutputs

theorem SettingsLaw.runStages {d : Device} (h : SettingsLaw d) : SettingsLaw d.runStages := by
  unfold Device.runStages
  have stopped := Device.each_keeps (xs := Stage.all) (f := fun c m => m.when
    (!(d.clc.available.take d.clc.demanded).contains c && decide (120000 ≤ (m.stage c).since)) (·.stopStage c)) h
    fun c _ h => Device.when_keeps h fun h => Device.when_keeps h fun h => (h.modStage c _).raise _ _ _
  dsimp only
  split
  · exact Device.when_keeps stopped fun h => SettingsLaw.raise (d := Device.modClc _ _) ((h.modStage _ _).modClc rfl) _ _ _
  · exact stopped

theorem SettingsLaw.sampleBlind {d : Device} (h : SettingsLaw d) : SettingsLaw d.sampleBlind :=
  Device.when_keeps h fun h =>
    have blind : SettingsLaw (d.modClc fun x => { x with mode := .blind, demanded := 0, fanAsked := 50, heaterAsked := 0 }) :=
      h.modClc rfl
    blind.stopStages.raise _ _ _

theorem SettingsLaw.sampleValid {d : Device} (h : SettingsLaw d) (tmax tmin : Int) : SettingsLaw (d.sampleValid tmax tmin) :=
  SettingsLaw.runStages (((h.modClc rfl).modClc rfl).modClc rfl)

theorem SettingsLaw.setHold {d : Device} (h : SettingsLaw d) (tmax : Int) : SettingsLaw (d.setHold tmax) :=
  SettingsLaw.only (d := d.modClc _) (h.modClc rfl) (postIf_only _ _ _)

/-- R108, R123: a sample takes table 8 as it stands. -/
theorem SettingsLaw.coolingSample {s t : State} {supply ret ambient : Int} (h : SettingsLaw s.dev)
    (e : execCoolingSample supply ret ambient s = .next t) : SettingsLaw t.dev := by
  cases e
  have taken : SettingsLaw (s.dev.sampleInputs supply ret ambient) := ⟨h.1, (h.1 .t8).1⟩
  refine SettingsLaw.deriveOutputs (SettingsLaw.formPump ?_)
  split
  · exact (taken.sampleValid _ _).formThermal.setHold _
  · exact taken.sampleBlind.formThermal

theorem SettingsLaw.clcFaultClear {d : Device} (h : SettingsLaw d) (p : Port) (v : Word) :
    SettingsLaw (clcFaultClear p v d).1 := by
  have cleared : ∀ which exhaust, SettingsLaw (d.clearCooling which exhaust) := fun which exhaust =>
    have stages := Device.each_keeps (xs := which) (f := Device.clearStage) h fun c _ h =>
      Device.when_keeps h fun h => h.modStage c _
    have exhausted := Device.when_keeps (b := exhaust) (f := fun m => m.modClc fun x => { x with exhaustFault := false })
      stages fun h => h.modClc rfl
    Device.when_keeps exhausted SettingsLaw.formThermal
  refine row_keeps h (row_keeps h (row_keeps h ?_))
  split
  · exact cleared _ _
  · exact cleared _ _

end Sys2Proof.Machine

end

section
/-! SUPPORT. The settings at the resets, the store's own law, and what every command leaves of both (R174, R175, R177 to R179). -/

namespace Sys2Proof.Machine

-- Bodies elaborated side by side would each hold a thread while a default argument waits for the kernel.
set_option Elab.async false

/-! ## The settings at the resets -/

/-- R35, R58, R76, R105, R123, R141, R154, R167, R174: the settings tables and the stored copies that pass their check are sound. -/
def TablesLaw (d : Device) : Prop :=
  ∀ t, Sound t (d.settings.get t) ∧ ((d.sto.copies.get t).valid = true → Sound t (d.sto.copies.get t).contents)

theorem settingsLaw_iff (d : Device) : SettingsLaw d ↔ TablesLaw d ∧ Sound .t8 d.clc.settings := Iff.rfl

theorem TablesLaw.congr {d e : Device} (h : TablesLaw d) (settings : e.settings = d.settings)
    (copies : e.sto.copies = d.sto.copies) : TablesLaw e := by
  unfold TablesLaw
  rw [settings, copies]
  exact h

/-- R125: CLC takes table 8 as it stands at the start of the blocks. -/
theorem TablesLaw.startBlocks {d : Device} (h : TablesLaw d) : SettingsLaw d.startBlocks := by
  have before := (Only.refl [.handoffs, .csu, .swc, .du, .bal, .gwm, .env] d).startCsu.startSwc.startBal.startGwm.startEnv.startDu
  unfold Device.startBlocks
  generalize d.startCsu.startSwc.startBal.startGwm.startEnv.startDu = m at before ⊢
  have tables : TablesLaw m := h.congr (before .settings (by decide)) (congrArg Sto.copies (before .sto (by decide)))
  have taken : SettingsLaw (m.modClc fun x => { x with
      zones := m.fgu.shown
      stringClosed := .ofFn fun s => (m.sw s.switch).state == .closed
      settings := m.settings.get .t8 }) := ⟨tables, (tables .t8).1⟩
  exact taken.formPump.deriveOutputs

/-- R179: a table marked for reload takes its copy or the factory values, and keeps the site order. -/
theorem TablesLaw.reloaded {d : Device} (h : TablesLaw d) (t : StoredTable) : Sound t (d.reloadedItems t) := by
  unfold Device.reloadedItems
  split
  · have items := sound_copy (h t).2
    cases t with
    | t5 =>
      obtain ⟨length, ranges, -⟩ := (h .t5).1
      exact items.siteOrder (ranges 0 (length ▸ by decide) rfl)
    | _ => exact items
  · exact (h t).1

/-- R179: a warm restart. -/
theorem TablesLaw.restart {d : Device} (h : TablesLaw d) : SettingsLaw d.restart := by
  rw [d.restart_eq]
  have restarted : TablesLaw d.restartedTo := fun t => ⟨by rw [d.restartedTo_settings]; exact h.reloaded t, (h t).2⟩
  have only := d.restart_ready.only
  exact (restarted.congr (only .settings (by decide)) (congrArg Sto.copies (only .sto (by decide)))).startBlocks

/-- R178: a power-on reset, over a store whose copies that pass their check are sound. -/
theorem powerOn_settingsLaw {d : Device}
    (copies : ∀ t, (d.sto.copies.get t).valid = true → Sound t (d.sto.copies.get t).contents) : SettingsLaw d.powerOn := by
  rw [d.powerOn_eq]
  refine TablesLaw.startBlocks fun t => ⟨?_, copies t⟩
  rw [d.loaded_settings]
  exact (sound_copy (copies t)).storedPart

theorem SettingsLaw.settle {d : Device} (h : SettingsLaw d) : SettingsLaw d.settle :=
  Device.when_keeps h fun h => TablesLaw.restart h.1

/-! ## STO's own operations -/

theorem SettingsLaw.proceed {d : Device} (h : SettingsLaw d) : SettingsLaw d.proceed := by
  unfold Device.proceed
  split
  · exact h.modSto rfl
  · exact h.modSto rfl

/-- R174, R175: the table's copy holds the working contents and passes its check, or fails it. -/
theorem SettingsLaw.storeEnds {d : Device} (h : SettingsLaw d) (t : StoredTable) (ok : Bool) : SettingsLaw (d.storeEnds t ok) := by
  obtain ⟨tables, cooling⟩ := h
  have stored : ∀ c : StoredCopy, (c.valid = true → Sound t c.contents) → ∀ (f : Sto → Sto),
      (f d.sto).copies = d.sto.copies.set t c → SettingsLaw (d.modSto f) := fun c hc f hf =>
    ⟨fun u => ⟨(tables u).1, by
      change ((f d.sto).copies.get u).valid = true → Sound u ((f d.sto).copies.get u).contents
      rw [hf, PerTable.get_set]
      split
      · next same => exact same ▸ hc
      · exact (tables u).2⟩, cooling⟩
  unfold Device.storeEnds
  split
  · exact (stored _ (fun _ => (tables t).1.storedPart) _ rfl).raise _ _ _
  · exact (stored { d.sto.copies.get t with valid := false } nofun _ rfl).raise _ _ _

theorem SettingsLaw.updateEnds {d : Device} (h : SettingsLaw d) (r : StandingRecord) (ok : Bool) :
    SettingsLaw (d.updateEnds r ok) := by
  unfold Device.updateEnds
  split
  · exact h.modSto rfl
  · exact SettingsLaw.raise (d := d.modSto _) (h.modSto rfl) _ _ _

theorem SettingsLaw.selfFailed {d : Device} (h : SettingsLaw d) (t : StoredTable) : SettingsLaw (d.selfFailed t) :=
  SettingsLaw.raise (d := d.modSto _) (h.modSto rfl) _ _ _

theorem SettingsLaw.stoStore {d : Device} (h : SettingsLaw d) (p : Port) (v : Word) : SettingsLaw (stoStore p v d).1 := by
  unfold Machine.stoStore
  split
  · exact h
  · exact row_keeps h (row_keeps h (row_keeps h (row_keeps h (h.modSto rfl))))

theorem SettingsLaw.stoClear {d : Device} (h : SettingsLaw d) (p : Port) (v : Word) : SettingsLaw (stoClear p v d).1 := by
  unfold Machine.stoClear
  split
  · exact row_keeps h (row_keeps h (h.modSto rfl))
  · split
    · exact h
    · exact row_keeps h (row_keeps h (h.modSto rfl))

theorem SettingsLaw.stoRestart {d : Device} (h : SettingsLaw d) (p : Port) : SettingsLaw (stoRestart p d).1 :=
  row_keeps h (row_keeps h (SettingsLaw.settle (d := d.modSto _) (h.modSto rfl)))

/-! ## Every command -/

theorem settingsLaw_event {i : Instr} {s t : State} (event : requestOf i = none) (h : exec i s = .next t)
    (law : SettingsLaw s.dev) : SettingsLaw t.dev := by
  by_cases apart : .settings ∉ touches i ∧ .sto ∉ touches i ∧ .clc ∉ touches i
  · obtain ⟨d, e, only⟩ := event_completes event s
    cases h.symm.trans e
    exact law.only only apart
  · cases i with
    | powerOnReset => cases h; exact powerOn_settingsLaw fun u => (law.1 u).2
    | warmRestart => cases h; exact law.settle
    | programmingCompletion ok =>
      cases h
      dsimp only [State.on_dev]
      split
      · exact (law.storeEnds _ ok).proceed.settle
      · exact law
    | updateCompletion ok =>
      cases h
      dsimp only [State.on_dev]
      split
      · exact (law.updateEnds _ ok).proceed.settle
      · exact law
    | integrityCheck upset =>
      cases h
      exact SettingsLaw.settle (Device.when_keeps (d := s.dev.modSto _) (law.modSto rfl) fun h => h.selfFailed _)
    | updateRequest =>
      cases h
      have taken := law.only (took_only s.dev .updateRequest)
      dsimp only [State.on_dev]
      split
      · exact taken.modSto rfl
      · exact taken.modSto rfl
    | coolingSample supply ret ambient => exact law.coolingSample h
    | runFeedbackChange c running =>
      cases h
      exact Device.when_keeps law fun law => Device.when_keeps (law.only (withPins_only _ _)) fun law => law.modStage c _
    | runFeedbackExpiry c =>
      cases h
      exact Device.when_keeps law fun law =>
        (((law.modStage c _).raise _ _ _).raise _ _ _).formThermal.deriveOutputs
    | flowSwitchChange flow =>
      cases h
      refine Device.when_keeps law fun law => SettingsLaw.deriveOutputs ?_
      have seen := law.only (withPins_only s.dev { s.dev.pins with flow := flow })
      dsimp only
      split
      · exact seen.modClc rfl
      · exact seen.modClc rfl
      · exact seen.modClc rfl
      · exact Device.when_keeps seen SettingsLaw.tryFlow
      · exact Device.when_keeps seen SettingsLaw.waitFlow
      · exact seen
    | flowConfirmExpiry => cases h; exact Device.when_keeps law fun law => law.flowFault _
    | flowLossExpiry => cases h; exact Device.when_keeps law fun law => law.flowFault _
    | retryExpiry => cases h; exact Device.when_keeps law fun law => law.tryFlow.deriveOutputs
    | tryExpiry => cases h; exact Device.when_keeps law fun law => law.waitFlow.deriveOutputs
    | provingExpiry =>
      cases h
      exact Device.when_keeps law fun law => (SettingsLaw.formThermal (d := Device.modClc _ _) (law.modClc rfl)).deriveOutputs
    | exhaustFeedbackChange running =>
      cases h
      exact Device.when_keeps law fun law => (law.only (withPins_only _ _)).modClc rfl
    | exhaustFeedbackExpiry =>
      cases h
      exact Device.when_keeps law fun law => Device.when_keeps (law.modClc rfl) fun law => law.raise _ _ _
    | zoneStageHandoffClc zs =>
      cases h
      have heard : SettingsLaw ((s.dev.took (.zoneStageHandoffClc zs)).modClc fun x => { x with zones := zs }) :=
        (law.only (took_only _ _)).modClc rfl
      exact (Device.when_keeps heard SettingsLaw.stopStages).formPump.deriveOutputs
    | stringStateReportClc n st =>
      cases h
      have heard : SettingsLaw ((s.dev.took (.stringStateReportClc n st)).modClc fun x =>
        { x with stringClosed := x.stringClosed.set n (st == .closed) }) := (law.only (took_only _ _)).modClc rfl
      exact heard.formPump.deriveOutputs
    | siteCapWrite p dir f => cases dir <;> cases event
    | deratingWrite p via j f => cases via <;> cases event
    | expectationRewrite p n e f => cases e <;> cases event
    | _ => simp [touches, requestOf] at apart event

/-- The requests that touch the settings, the store or CLC. -/
theorem request_settings {kind index : Nat}
    (h : ¬(.settings ∉ routeTouches kind index ∧ .sto ∉ routeTouches kind index ∧ .clc ∉ routeTouches kind index)) :
    kind = 2 ∨ kind = 3 ∧ (index = 0 ∨ index = 1 ∨ index = 18 ∨ index = 19) := by
  unfold routeTouches at h
  split at h <;> simp at h ⊢
  unfold serviceTouches at h
  split at h <;> simp at h ⊢

theorem settingsLaw_route (p : Port) (f : Frame) (d : Device) (law : SettingsLaw d) : SettingsLaw (route p f d).1 := by
  by_cases apart : .settings ∉ routeTouches f.kind.toNat f.index.toNat ∧ .sto ∉ routeTouches f.kind.toNat f.index.toNat ∧
      .clc ∉ routeTouches f.kind.toNat f.index.toNat
  · exact law.only (route_only d p f) apart
  · obtain kind | ⟨kind, index | index | index | index⟩ := request_settings apart
    · simp only [route, kind]
      exact law.writeLeaves (portWrite_leaves d p _ _ _)
    all_goals simp only [route, kind, service, index]
    · exact law.stoStore p _
    · exact law.stoClear p _
    · exact law.clcFaultClear p _
    · exact law.stoRestart p

end Sys2Proof.Machine

end

section
/-! SUPPORT. The store's own law: the kept checks and the engine, operation by operation (R174, R175, R177, R179). -/

namespace Sys2Proof.Machine

-- Bodies elaborated side by side would each hold a thread while a default argument waits for the kernel.
set_option Elab.async false

/-! ## The two parts of the law -/

/-- R179: the kept checks are those of the working contents over the items that the copies hold. -/
def KeptLaw (d : Device) : Prop := ∀ t, d.sto.kept.get t = storedPart t (d.settings.get t)

/-- R175, R177: the engine's operation has time left exactly while the engine is busy, at most 60 ms and 20 for an update, and an update
waits only for a busy engine. -/
def EngineLaw (x : Sto) : Prop :=
  (x.opTimer = none ↔ x.engine = .idle) ∧
  (∀ n, x.opTimer = some n → n ≤ 60 ∧ ∀ r, x.engine = .updating r → n ≤ 20) ∧
  (x.updatePending = true → x.engine ≠ .idle)

theorem storedPart_eq (t : StoredTable) (xs : List Int) : storedPart t xs = if t = .t5 then xs.set 0 0 else xs := by
  cases t <;> rfl

theorem storeLaw_iff (d : Device) : StoreLaw d ↔ KeptLaw d ∧ EngineLaw d.sto := by
  simp only [StoreLaw, KeptLaw, EngineLaw, storedPart_eq]

/-! ## The engine -/

theorem EngineLaw.congr {x y : Sto} (h : EngineLaw x) (engine : y.engine = x.engine) (timer : y.opTimer = x.opTimer)
    (waiting : y.updatePending = x.updatePending) : EngineLaw y := by
  unfold EngineLaw
  rw [engine, timer, waiting]
  exact h

theorem engineLaw_idle {x : Sto} (engine : x.engine = .idle) (timer : x.opTimer = none) (quiet : x.updatePending = false) :
    EngineLaw x := by simp [EngineLaw, engine, timer, quiet]

/-- R177: an update takes 20 ms, and none waits as it begins. -/
theorem engineLaw_updating {x : Sto} {r : StandingRecord} (engine : x.engine = .updating r) (timer : x.opTimer = some 20)
    (quiet : x.updatePending = false) : EngineLaw x := by simp [EngineLaw, engine, timer, quiet]

/-- R175: programming a table takes at most 60 ms. -/
theorem engineLaw_storing {x : Sto} {t : StoredTable} {n : Nat} (engine : x.engine = .storing t) (timer : x.opTimer = some n)
    (bound : n ≤ 60) : EngineLaw x := by simp [EngineLaw, engine, timer, bound]

/-- R177: an update waits for a busy engine. -/
theorem EngineLaw.wait {x : Sto} (h : EngineLaw x) (busy : x.engine ≠ .idle) : EngineLaw { x with updatePending := true } := by
  obtain ⟨timed, bounds, -⟩ := h
  exact ⟨timed, bounds, fun _ => busy⟩

theorem EngineLaw.tick {x : Sto} (h : EngineLaw x) :
    EngineLaw { x with checkIn := x.checkIn - 1, opTimer := tickDown x.opTimer } := by
  obtain ⟨timed, bounds, waiting⟩ := h
  refine ⟨?_, fun n left => ?_, waiting⟩
  · rw [← timed]
    simp [tickDown]
  · obtain ⟨m, hm, rfl⟩ : ∃ m, x.opTimer = some m ∧ m - 1 = n := by simpa [tickDown] using left
    obtain ⟨most, update⟩ := bounds m hm
    exact ⟨by omega, fun r hr => by have := update r hr; omega⟩

theorem Engine.idles_iff (e : Engine) : e.idles = true ↔ e = .idle := by cases e <;> simp [Engine.idles]

/-! ## The law through the operations -/

theorem StoreLaw.congr {d e : Device} (h : StoreLaw d) (settings : e.settings = d.settings) (kept : e.sto.kept = d.sto.kept)
    (engine : EngineLaw e.sto) : StoreLaw e := by
  obtain ⟨checks, -⟩ := (storeLaw_iff d).mp h
  refine (storeLaw_iff e).mpr ⟨?_, engine⟩
  unfold KeptLaw
  rw [settings, kept]
  exact checks

theorem StoreLaw.engine {d : Device} (h : StoreLaw d) : EngineLaw d.sto := ((storeLaw_iff d).mp h).2

theorem StoreLaw.only {d e : Device} {bs : List Block} (h : StoreLaw d) (only : Only bs d e)
    (apart : .settings ∉ bs ∧ .sto ∉ bs := by decide) : StoreLaw e := by
  obtain ⟨settings, sto⟩ := apart
  have same := only .sto sto
  exact h.congr (only .settings settings) (congrArg Sto.kept same) (by rw [same]; exact h.engine)

/-- A change of the store that leaves the kept checks and the engine as they are. -/
theorem StoreLaw.modSto {d : Device} (h : StoreLaw d) {f : Sto → Sto} (kept : (f d.sto).kept = d.sto.kept)
    (engine : (f d.sto).engine = d.sto.engine) (timer : (f d.sto).opTimer = d.sto.opTimer)
    (waiting : (f d.sto).updatePending = d.sto.updatePending) : StoreLaw (d.modSto f) :=
  h.congr rfl kept (h.engine.congr engine timer waiting)

theorem StoreLaw.raise {d : Device} (h : StoreLaw d) (c : EventClass) (sub : Subject) (n : Option Nat) :
    StoreLaw (d.raise c sub n) := h.only (raise_only d c sub n)

/-- R179: a WRITE sets the kept check afresh, and one of the site order leaves what the check is over. -/
theorem StoreLaw.setItem {d : Device} (h : StoreLaw d) (t : StoredTable) (i : Nat) (v : Int) : StoreLaw (d.setItem t i v) := by
  obtain ⟨checks, engine⟩ := (storeLaw_iff d).mp h
  by_cases order : t = .t5 ∧ i = 0
  · obtain ⟨rfl, rfl⟩ := order
    refine (storeLaw_iff _).mpr ⟨fun u => ?_, engine⟩
    change d.sto.kept.get u = storedPart u ((d.settings.set .t5 _).get u)
    rw [checks, PerTable.get_set]
    split
    · next same => subst same; simp [storedPart]
    · rfl
  · have copied : inCopy t i = true := by simpa [inCopy, imp_iff_not_or] using order
    have sto : (d.setItem t i v).sto = d.sto.keep t ((d.settings.get t).set i v) := by simp [Device.setItem, copied]
    refine (storeLaw_iff _).mpr ⟨fun u => ?_, sto ▸ engine.congr rfl rfl rfl⟩
    rw [sto]
    change (d.sto.kept.set t _).get u = storedPart u ((d.settings.set t _).get u)
    rw [PerTable.get_set, PerTable.get_set]
    split
    · next same => rw [same]
    · exact checks u

theorem StoreLaw.writeLeaves {d e : Device} (h : StoreLaw d) (w : WriteLeaves d e) : StoreLaw e := by
  rcases w with only | ⟨t, i, v, -, only⟩
  · exact h.only only
  · exact (h.setItem t i v).only only

theorem StoreLaw.startUpdate {d : Device} (h : StoreLaw d) : StoreLaw d.startUpdate :=
  h.congr rfl rfl (engineLaw_updating rfl rfl rfl)

/-- R175, R177: after an operation the engine turns to an update that waits, or to IDLE. -/
theorem StoreLaw.proceed {d : Device} (h : StoreLaw d) : StoreLaw d.proceed := by
  unfold Device.proceed
  split
  · exact h.startUpdate
  · next quiet => exact h.congr rfl rfl (engineLaw_idle rfl rfl (by simpa using quiet))

theorem StoreLaw.storeEnds {d : Device} (h : StoreLaw d) (t : StoredTable) (ok : Bool) : StoreLaw (d.storeEnds t ok) := by
  unfold Device.storeEnds
  split
  · exact StoreLaw.raise (d := d.modSto _) (h.modSto rfl rfl rfl rfl) _ _ _
  · exact StoreLaw.raise (d := d.modSto _) (h.modSto rfl rfl rfl rfl) _ _ _

theorem StoreLaw.updateEnds {d : Device} (h : StoreLaw d) (r : StandingRecord) (ok : Bool) : StoreLaw (d.updateEnds r ok) := by
  unfold Device.updateEnds
  split
  · exact h.modSto rfl rfl rfl rfl
  · exact StoreLaw.raise (d := d.modSto _) (h.modSto rfl rfl rfl rfl) _ _ _

theorem StoreLaw.selfFailed {d : Device} (h : StoreLaw d) (t : StoredTable) : StoreLaw (d.selfFailed t) :=
  StoreLaw.raise (d := d.modSto _) (h.modSto rfl rfl rfl rfl) _ _ _

theorem StoreLaw.updateRequest {d : Device} (h : StoreLaw d) :
    StoreLaw (if d.sto.engine.idles then d.startUpdate else d.modSto fun x => { x with updatePending := true }) := by
  split
  · exact h.startUpdate
  · next busy => exact h.congr rfl rfl (h.engine.wait fun idle => busy ((Engine.idles_iff _).mpr idle))

/-! ## The resets -/

/-- R179: a warm restart sets the kept check of each table it reloads afresh. -/
theorem StoreLaw.restart {d : Device} (h : StoreLaw d) : StoreLaw d.restart := by
  obtain ⟨checks, engine⟩ := (storeLaw_iff d).mp h
  have only := d.restart_ready.only
  have start := Device.startBlocks_keeps d.restart_ready.ready
  have sto : d.restart.sto = d.restartedTo.sto := by rw [d.restart_eq, start.sto, only .sto (by decide)]
  have settings : d.restart.settings = d.restartedTo.settings := by rw [d.restart_eq, start.settings, only .settings (by decide)]
  refine (storeLaw_iff _).mpr ⟨fun t => ?_, sto ▸ engine.congr rfl rfl rfl⟩
  rw [sto, settings, d.restartedTo_kept, d.restartedTo_settings, Device.reloadedKept]
  split
  · rfl
  · next unmarked => rw [Device.reloadedItems, if_neg unmarked, checks]

/-- R178, R180: a power-on reset. -/
theorem powerOn_storeLaw (d : Device) : StoreLaw d.powerOn := by
  have start := Device.startBlocks_keeps d.loaded_ready
  refine (storeLaw_iff _).mpr ⟨fun t => ?_, ?_⟩
  · rw [d.powerOn_eq, start.sto, start.settings, d.loaded_kept, d.loaded_settings, loadTable, storedPart_storedPart]
  · rw [d.powerOn_eq, start.sto]
    exact engineLaw_idle rfl rfl rfl

theorem StoreLaw.settle {d : Device} (h : StoreLaw d) : StoreLaw d.settle := Device.when_keeps h StoreLaw.restart

/-! ## The services -/

theorem StoreLaw.stoStore {d : Device} (h : StoreLaw d) (p : Port) (v : Word) : StoreLaw (stoStore p v d).1 := by
  unfold Machine.stoStore
  split
  · exact h
  · exact row_keeps h (row_keeps h (row_keeps h (row_keeps h
      (h.congr rfl rfl (engineLaw_storing rfl rfl d.sto.storeTime_bounds.2)))))

theorem StoreLaw.stoClear {d : Device} (h : StoreLaw d) (p : Port) (v : Word) : StoreLaw (stoClear p v d).1 := by
  unfold Machine.stoClear
  split
  · exact row_keeps h (row_keeps h (h.modSto rfl rfl rfl rfl))
  · split
    · exact h
    · exact row_keeps h (row_keeps h (h.modSto rfl rfl rfl rfl))

theorem StoreLaw.stoRestart {d : Device} (h : StoreLaw d) (p : Port) : StoreLaw (stoRestart p d).1 :=
  row_keeps h (row_keeps h (StoreLaw.settle (d := d.modSto _) (h.modSto rfl rfl rfl rfl)))

/-! ## Every command -/

/-- The events that touch the settings or the store: the resets and STO's own. -/
theorem event_store {i : Instr} (h : ¬(.settings ∉ touches i ∧ .sto ∉ touches i)) (event : requestOf i = none) :
    i = .powerOnReset ∨ i = .warmRestart ∨ (∃ ok, i = .programmingCompletion ok) ∨ (∃ ok, i = .updateCompletion ok) ∨
      (∃ upset, i = .integrityCheck upset) ∨ i = .updateRequest := by
  cases i with
  | siteCapWrite p dir f => cases dir <;> cases event
  | deratingWrite p via j f => cases via <;> cases event
  | expectationRewrite p n e f => cases e <;> cases event
  | _ => simp [touches, restartTouches, requestOf] at h event ⊢

theorem storeLaw_event {i : Instr} {s t : State} (event : requestOf i = none) (h : exec i s = .next t)
    (law : StoreLaw s.dev) : StoreLaw t.dev := by
  by_cases apart : .settings ∉ touches i ∧ .sto ∉ touches i
  · obtain ⟨d, e, only⟩ := event_completes event s
    cases h.symm.trans e
    exact law.only only apart
  · obtain rfl | rfl | ⟨ok, rfl⟩ | ⟨ok, rfl⟩ | ⟨upset, rfl⟩ | rfl := event_store apart event <;> cases h
    · exact powerOn_storeLaw _
    · exact law.settle
    · dsimp only [State.on_dev]
      split
      · exact (law.storeEnds _ ok).proceed.settle
      · exact law
    · dsimp only [State.on_dev]
      split
      · exact (law.updateEnds _ ok).proceed.settle
      · exact law
    · exact StoreLaw.settle (Device.when_keeps (d := s.dev.modSto _) (law.modSto rfl rfl rfl rfl) fun h => h.selfFailed _)
    · exact (law.only (took_only s.dev .updateRequest)).updateRequest

theorem storeLaw_route (p : Port) (f : Frame) (d : Device) (law : StoreLaw d) : StoreLaw (route p f d).1 := by
  by_cases apart : .settings ∉ routeTouches f.kind.toNat f.index.toNat ∧ .sto ∉ routeTouches f.kind.toNat f.index.toNat ∧
      .clc ∉ routeTouches f.kind.toNat f.index.toNat
  · obtain ⟨settings, sto, -⟩ := apart
    exact law.only (route_only d p f) ⟨settings, sto⟩
  · obtain kind | ⟨kind, index | index | index | index⟩ := request_settings apart
    · simp only [route, kind]
      exact law.writeLeaves (portWrite_leaves d p _ _ _)
    all_goals simp only [route, kind, service, index]
    · exact law.stoStore p _
    · exact law.stoClear p _
    · exact law.only (clcFaultClear_only d p _)
    · exact law.stoRestart p

theorem StoreLaw.tick {d : Device} (h : StoreLaw d) : StoreLaw d.tick := h.congr rfl rfl h.engine.tick

end Sys2Proof.Machine

section
open Sys2Proof Sys2Proof.Machine

/-- Settles O7: the clock leaves the settings and the copies, and counts the engine's operation down; each command that touches them
keeps both laws. -/
theorem settingsLawKept : Obligations.SettingsLawKept := fun _ _ h =>
  ⟨step_keeps (fun _ law => law.congr rfl rfl rfl) (fun _ _ _ => settingsLaw_event) (fun only law => law.only only)
      settingsLaw_route h,
    step_keeps (fun _ law => law.tick) (fun _ _ _ => storeLaw_event) (fun only law => law.only only) storeLaw_route h⟩

end

end

section
/-! SUPPORT. What CSU's operations leave of one string and hand on (R21 to R30). -/

namespace Sys2Proof

theorem PerChannel.set_get {α : Type} (x : PerChannel α) (k : Channel) : x.set k (x.get k) = x := by cases k <;> rfl

end Sys2Proof

namespace Sys2Proof.Machine

-- Bodies elaborated side by side would each hold a thread while a default argument waits for the kernel.
set_option Elab.async false

/-! ## One string's record, and the hand-offs made for it -/

/-- The part with the record of string n replaced and hand-offs made. -/
def Device.withString (d : Device) (n : StringId) (u : StringSup) (hs : List Instr) : Device :=
  { d with csu := ⟨d.csu.strings.set n u⟩, handoffs := d.handoffs ++ hs }

/-- R34: the event of a trip flag that moved. -/
def edgeEvents (n : StringId) (k : Channel) (before after : Bool) : List Instr :=
  if before = after then []
  else [.eventOccurrence ⟨if after then .channelTripped else .channelCleared, .string n, some k.num, false⟩]

/-- R24: the event and the update request of a new cause. -/
def lockoutEvents (n : StringId) (causes : Causes) (c : Cause) : List Instr :=
  if causesHas causes c then [] else [.eventOccurrence ⟨.stringLockout, .string n, some c.code, false⟩, .updateRequest]

/-- R30: the hand-offs of a health that changed. -/
def healthHandoffs (n : StringId) (before after : Health) : List Instr :=
  if after = before then [] else [.healthHandoffSwc n after, .balHealthHandoff n after]

/-- R21, R22: a channel after one evaluation under table 2 as it stands. -/
def Device.movedChannel (d : Device) (k : Channel) (fails : Bool) (c : ChannelRec) : ChannelRec :=
  (c.adjust (d.limitOf k) (d.holdOf k)).debounce fails

/-- R34: the events of one channel's evaluation, of the settings first. -/
def Device.movedEvents (d : Device) (n : StringId) (k : Channel) (fails : Bool) (c : ChannelRec) : List Instr :=
  edgeEvents n k c.tripped (c.adjust (d.limitOf k) (d.holdOf k)).tripped ++
    edgeEvents n k (c.adjust (d.limitOf k) (d.holdOf k)).tripped (d.movedChannel k fails c).tripped

/-- R23: the hard check of a channel is met. -/
def Device.hardFails (d : Device) (n : StringId) (r : ScanRecord) : Channel → Bool
  | .ov => d.hardMet n r .ovHard
  | .uv => d.hardMet n r .uvHard
  | .ot => d.hardMet n r .otHard
  | _ => false

theorem causesAdd_of_has {x : Causes} {c : Cause} (h : causesHas x c = true) : causesAdd x c = x := by
  obtain ⟨ov, uv, ot, weld, lost⟩ := x
  cases c <;> simp_all [causesHas, causesAdd]

section
variable (d : Device) (n : StringId) (u : StringSup) (hs : List Instr)

theorem Device.withString_self : d.withString n (d.sup n) [] = d := by
  cases n <;> simp [Device.withString, Device.sup, PerString.set, PerString.get]

@[simp] theorem Device.withString_sup : (d.withString n u hs).sup n = u := by
  simp [Device.withString, Device.sup]

@[simp] theorem Device.withString_modSup (f : StringSup → StringSup) :
    (d.withString n u hs).modSup n f = d.withString n (f u) hs := by
  cases n <;> rfl

@[simp] theorem Device.withString_post (i : Instr) : (d.withString n u hs).post i = d.withString n u (hs ++ [i]) := by
  simp [Device.withString, Device.post]

@[simp] theorem Device.withString_modChannel (k : Channel) (f : ChannelRec → ChannelRec) :
    (d.withString n u hs).modChannel n k f =
      d.withString n { u with channels := u.channels.set k (f (u.channels.get k)) } hs := d.withString_modSup n u hs _

@[simp] theorem Device.withString_raiseEdge (k : Channel) (before after : Bool) :
    (d.withString n u hs).raiseEdge n k before after = d.withString n u (hs ++ edgeEvents n k before after) := by
  unfold Device.raiseEdge edgeEvents
  by_cases same : before = after <;> simp [same, Device.raise]

/-! ### Evaluations (R20 to R22) -/

@[simp] theorem Device.withString_evaluateChannel (fails : Bool) (k : Channel) :
    (d.withString n u hs).evaluateChannel n fails k =
      d.withString n { u with channels := u.channels.set k (d.movedChannel k fails (u.channels.get k)) }
        (hs ++ d.movedEvents n k fails (u.channels.get k)) := by
  unfold Device.evaluateChannel
  simp only [withString_sup, withString_modChannel, withString_raiseEdge, List.append_assoc]
  rfl

/-- R20, R28: operations on distinct channels, each of which reads and sets its own channel alone. -/
theorem Device.withString_eachChannel {op : Channel → Device → Device} {f : Channel → ChannelRec → ChannelRec}
    {events : Channel → ChannelRec → List Instr}
    (step : ∀ u hs k, op k (d.withString n u hs) =
      d.withString n { u with channels := u.channels.set k (f k (u.channels.get k)) } (hs ++ events k (u.channels.get k)))
    {ks : List Channel} (distinct : ks.Nodup) :
    (d.withString n u hs).each ks op =
      d.withString n { u with channels := .ofFn fun k => if k ∈ ks then f k (u.channels.get k) else u.channels.get k }
        (hs ++ ks.flatMap fun k => events k (u.channels.get k)) := by
  induction ks generalizing u hs with
  | nil =>
    have same : (PerChannel.ofFn fun k => u.channels.get k) = u.channels := PerChannel.ext_get fun k => by simp
    simp [Device.each, same]
  | cons j ks ih =>
    obtain ⟨new, distinct⟩ := List.nodup_cons.mp distinct
    have others : ∀ k ∈ ks, k ≠ j := fun k hk same => new (same ▸ hk)
    change (op j (d.withString n u hs)).each ks op = _
    rw [step, ih _ _ distinct]
    have channels : (PerChannel.ofFn fun k =>
        if k ∈ ks then f k ((u.channels.set j (f j (u.channels.get j))).get k) else (u.channels.set j (f j (u.channels.get j))).get k) =
        .ofFn fun k => if k ∈ j :: ks then f k (u.channels.get k) else u.channels.get k := PerChannel.ext_get fun k => by
      by_cases same : k = j
      · subst same; simp [new]
      · simp [same]
    have after : ks.flatMap (fun k => events k ((u.channels.set j (f j (u.channels.get j))).get k)) =
        ks.flatMap fun k => events k (u.channels.get k) := List.flatMap_congr fun k hk => by simp [others k hk]
    rw [after, List.append_assoc, List.flatMap_cons]
    simp only [channels]

/-- R20, R34: the seven channels in order. -/
theorem Device.withString_evaluateChannels (fails : Channel → Bool) :
    (d.withString n u hs).each Channel.all (fun k => Device.evaluateChannel n (fails k) k) =
      d.withString n { u with channels := .ofFn fun k => d.movedChannel k (fails k) (u.channels.get k) }
        (hs ++ Channel.all.flatMap fun k => d.movedEvents n k (fails k) (u.channels.get k)) :=
  (withString_eachChannel d n u hs (fun u hs k => withString_evaluateChannel d n u hs (fails k) k) (by decide)).trans rfl

/-! ### Causes (R23 to R25) -/

@[simp] theorem Device.withString_addCause (c : Cause) :
    (d.withString n u hs).addCause n c =
      d.withString n { u with causes := causesAdd u.causes c } (hs ++ lockoutEvents n u.causes c) := by
  unfold Device.addCause lockoutEvents
  by_cases has : causesHas u.causes c = true <;> simp [has, Device.when, Device.raise, causesAdd_of_has]

/-- R23: one hard check, met or not. -/
theorem Device.withString_hardCheck (met : Bool) (k : Channel) (c : Cause) :
    (d.withString n u hs).when met (·.hardHit n ⟨c, k⟩) =
      d.withString n { u with
          channels := u.channels.set k (if met then (u.channels.get k).pin else u.channels.get k)
          causes := if met then causesAdd u.causes c else u.causes }
        (hs ++ if met then edgeEvents n k (u.channels.get k).tripped true ++ lockoutEvents n u.causes c else []) := by
  cases met
  · simp [Device.when, PerChannel.set_get]
  · simp [Device.when, Device.hardHit]

/-- R23, R24: the hard checks in order, the one of channel k met where `met k` holds. -/
theorem Device.withString_hardChecks {met : Channel → Bool}
    (others : met .spread = false ∧ met .oc = false ∧ met .tsens = false ∧ met .meas = false) :
    (((d.withString n u hs).when (met .ov) (·.hardHit n ⟨.ovHard, .ov⟩)).when (met .uv) (·.hardHit n ⟨.uvHard, .uv⟩)).when
        (met .ot) (·.hardHit n ⟨.otHard, .ot⟩) =
      d.withString n { u with
          channels := .ofFn fun k => if met k then (u.channels.get k).pin else u.channels.get k
          causes := { u.causes with
            ovHard := u.causes.ovHard || met .ov, uvHard := u.causes.uvHard || met .uv, otHard := u.causes.otHard || met .ot } }
        (hs ++ [(⟨.ovHard, .ov⟩ : HardCheck), ⟨.uvHard, .uv⟩, ⟨.otHard, .ot⟩].flatMap fun h =>
          if met h.channel then
            edgeEvents n h.channel (u.channels.get h.channel).tripped true ++ lockoutEvents n u.causes h.cause
          else []) := by
  obtain ⟨spread, oc, tsens, meas⟩ := others
  rw [withString_hardCheck, withString_hardCheck, withString_hardCheck]
  simp only [List.flatMap_cons, List.flatMap_nil, List.append_assoc, List.append_nil, PerChannel.ofFn, spread, oc, tsens, meas]
  generalize met .ov = ov
  generalize met .uv = uv
  generalize met .ot = ot
  cases ov <;> cases uv <;> cases ot <;> simp only [Bool.or_false, Bool.or_true] <;> rfl

theorem Device.withString_applyHard (r : ScanRecord) :
    (d.withString n u hs).applyHard n r =
      d.withString n { u with
          channels := .ofFn fun k => if d.hardFails n r k then (u.channels.get k).pin else u.channels.get k
          causes := { u.causes with
            ovHard := u.causes.ovHard || d.hardFails n r .ov
            uvHard := u.causes.uvHard || d.hardFails n r .uv
            otHard := u.causes.otHard || d.hardFails n r .ot } }
        (hs ++ [(⟨.ovHard, .ov⟩ : HardCheck), ⟨.uvHard, .uv⟩, ⟨.otHard, .ot⟩].flatMap fun h =>
          if d.hardFails n r h.channel then
            edgeEvents n h.channel (u.channels.get h.channel).tripped true ++ lockoutEvents n u.causes h.cause
          else []) := by
  have met : ∀ u hs c, (d.withString n u hs).hardMet n r c = d.hardMet n r c := fun _ _ c => by cases c <;> rfl
  have checks := withString_hardChecks d n u hs (met := d.hardFails n r) ⟨rfl, rfl, rfl, rfl⟩
  rw [withString_hardCheck, withString_hardCheck, withString_hardCheck] at checks
  simp only [Device.applyHard, Device.each, hardChecks, List.foldl_cons, List.foldl_nil]
  rw [met, withString_hardCheck, met, withString_hardCheck, met, withString_hardCheck]
  exact checks

/-! ### Health (R29, R30) -/

theorem Device.withString_healthNow :
    (d.withString n u hs).healthNow n = healthOf u.causes (d.monitor n).state u.channels := by
  unfold Device.healthNow
  rw [withString_sup]
  rfl

theorem Device.withString_deriveHealth {h : Health} (derived : healthOf u.causes (d.monitor n).state u.channels = h) :
    (d.withString n u hs).deriveHealth n = d.withString n { u with health := h } (hs ++ healthHandoffs n u.health h) := by
  unfold Device.deriveHealth healthHandoffs
  rw [withString_healthNow, derived, withString_sup]
  by_cases same : h = u.health
  · subst same; simp
  · simp [same]

theorem Device.withString_deriveHealthAlone {h : Health} (derived : healthOf u.causes (d.monitor n).state u.channels = h) :
    (d.withString n u hs).deriveHealthAlone n = d.withString n { u with health := h }
      (hs ++ (healthHandoffs n u.health h ++ if h = u.health then [] else [.envelopeRecomputation (.health n h)])) := by
  unfold Device.deriveHealthAlone
  dsimp only
  rw [withString_deriveHealth d n u hs derived, withString_healthNow, derived, withString_sup]
  by_cases same : h = u.health <;> simp [same, Device.postIf]

theorem Device.withString_endEvaluation {h : Health} (derived : healthOf u.causes (d.monitor n).state u.channels = h)
    (copy : Option EnvCopy) :
    (d.withString n u hs).endEvaluation n copy = d.withString n { u with health := h }
      (hs ++ (healthHandoffs n u.health h ++ [.envelopeRecomputation (.evaluation n copy h)])) := by
  unfold Device.endEvaluation
  dsimp only
  rw [withString_deriveHealth d n u hs derived, withString_healthNow, derived]
  simp

/-! ### The release (R28) -/

/-- R28: the pinned channels are released and the rest stand. -/
theorem Device.withString_unpin :
    (d.withString n u hs).each Channel.all (fun k m => m.modChannel n k (·.unpin (m.limitOf k) (m.holdOf k))) =
      d.withString n { u with
        channels := .ofFn fun k => (u.channels.get k).unpin (d.limitOf k) (d.holdOf k) } hs := by
  have step : ∀ u hs k, (d.withString n u hs).modChannel n k
        (·.unpin ((d.withString n u hs).limitOf k) ((d.withString n u hs).holdOf k)) =
      d.withString n { u with channels := u.channels.set k ((u.channels.get k).unpin (d.limitOf k) (d.holdOf k)) } (hs ++ []) :=
    fun u hs k => by rw [List.append_nil]; exact withString_modChannel d n u hs k _
  have all := withString_eachChannel d n u hs (op := fun k m => m.modChannel n k (·.unpin (m.limitOf k) (m.holdOf k)))
    (f := fun k c => c.unpin (d.limitOf k) (d.holdOf k)) (events := fun _ _ => []) step (ks := Channel.all) (by decide)
  exact all.trans (congrArg (d.withString n _) (List.append_nil hs))

end

end Sys2Proof.Machine

end

section
/-! SUPPORT. RELEASE_LOCKOUT (R27, R28). -/

namespace Sys2Proof

/-- A test of the module temperatures that are not OPEN. -/
theorem ScanRecord.temps_any (r : ScanRecord) (b : Int → Bool) :
    r.temps.any b = r.modules.any fun m => m.temp.any b := by
  rw [ScanRecord.temps, List.any_filterMap]
  rfl

end Sys2Proof

namespace Sys2Proof.Machine

-- Bodies elaborated side by side would each hold a thread while a default argument waits for the kernel.
set_option Elab.async false

/-- R19: the failure condition of a channel on a record. -/
def Device.FailsOn (d : Device) (n : StringId) (r : ScanRecord) (gap : Bool) : Channel → Prop
  | .ov => ∃ m ∈ r.modules, d.threshold n 0 < m.vmax
  | .uv => ∃ m ∈ r.modules, m.vmin < d.threshold n 2
  | .ot => ∃ m ∈ r.modules, ∃ x, m.temp = some x ∧ d.threshold n 4 < x
  | .spread => d.threshold n 6 < r.vmax - r.vmin
  | .oc => d.threshold n 7 < (r.current.natAbs : Int)
  | .tsens => ∃ m ∈ r.modules, m.temp = none
  | .meas => gap = true ∨ r.selfTestFail = true

theorem Device.fails_iff (d : Device) (n : StringId) (r : ScanRecord) (gap : Bool) (k : Channel) :
    d.fails n r gap k = true ↔ d.FailsOn n r gap k := by
  cases k with
  | ot => simp [Device.fails, Device.FailsOn, ScanRecord.temps_any, Option.any_eq_true]
  | _ => simp [Device.fails, Device.FailsOn]

/-- R27: a record within the soft thresholds. -/
theorem Device.withinSoft_iff (d : Device) (n : StringId) (r : ScanRecord) : d.withinSoft n r = true ↔ WithinSoft d n r := by
  have passes : ∀ k, d.fails n r false k = false ↔ ¬d.FailsOn n r false k := fun k => by
    rw [← d.fails_iff, Bool.not_eq_true]
  have known : ∀ m : ModuleEntry, (∃ x, m.temp = some x ∧ x ≤ d.threshold n 4) ↔
      (∀ x, m.temp = some x → x ≤ d.threshold n 4) ∧ m.temp ≠ none := fun m => by cases m.temp <;> simp
  simp only [Device.withinSoft, WithinSoft, List.all_cons, List.all_nil, Bool.and_true, Bool.and_eq_true, Bool.not_eq_true', passes,
    Device.FailsOn, not_exists, not_and, Int.not_lt, known, forall_and]
  tauto

/-- R27: the checks of a trusted request of the Site Port for a string, in order. -/
theorem csuRelease_rows {d : Device} {v : Word} {n : StringId} (trusted : (d.standing .site).trusted = true)
    (hn : n.num = v.toNat) :
    let locked := (d.sup n).causes ≠ .none
    let atRest := (d.sw n.switch).state = .opened
    let fresh := (d.monitor n).state = .present ∧ (d.monitor n).stale = false
    let within := ∃ r, (d.monitor n).held = some r ∧ WithinSoft d n r
    let answers (e : Device × Answer) := csuRelease .site v d = e
    (¬locked → answers (d, .state 1)) ∧ (locked → ¬atRest → answers (d, .state 2)) ∧
    (locked → atRest → ¬fresh → answers (d, .state 3)) ∧ (locked → atRest → fresh → ¬within → answers (d, .state 4)) ∧
    (locked → atRest → fresh → within → answers (d.releaseLockout n, .ok 0)) := by
  intro locked atRest fresh within answers
  have rows : csuRelease .site v d =
      if !causesAny (d.sup n).causes then (d, .state 1)
      else if (d.sw n.switch).state ≠ .opened then (d, .state 2)
      else if (d.monitor n).state ≠ .present || (d.monitor n).stale then (d, .state 3)
      else if !((d.monitor n).held.any (d.withinSoft n)) then (d, .state 4)
      else (d.releaseLockout n, .ok 0) := by
    simp only [csuRelease, ne_eq, not_true_eq_false, if_false, trusted, Bool.not_true, Bool.false_eq_true, ← hn,
      StringId.ofNum_num]
    rfl
  have free : (!causesAny (d.sup n).causes) = true ↔ ¬locked := by
    rw [Bool.not_eq_true', ← Bool.not_eq_true, causesAny_iff]
  have old : ((d.monitor n).state ≠ .present || (d.monitor n).stale) = true ↔ ¬fresh := by
    simp [fresh, ← imp_iff_not_or]
  have out : (!((d.monitor n).held.any (d.withinSoft n))) = true ↔ ¬within := by
    rw [Bool.not_eq_true', ← Bool.not_eq_true]
    simp only [Option.any_eq_true, Device.withinSoft_iff, within]
  refine ⟨fun h1 => ?_, fun h1 h2 => ?_, fun h1 h2 h3 => ?_, fun h1 h2 h3 h4 => ?_, fun h1 h2 h3 h4 => ?_⟩
  · exact rows.trans (if_pos (free.mpr h1))
  all_goals refine rows.trans ((if_neg (mt free.mp (not_not.mpr h1))).trans ?_)
  · exact if_pos h2
  all_goals refine (if_neg (not_not.mpr h2)).trans ?_
  · exact if_pos (old.mpr h3)
  all_goals refine (if_neg (mt old.mp (not_not.mpr h3))).trans ?_
  · exact if_pos (out.mpr h4)
  · exact if_neg (mt out.mp (not_not.mpr h4))

/-- R28, R29: an unlocked PRESENT string is TRIPPED after the release where a channel was pinned or tripped. -/
theorem healthOf_unpinned (channels : PerChannel ChannelRec) (limit hold : Channel → Nat) :
    healthOf .none .present (.ofFn fun k => (channels.get k).unpin (limit k) (hold k)) =
      if Channel.all.any fun k => (channels.get k).pinned || (channels.get k).tripped then .tripped else .available := by
  have tripped : ∀ (c : ChannelRec) (l h : Nat), (c.unpin l h).tripped = (c.pinned || c.tripped) := fun c l h => by
    unfold ChannelRec.unpin
    cases pinned : c.pinned <;> simp
  have free : causesAny .none = false := rfl
  simp only [healthOf, free, Bool.false_eq_true, if_false, PerChannel.get_ofFn, tripped]

/-- R28: the release, the health going out where it changed. -/
theorem releaseLockout_eq (d : Device) (n : StringId) {health : Health} (derived : healthOf .none (d.monitor n).state
    (.ofFn fun k => ((d.sup n).channels.get k).unpin (d.limitOf k) (d.holdOf k)) = health) :
    d.releaseLockout n = d.withString n ⟨.ofFn fun k => ((d.sup n).channels.get k).unpin (d.limitOf k) (d.holdOf k), .none, health,
        (d.sup n).failing⟩
      (.updateRequest :: (healthHandoffs n (d.sup n).health health ++
        if health = (d.sup n).health then [] else [.envelopeRecomputation (.health n health)])) := by
  conv_lhs => rw [← d.withString_self n]
  unfold Device.releaseLockout
  dsimp only
  rw [Device.withString_modSup, Device.withString_post, Device.withString_unpin, Device.withString_deriveHealthAlone _ _ _ _ derived]
  simp

end Sys2Proof.Machine

section
open Sys2Proof Sys2Proof.Machine

/-- Settles O27: the rows of R27 one by one, and the release as `releaseLockout_eq` has it. -/
theorem releaseLockoutUnpinsTheChannels : Obligations.ReleaseLockoutUnpinsTheChannels := by
  intro p f s h
  obtain ⟨r, hr, hrun, hchk⟩ := h
  cases hr
  have trusted : (s.dev.standing p).trusted = true ↔ Trusted s.dev p := Standing.trusted_iff _
  refine ⟨_, rfl, fun hp => ?_, fun hp ht => ?_, fun hp ht => ?_⟩
  · exact request_refuses hrun hchk .denied (by simp [csuRelease, hp])
  · have barred : ((s.dev.clockOut p).standing p).trusted = false := Bool.eq_false_iff.mpr (mt trusted.mp ht)
    exact request_refuses hrun hchk .noStanding (by subst hp; simp [csuRelease, barred])
  · subst hp
    have trust : ((s.dev.clockOut .site).standing .site).trusted = true := trusted.mpr ht
    refine ⟨fun hv => ?_, fun n hn => ?_⟩
    · exact request_refuses hrun hchk .range (by simp [csuRelease, trust, StringId.ofNum_of_le hv])
    intro u m locked atRest fresh within
    obtain ⟨free, moved, old, out, taken⟩ := csuRelease_rows (d := s.dev.clockOut .site) trust hn
    have row : ∀ {a}, csuRelease .site f.value (s.dev.clockOut .site) = (s.dev.clockOut .site, a) →
        Replies s (s.on (·.request .site (f.frame 6) (csuRelease .site f.value))) .site 3 a.result a.value s.dev :=
      fun h => request_replies hrun hchk s.dev _ rfl h
    refine ⟨fun h1 => row (free h1), fun h1 h2 => row (moved h1 h2), fun h1 h2 h3 => row (old h1 h2 h3),
      fun h1 h2 h3 h4 => row (out h1 h2 h3 h4), fun h1 h2 h3 h4 => ?_⟩
    intro channels health
    have derived : healthOf .none (s.dev.monitor n).state channels = health := by
      rw [h3.1]
      exact healthOf_unpinned _ _ _
    have after := taken h1 h2 h3 h4
    rw [releaseLockout_eq (s.dev.clockOut .site) n (health := health) derived] at after
    let hs : List Instr :=
      healthHandoffs n u.health health ++ if health = u.health then [] else [.envelopeRecomputation (.health n health)]
    refine ⟨hs, fun same => ?_, fun changed => ?_, request_replies hrun hchk _ (.ok 0) rfl after⟩
    · simp [hs, healthHandoffs, same]
    · simp [hs, healthHandoffs, changed]

end

end

section
/-! SUPPORT. What an evaluation leaves of its string (R20 to R30, R34). -/

namespace Sys2Proof.Machine

-- Bodies elaborated side by side would each hold a thread while a default argument waits for the kernel.
set_option Elab.async false

/-- R22: the trip flag once the settings have come in. -/
theorem ChannelRec.adjust_tripped (c : ChannelRec) (limit hold : Nat) :
    (c.adjust limit hold).tripped =
      if c.pinned ∨ c.limit = limit ∧ c.hold = hold then c.tripped else decide (limit ≤ min c.counter (limit + hold)) := by
  unfold ChannelRec.adjust
  by_cases same : c.limit = limit ∧ c.hold = hold
  · simp [same]
  · cases c.pinned <;> simp [same]

/-- R23: the events of the hard checks that are met. -/
def Device.hardEvents (d : Device) (n : StringId) (r : ScanRecord) (u : StringSup) : List Instr :=
  [(⟨.ovHard, .ov⟩ : HardCheck), ⟨.uvHard, .uv⟩, ⟨.otHard, .ot⟩].flatMap fun h =>
    if d.hardFails n r h.channel then
      edgeEvents n h.channel (u.channels.get h.channel).tripped true ++ lockoutEvents n u.causes h.cause
    else []

/-- R23: a channel after the hard checks. -/
def Device.hitChannel (d : Device) (n : StringId) (r : ScanRecord) (u : StringSup) (k : Channel) : ChannelRec :=
  if d.hardFails n r k then (u.channels.get k).pin else u.channels.get k

/-- R24: the causes after the hard checks. -/
def Device.hitCauses (d : Device) (n : StringId) (r : ScanRecord) (x : Causes) : Causes :=
  { x with
    ovHard := x.ovHard || d.hardFails n r .ov
    uvHard := x.uvHard || d.hardFails n r .uv
    otHard := x.otHard || d.hardFails n r .ot }

theorem Device.applyHard_eq (d : Device) (n : StringId) (r : ScanRecord) :
    d.applyHard n r = d.withString n
      { d.sup n with channels := .ofFn (d.hitChannel n r (d.sup n)), causes := d.hitCauses n r (d.sup n).causes }
      (d.hardEvents n r (d.sup n)) := by
  conv_lhs => rw [← d.withString_self n]
  rw [Device.withString_applyHard]
  rfl

/-- R20: the full evaluation of a record. -/
theorem Device.evaluateFull_eq (d : Device) (n : StringId) (r : ScanRecord) (gap : Bool) {v : StringSup}
    (channels : v.channels = .ofFn fun k => d.movedChannel k (d.fails n r gap k) (d.hitChannel n r (d.sup n) k))
    (causes : v.causes = d.hitCauses n r (d.sup n).causes) (failing : v.failing = .ofFn (d.fails n r gap))
    (health : v.health = healthOf v.causes (d.monitor n).state v.channels) :
    d.evaluateFull n r gap = d.withString n v
      (d.hardEvents n r (d.sup n) ++
        (Channel.all.flatMap fun k => d.movedEvents n k (d.fails n r gap k) (d.hitChannel n r (d.sup n) k)) ++
        healthHandoffs n (d.sup n).health v.health ++ [.envelopeRecomputation (.evaluation n (some r.envCopy) v.health)]) := by
  obtain ⟨_, _, _, _⟩ := v
  dsimp only at channels causes failing health ⊢
  subst channels causes failing
  unfold Device.evaluateFull
  simp only [PerChannel.get_ofFn]
  rw [Device.applyHard_eq, Device.withString_evaluateChannels, Device.withString_modSup]
  simp only [PerChannel.get_ofFn]
  rw [Device.withString_endEvaluation _ _ _ _ health.symm]
  simp only [List.append_assoc]

/-- R20: the hard checks alone. -/
theorem Device.evaluateHard_eq (d : Device) (n : StringId) (r : ScanRecord) {v : StringSup}
    (channels : v.channels = .ofFn (d.hitChannel n r (d.sup n)))
    (causes : v.causes = d.hitCauses n r (d.sup n).causes) (failing : v.failing = (d.sup n).failing)
    (health : v.health = healthOf v.causes (d.monitor n).state v.channels) :
    d.evaluateHard n r = d.withString n v
      (d.hardEvents n r (d.sup n) ++ healthHandoffs n (d.sup n).health v.health ++
        [.envelopeRecomputation (.evaluation n (some r.envCopy) v.health)]) := by
  obtain ⟨_, _, _, _⟩ := v
  dsimp only at channels causes failing health ⊢
  subst channels causes failing
  unfold Device.evaluateHard
  rw [Device.applyHard_eq, Device.withString_endEvaluation _ _ _ _ health.symm]
  simp only [List.append_assoc]

/-- R20: a stale expiry. -/
theorem Device.evaluateStale_eq (d : Device) (n : StringId) {v : StringSup}
    (channels : v.channels = (d.sup n).channels.set .meas (d.movedChannel .meas true ((d.sup n).channels.get .meas)))
    (causes : v.causes = (d.sup n).causes) (failing : v.failing = { PerChannel.all false with meas := true })
    (health : v.health = healthOf v.causes (d.monitor n).state v.channels) :
    d.evaluateStale n = d.withString n v
      (d.movedEvents n .meas true ((d.sup n).channels.get .meas) ++ healthHandoffs n (d.sup n).health v.health ++
        [.envelopeRecomputation (.evaluation n none v.health)]) := by
  obtain ⟨_, _, _, _⟩ := v
  dsimp only at channels causes failing health ⊢
  subst channels causes failing
  conv_lhs => rw [← d.withString_self n]
  unfold Device.evaluateStale
  rw [Device.withString_evaluateChannel, Device.withString_modSup, Device.withString_endEvaluation _ _ _ _ health.symm]
  simp only [List.append_assoc, List.nil_append]

/-- R30: a derivation outside an evaluation. -/
theorem Device.deriveHealthAlone_eq (d : Device) (n : StringId) {h : Health} (health : h = d.healthNow n) :
    d.deriveHealthAlone n = d.withString n { d.sup n with health := h }
      ([] ++ healthHandoffs n (d.sup n).health h ++ if h = (d.sup n).health then [] else [.envelopeRecomputation (.health n h)]) := by
  conv_lhs => rw [← d.withString_self n]
  rw [Device.withString_deriveHealthAlone _ _ _ _ health.symm]
  simp only [List.nil_append]

/-- R25: a weld reported. -/
theorem Device.addWeld_eq (d : Device) (n : StringId) {v : StringSup}
    (record : v = { d.sup n with health := v.health, causes := causesAdd (d.sup n).causes .weld })
    (health : v.health = healthOf v.causes (d.monitor n).state v.channels) :
    (d.addCause n .weld).deriveHealthAlone n = d.withString n v
      (lockoutEvents n (d.sup n).causes .weld ++ healthHandoffs n (d.sup n).health v.health ++
        if v.health = (d.sup n).health then [] else [.envelopeRecomputation (.health n v.health)]) := by
  have derived : healthOf (causesAdd (d.sup n).causes .weld) (d.monitor n).state (d.sup n).channels = v.health := by
    rw [health, record]
  conv_lhs => rw [← d.withString_self n]
  rw [Device.withString_addCause, Device.withString_deriveHealthAlone _ _ _ _ derived]
  conv_rhs => rw [record]
  simp only [List.append_assoc, List.nil_append]

end Sys2Proof.Machine

section
open Sys2Proof Sys2Proof.Machine

/-- Settles O43: each kind of evaluation leaves one string's record and hands on, in the form `Device.withString` has. -/
theorem evaluationsMoveTheChannels : Obligations.EvaluationsMoveTheChannels := by
  intro n s d u L H event edge ends hears hard held causes hardEvents hit adjusted edges fails copy
  have hard_eq : ∀ r, hard r = d.hardFails n r := fun r => funext fun k => by
    cases k with
    | ot => exact (r.temps_any _).symm
    | _ => rfl
  have hit_eq : ∀ r k, hit r k = d.hitChannel n r u k := fun r k => by
    simp only [hit, hard_eq]
    rfl
  have causes_eq : ∀ r, causes r = d.hitCauses n r u.causes := fun r => by
    simp only [causes, hard_eq]
    rfl
  have hardEvents_eq : ∀ r, hardEvents r = d.hardEvents n r u := fun r => by
    simp only [hardEvents, hard_eq]
    rfl
  have adjusted_eq : ∀ k c, adjusted k c = (c.adjust (L k) (H k)).tripped := fun k c => (c.adjust_tripped (L k) (H k)).symm
  have fails_iff : ∀ r gap k, d.fails n r gap k = true ↔ fails r gap k := fun r gap k =>
    (d.fails_iff n r gap k).trans (by cases k <;> exact Iff.rfl)
  have single : ∀ k, ({ PerChannel.all false with meas := true } : PerChannel Bool).get k = true ↔ k = .meas := fun k => by
    cases k <;> decide
  have next : ∀ {e e' : Device}, e = e' → (.next ⟨s.pending, e⟩ : Out) = .next ⟨s.pending, e'⟩ := fun h => by rw [h]
  refine ⟨fun r gap => ?_, fun r => ?_, ?_, ?_, ?_⟩
  · let v : StringSup :=
      { channels := .ofFn fun k => d.movedChannel k (d.fails n r gap k) (d.hitChannel n r u k)
        causes := d.hitCauses n r u.causes
        health := healthOf (d.hitCauses n r u.causes) (d.monitor n).state
          (.ofFn fun k => d.movedChannel k (d.fails n r gap k) (d.hitChannel n r u k))
        failing := .ofFn (d.fails n r gap) }
    have evaluated := (d.took (.csuEvaluation n (.full r gap))).evaluateFull_eq n r gap (v := v) rfl rfl rfl rfl
    refine ⟨Channel.all.flatMap fun k => d.movedEvents n k (d.fails n r gap k) (d.hitChannel n r u k), v, ?_,
      healthOf_is _ _ _, (causes_eq r).symm, ?_, fun k => ?_, fun k => ?_⟩
    · rw [hardEvents_eq]
      exact next evaluated
    · simp only [edges, adjusted_eq, hit_eq, v, PerChannel.get_ofFn]
      rfl
    · rw [← fails_iff]
      simp [v]
    · simp only [hit_eq, v, PerChannel.get_ofFn]
      exact ChannelRec.evaluated _ _ _ _
  · let v : StringSup :=
      { channels := .ofFn (d.hitChannel n r u)
        causes := d.hitCauses n r u.causes
        health := healthOf (d.hitCauses n r u.causes) (d.monitor n).state (.ofFn (d.hitChannel n r u))
        failing := u.failing }
    have evaluated := (d.took (.csuEvaluation n (.hardOnly r))).evaluateHard_eq n r (v := v) rfl rfl rfl rfl
    refine ⟨v, ?_, healthOf_is _ _ _, (causes_eq r).symm, rfl, fun k => ?_⟩
    · rw [hardEvents_eq]
      exact next evaluated
    · simp only [hit_eq, v, PerChannel.get_ofFn]
  · let channels := u.channels.set .meas (d.movedChannel .meas true (u.channels.get .meas))
    let v : StringSup :=
      ⟨channels, u.causes, healthOf u.causes (d.monitor n).state channels, { PerChannel.all false with meas := true }⟩
    have evaluated := (d.took (.csuEvaluation n .staleExpiry)).evaluateStale_eq n (v := v) rfl rfl rfl rfl
    refine ⟨d.movedEvents n .meas true (u.channels.get .meas), v, ?_, healthOf_is _ _ _, ?_, rfl, single,
      ChannelRec.evaluated _ _ _ _, fun k hk => ?_⟩
    · exact next evaluated
    · simp only [adjusted_eq]
      rfl
    · simp [v, channels, hk]
  · refine ⟨{ u with health := d.healthNow n }, ?_, healthOf_is _ _ _, rfl⟩
    exact next ((d.took (.monitorStateReport n)).deriveHealthAlone_eq n rfl)
  · let v : StringSup := ⟨u.channels, { u.causes with weld := true },
      healthOf { u.causes with weld := true } (d.monitor n).state u.channels, u.failing⟩
    refine ⟨v, ?_, healthOf_is _ _ _, rfl⟩
    exact next ((d.took (.weldReport n)).addWeld_eq n (v := v) rfl rfl)

end

end

section
/-! SUPPORT. The WRITE of a settings item that has no row of its own (R165). -/

namespace Sys2Proof.Machine

-- Bodies elaborated side by side would each hold a thread while a default argument waits for the kernel.
set_option Elab.async false

/-! ## The owner's answer -/

/-- An item whose write the owner stores and no more: no entry of the map, no order of DU's, no isolation request, no expectation. -/
def PlainItem (t : StoredTable) (i : Nat) : Prop :=
  t ≠ .t13 ∧ (t = .t5 → 3 ≤ i) ∧ (t = .t11 → i ≠ 16) ∧ (t = .t2 → i < 32)

section
variable {d : Device} {t : StoredTable} {i : Nat} {v : Int}

theorem writeStored_plain (plain : PlainItem t i) :
    d.writeStored t i v = if !(rangeOf t i).has v || !d.ordered t i v then (d, .no .range) else (d.storeItem t i v, .ok v) := by
  obtain ⟨map, order, isolation, -⟩ := plain
  have kept : saturates t i = false := by
    simp only [saturates, Bool.and_eq_false_iff, beq_eq_false_iff_ne, decide_eq_false_iff_not]
    by_cases h5 : t = .t5
    · exact .inr (by have := order h5; omega)
    · exact .inl h5
  have stored : ¬(t = .t11 ∧ i = 16) := fun ⟨h11, h16⟩ => isolation h11 h16
  simp [Device.writeStored, map, kept, stored]

theorem writeStored_refused (plain : PlainItem t i) (h : ¬Admits d t i v) : d.writeStored t i v = (d, .no .range) := by
  rw [writeStored_plain plain, if_pos]
  simpa [Admits, Device.ordered, -not_and, Classical.not_and_iff_not_or_not] using h

theorem writeStored_taken (plain : PlainItem t i) (h : Admits d t i v) : d.writeStored t i v = (d.storeItem t i v, .ok v) := by
  obtain ⟨range, orders⟩ := h
  have ordered : d.ordered t i v = true := orders
  rw [writeStored_plain plain, if_neg (by simp [range, ordered])]

/-- R165: the item takes the value, and ENV hears where it works from it. -/
theorem storeItem_plain (plain : PlainItem t i) :
    d.storeItem t i v = { d.wrote t i v with
      handoffs := d.handoffs ++ if feedsEnvelope t i then [.envelopeRecomputation .settings] else [] } := by
  obtain ⟨-, order, -, expectation⟩ := plain
  have expects : expectationOf t i = none := if_neg fun ⟨h2, h32⟩ => absurd (expectation h2) (by omega)
  have quiet : feedsOrder t i = false := by
    simp only [feedsOrder, Bool.and_eq_false_iff, beq_eq_false_iff_ne, decide_eq_false_iff_not]
    by_cases h5 : t = .t5
    · exact .inr (by have := order h5; omega)
    · exact .inl h5
  unfold Device.storeItem
  rw [expects, quiet, Device.setItem_wrote]
  cases feedsEnvelope t i with
  | true => rfl
  | false => simp [Device.when, Device.postIf, Device.wrote]

end

/-! ## The rows of R165 -/

/-- R165: a WRITE acts on the item that its address names. -/
theorem portWrite_resolve {table index table' index' : Nat}
    (h : (ItemRef.mk table index).resolve = (ItemRef.mk table' index').resolve) (p : Port) (v : Word) :
    portWrite p table index v = portWrite p table' index' v := by
  funext d
  unfold portWrite
  rw [h]

/-- R165: a WRITE of a plain item, with any frame that asks for it. -/
theorem settingsWrite_plain {s : State} {p : Port} {f : Frame} {table index : Nat} {tb : StoredTable} {i : Nat} {v : Word}
    {feeds : Prop} (hrun : (s.dev.link p).running = true) (hchk : f.check = crc8 f.body) (kind : f.kind = 2)
    (resolved : (ItemRef.mk table index).resolve = (ItemRef.mk tb.num i).resolve) (plain : PlainItem tb i)
    (known : i < itemCount tb.num) (writable : (ItemRef.mk tb.num i).writable = true) (heard : feedsEnvelope tb i = true ↔ feeds) :
    SettingsWrite s (s.on (·.request p f (portWrite p table index v))) p tb i v feeds := by
  obtain ⟨-, -, -, window⟩ := id plain
  obtain ⟨stopped, passed⟩ := portWrite_gate (s.dev.clockOut p) p i v tb known writable fun h2 => by have := window h2; omega
  rw [portWrite_resolve resolved]
  unfold SettingsWrite
  rw [← kind]
  refine ⟨fun r h => ?_, fun pass out => ?_, fun pass fits => ?_⟩
  · exact request_refuses hrun hchk r (stopped r h.clockOut)
  · exact request_refuses hrun hchk .range ((passed pass).trans (writeStored_refused plain out))
  · refine ⟨if feedsEnvelope tb i then [.envelopeRecomputation .settings] else [], fun h => if_pos (heard.mpr h),
      fun h => if_neg (mt heard.mp h), ?_⟩
    have value : Answer.ok (signed v) = ⟨.ok, some v⟩ := by simp [Answer.ok, word, signed]
    refine request_replies hrun hchk _ ⟨.ok, some v⟩ rfl ((passed pass).trans ?_)
    have taken := writeStored_taken (d := s.dev.clockOut p) plain fits
    rw [storeItem_plain plain] at taken
    exact taken.trans (by rw [← value]; rfl)

/-- An item with no row of its own lies outside the window and outside table 12's written items. -/
theorem resolve_of_not_own {table index : Nat} (h : hasOwnWrite table index = false) :
    (ItemRef.mk table index).resolve = ⟨table, index⟩ := by
  refine if_neg fun ⟨h2, low, high⟩ => ?_
  simp only at h2 low high
  simp [h2, hasOwnWrite] at h
  omega

/-- R165: an item that does not exist. -/
theorem portWrite_unknown {d : Device} {p : Port} {table index : Nat} {v : Word} (own : hasOwnWrite table index = false)
    (h : itemCount table ≤ index) : portWrite p table index v d = (d, .no .unknownItem) := by
  simp [portWrite, resolve_of_not_own own, ItemRef.known, h]

/-- R165: an item that no map lets a port write. -/
theorem portWrite_readOnly {d : Device} {p : Port} {table index : Nat} {v : Word} (own : hasOwnWrite table index = false)
    (known : index < itemCount table) (h : (ItemRef.mk table index).writable = false) :
    portWrite p table index v d = (d, .no .denied) := by
  have events : ∀ j, j = 1 ∨ j = 2 → (ItemRef.mk table index) ≠ ⟨12, j⟩ := by
    rintro j hj same
    cases same
    rcases hj with rfl | rfl <;> cases own
  simp [portWrite, resolve_of_not_own own, ItemRef.known, known, h, events 1 (.inl rfl), events 2 (.inr rfl)]

/-- A writable item of a settings table that has no row of its own is plain. -/
theorem plainItem_of_not_own {tb : StoredTable} {i : Nat} (own : hasOwnWrite tb.num i = false) (known : i < itemCount tb.num) :
    PlainItem tb i := by
  cases tb <;> simp [PlainItem, StoredTable.num, hasOwnWrite, itemCount] at own known ⊢ <;> omega

theorem feedsEnvelope_of_not_own {tb : StoredTable} {i : Nat} (own : hasOwnWrite tb.num i = false) (known : i < itemCount tb.num) :
    feedsEnvelope tb i = true ↔ tb = .t5 ∨ tb = .t9 ∧ i = 3 ∨ tb = .t10 ∧ i = 16 ∨ tb = .t11 ∧ i = 8 := by
  cases tb <;> simp [feedsEnvelope, StoredTable.num, hasOwnWrite, itemCount] at own known ⊢ <;> omega

theorem plainItem_t3 (i : Nat) : PlainItem .t3 i := ⟨nofun, nofun, nofun, nofun⟩

/-- R60: the window of table 2 shows the first items of table 3. -/
theorem resolve_window {i : Byte} (h : i.toNat < 24) :
    (ItemRef.mk 2 (i + 40).toNat).resolve = (ItemRef.mk StoredTable.t3.num i.toNat).resolve := by
  have index : (i + 40).toNat = i.toNat + 40 := by
    rw [BitVec.toNat_add]
    exact Nat.mod_eq_of_lt (by simp; omega)
  have shown : (ItemRef.mk 2 (i.toNat + 40)).resolve = ⟨3, i.toNat + 40 - 40⟩ := if_pos ⟨rfl, by simp, by simp; omega⟩
  rw [index, shown]
  rfl

end Sys2Proof.Machine

section
open Sys2Proof Sys2Proof.Machine

/-- Settles O19: each of the three commands writes a plain item, under its own address or through the window. -/
theorem settingsWritesAreGatedAndStored : Obligations.SettingsWritesAreGatedAndStored := by
  refine ⟨fun p f s wf h => ?_, fun p via i f s wf h => ?_, fun p dir f s h => ?_⟩
  · obtain ⟨r, hr, hrun, hchk⟩ := h
    cases hr
    have own : hasOwnWrite f.table.toNat f.index.toNat = false := by simpa [ItemFrame.wfWrite] using wf
    refine ⟨_, rfl, fun unknown => ?_, fun known readOnly => ?_, fun tb table known writable => ?_⟩
    · exact request_refuses hrun hchk .unknownItem (portWrite_unknown own unknown)
    · exact request_refuses hrun hchk .denied (portWrite_readOnly own known readOnly)
    · have named : tb.num = f.table.toNat := table
      have tableOwn : hasOwnWrite tb.num f.index.toNat = false := named ▸ own
      have tableKnown : f.index.toNat < itemCount tb.num := named ▸ known
      exact settingsWrite_plain hrun hchk rfl (by rw [named]) (plainItem_of_not_own tableOwn tableKnown) tableKnown
        (named ▸ writable) (feedsEnvelope_of_not_own tableOwn tableKnown)
  · obtain ⟨r, hr, hrun, hchk⟩ := h
    refine ⟨_, exec_request hr s, ?_⟩
    cases via with
    | table3 =>
      cases hr
      have known : i.toNat < 34 := by simpa [wfDerating] using wf
      exact settingsWrite_plain hrun hchk rfl rfl (plainItem_t3 _) known rfl (by simp [feedsEnvelope])
    | window =>
      cases hr
      have known : i.toNat < 24 := by simpa [wfDerating] using wf
      exact settingsWrite_plain hrun hchk rfl (resolve_window known) (plainItem_t3 _) (Nat.lt_trans known (by decide)) rfl
        (by simp [feedsEnvelope])
  · obtain ⟨r, hr, hrun, hchk⟩ := h
    have plain : ∀ i, 3 ≤ i → PlainItem .t5 i := fun i hi => ⟨nofun, fun _ => hi, nofun, nofun⟩
    cases dir with
    | charge =>
      cases hr
      exact ⟨_, rfl, settingsWrite_plain hrun hchk rfl rfl (plain 3 (by decide)) (by decide) rfl (by simp [feedsEnvelope])⟩
    | discharge =>
      cases hr
      exact ⟨_, rfl, settingsWrite_plain hrun hchk rfl rfl (plain 4 (by decide)) (by decide) rfl (by simp [feedsEnvelope])⟩

end

end

section
/-! SUPPORT. The window of table 2 (R60). -/

namespace Sys2Proof.Machine

/-- R165: a READ acts on the item that its address names. -/
theorem portRead_resolve {table index table' index' : Nat}
    (h : (ItemRef.mk table index).resolve = (ItemRef.mk table' index').resolve) (p : Port) :
    portRead p table index = portRead p table' index' := by
  funext d
  unfold portRead
  rw [h]

/-- R162, R163: of a frame whose check matches, a transfer looks no further than to its kind. -/
theorem request_sameKind {p : Port} {f g : Frame} {act : Device → Device × Answer} {s : State} (hf : f.check = crc8 f.body)
    (hg : g.check = crc8 g.body) (kind : f.kind = g.kind) : s.next (·.request p f act) = s.next (·.request p g act) := by
  simp [State.next, State.on, Device.request, Frame.checkOk, hf, hg, kind]

end Sys2Proof.Machine

section
open Sys2Proof Sys2Proof.Machine

/-- Settles O18: both addresses name one item, and both frames pass. -/
theorem windowActsAsTable3 : Obligations.WindowActsAsTable3 := by
  intro p i s hi
  have resolved := resolve_window hi
  refine ⟨fun v c c' hw ht => ?_, fun v c c' hw ht => ?_⟩ <;> obtain ⟨rw, hrw, -, checkw⟩ := hw <;>
    obtain ⟨rt, hrt, -, checkt⟩ := ht
  · cases hrw
    cases hrt
    have same : portRead p 2 (i + 40).toNat = portRead p 3 i.toNat := portRead_resolve resolved p
    calc exec (.read p ⟨2, i + 40, v, c⟩) s
        = s.next (·.request p ⟨1, 2, i + 40, v, c⟩ (portRead p 2 (i + 40).toNat)) := rfl
      _ = s.next (·.request p ⟨1, 3, i, v, c'⟩ (portRead p 3 i.toNat)) := by rw [same]; exact request_sameKind checkw checkt rfl
      _ = exec (.read p ⟨3, i, v, c'⟩) s := rfl
  · have same : portWrite p 2 (i + 40).toNat v = portWrite p 3 i.toNat v := portWrite_resolve resolved p v
    have window := exec_request hrw s
    have table3 := exec_request hrt s
    cases hrw
    cases hrt
    calc exec (.deratingWrite p .window i ⟨v, c⟩) s
        = s.next (·.request p ⟨2, 2, i + 40, v, c⟩ (portWrite p 2 (i + 40).toNat v)) := window
      _ = s.next (·.request p ⟨2, 3, i, v, c'⟩ (portWrite p 3 i.toNat v)) := by rw [same]; exact request_sameKind checkw checkt rfl
      _ = exec (.deratingWrite p .table3 i ⟨v, c'⟩) s := table3.symm

end

end

section
/-! SUPPORT. Link events (R162, R173). -/

namespace Sys2Proof.Machine

/-- The part at a port reset before the standing follows: the link runs again with no reply pending, and the port's cursor, generation
flag and selections take their reset values. -/
def Device.portCleared (p : Port) (d : Device) : Device :=
  { d with
    pif := { d.pif with ports := d.pif.ports.set p ⟨none, true, (d.link p).sent⟩ }
    evr := { d.evr with cursors := d.evr.cursors.set p 0 }
    env := { d.env with changed := d.env.changed.set p true }
    swc := { d.swc with
      switches := .ofFn fun n => { d.sw n with selection := (d.sw n).selection.filter fun x => x.holder != p } } }

theorem Device.portCleared_sw (p : Port) (d : Device) (n : SwitchId) : (d.portCleared p).sw n =
    { d.sw n with selection := (d.sw n).selection.filter fun x => x.holder != p } := PerSwitch.get_ofFn _ n

/-- R62, R107, R159, R173: a port reset. -/
theorem execPortReset_eq (p : Port) (s : State) :
    execPortReset p s = .next ⟨s.pending, (s.dev.portCleared p).readmit p⟩ := by
  have dropped := Device.dropHeld_sw p
    (({ s.dev.modLink p (fun l => { l with running := true, pending := none }) with
        evr := { s.dev.evr with cursors := s.dev.evr.cursors.set p 0 } } : Device).modEnv
      fun e => { e with changed := e.changed.set p true })
  exact congrArg (fun d : Device => (.next ⟨s.pending, d.readmit p⟩ : Out)) dropped

/-- R159: what the standing record of a reset port becomes. -/
theorem Device.readmit_set (d : Device) (p : Port) : StandingSet d (d.readmit p) p { d.port p with
    standing := if d.standing p = .barred then .barred else .unchecked
    token := none, outstanding := false, deadline := none, periodIn := d.itemNat .t11 (2 * p.num) } :=
  d.setStanding_set p (f := fun r => { r with token := none, outstanding := false, deadline := none, periodIn := d.periodOf p })
    (fun _ => rfl) _

end Sys2Proof.Machine

section
open Sys2Proof Sys2Proof.Machine

/-- Settles O39: the two events of the link alone, and the port reset as `execPortReset_eq` and `Device.readmit_set` have it. -/
theorem linkEventsReachThePort : Obligations.LinkEventsReachThePort := by
  intro p s withLink
  refine ⟨rfl, fun stopped => ?_, fun running => ?_, _, s.dev.portCleared p, execPortReset_eq p s, rfl, rfl,
    s.dev.portCleared_sw p, readmit_only _ p .pif (by decide), (s.dev.portCleared p).readmit_set p⟩
  · simp [exec, execIncompleteTransfer, State.next, State.on, Device.when, stopped]
  · simp [exec, execIncompleteTransfer, State.next, State.on, Device.when, running, Device.clockOut, Device.modLink,
      withLink, carriedOut_eq]

end

end

section
/-! SUPPORT. What the converter sends: its report at DU, its ratings at ENV (R52, R70, R72, R73). -/

namespace Sys2Proof.Machine

/-! ## The report at DU (R70, R72, R73) -/

/-- R70, R71, R79: the part once a report has ended staleness and counted as the first with the breaker CLOSED. -/
def Device.reportHeard (d : Device) : Device :=
  { d with du := { d.du with reportStale := false, reported := d.du.reported || (d.sw .g).state == .closed } }

/-- R70: DU with the report taken, before it is judged. -/
def Device.reportTaken (v : Int) (d : Device) : Du :=
  let target := d.reportHeard.targetFor d.du.order
  { d.reportHeard.du with
    report := v, target := target, rampTimer := d.reportHeard.rampFor d.du.granted target, reportTimer := some 1000 }

/-- R72, R73: DU once a report is judged against the grant. -/
def Device.judged (d : Device) (u : Du) : Du :=
  let tol := max (d.item .t5 5) ((u.granted.natAbs : Int) * d.item .t5 6 / 100)
  if u.report < min 0 u.granted - tol ∨ max 0 u.granted + tol < u.report then
    { u with tolerance := tol, judgment := .over, overrunTimer := some (u.overrunTimer.getD 1000) }
  else { u with tolerance := tol, judgment := .within, overrunTimer := none }

/-- R72: the report lies outside the band. -/
theorem overTolerance_iff (granted tol report : Int) :
    overTolerance granted tol report = true ↔ report < min 0 granted - tol ∨ max 0 granted + tol < report := by
  simp only [overTolerance, Bool.or_eq_true, decide_eq_true_eq]

theorem Device.duJudge_eq (d : Device) : d.duJudge = { d with du := d.judged d.du } := by
  have band := overTolerance_iff d.du.granted d.duTolerance d.du.report
  by_cases out : overTolerance d.du.granted d.duTolerance d.du.report = true
  · exact (if_pos out).trans (congrArg (fun u => { d with du := u }) (if_pos (band.mp out)).symm)
  · exact (if_neg out).trans (congrArg (fun u => { d with du := u }) (if_neg (mt band.mpr out)).symm)

/-- R66: a report that ends staleness leaves no forcing cause that did not stand. -/
theorem Device.reportHeard_forced {d : Device} (h : d.reportHeard.forced = true) : d.forced = true := by
  have causes : d.reportHeard.forced = (d.causeStanding || !d.breakerClosed || false) := rfl
  rw [causes, Bool.or_false] at h
  simp [Device.forced, h]

/-- R70: a report at DU. A grant that its law already keeps at 0 under a forcing cause stays. -/
theorem Device.duReport_eq {d : Device} (law : d.forced = true → d.du.granted = 0) (v : Int) : d.duReport v =
    { d with du := if (d.sw .g).state = .closed then d.judged (d.reportTaken v) else d.reportTaken v } := by
  let m := d.modDu fun u => { u with report := v, reportStale := false, reported := u.reported || d.breakerClosed }
  have heard : m.duRefresh.modDu (fun u => { u with reportTimer := some 1000 }) = { d with du := d.reportTaken v } := by
    have grant : (if m.forced then 0 else m.du.granted) = d.du.granted := by
      split
      · next forced => exact (law (Device.reportHeard_forced forced)).symm
      · rfl
    have refreshed := m.duRefresh_eq
    rw [grant] at refreshed
    rw [refreshed]
    rfl
  unfold Device.duReport
  dsimp only
  rw [show d.modDu _ = m from rfl, heard]
  by_cases closed : (d.sw .g).state = .closed
  · have : d.breakerClosed = true := beq_iff_eq.mpr closed
    simp only [closed, ↓reduceIte]
    exact (if_pos this).trans (Device.duJudge_eq _)
  · have : ¬d.breakerClosed = true := mt beq_iff_eq.mp closed
    simp only [closed, ↓reduceIte]
    exact if_neg this

/-- R70: a report reaches SWC and ENV too. -/
theorem Device.writeReport_eq {d : Device} (law : d.forced = true → d.du.granted = 0) (v : Int) : d.writeReport v =
    { d with
      du := if (d.sw .g).state = .closed then d.judged (d.reportTaken v) else d.reportTaken v
      handoffs := d.handoffs ++ [.isolationConverterReport v, .envelopeRecomputation .settings] } := by
  rw [Device.writeReport, Device.duReport_eq law]
  simp only [Device.post, List.append_assoc, List.cons_append, List.nil_append]

/-! ## The rows of R165 for table 6 -/

theorem Device.canWrite_iff (d : Device) (p : Port) (table : Nat) : d.canWrite p table = true ↔ MayWrite d p table := by
  simp [Device.canWrite, Device.right]

theorem portWrite_table6_denied {d : Device} {p : Port} {i : Nat} (hi : i ≤ 2) (v : Word) (h : ¬MayWrite d p 6) :
    portWrite p 6 i v d = (d, .no .denied) := by
  have known : i < 7 := by omega
  simp [portWrite, ItemRef.resolve, ItemRef.known, itemCount, known, mt (d.canWrite_iff p 6).mp h]

/-- R165: the report alone is a control item. -/
theorem portWrite_report_noStanding {d : Device} {p : Port} (v : Word) (h : MayWrite d p 6) (ht : ¬Trusted d p) :
    portWrite p 6 0 v d = (d, .no .noStanding) := by
  simp [portWrite, ItemRef.resolve, ItemRef.known, itemCount, (d.canWrite_iff p 6).mpr h, ItemRef.writable, ItemRef.control,
    mt (Standing.trusted_iff _).mp ht]

theorem portWrite_table6_taken {d : Device} {p : Port} {i : Nat} (hi : i ≤ 2) (v : Word) (h : MayWrite d p 6)
    (ht : i = 0 → Trusted d p) : portWrite p 6 i v d = d.write6 i (signed v) := by
  have known : i < 7 := by omega
  have pass : (i == 0 && !(d.standing p).trusted) = false := by
    by_cases report : i = 0
    · simp [(Standing.trusted_iff _).mpr (ht report)]
    · simp [report]
  simp [portWrite, ItemRef.resolve, ItemRef.known, itemCount, known, (d.canWrite_iff p 6).mpr h, ItemRef.writable, hi,
    ItemRef.control, pass, StoredTable.ofNum, Device.ownerWrite]

/-- R52: a rating at ENV. -/
theorem Device.writeRating_eq (d : Device) (dir : Direction) (v : Int) : d.writeRating dir v = { d with
    env := match dir with
      | .charge => { d.env with ratingChg := v, ratingWritten := true }
      | .discharge => { d.env with ratingDis := v, ratingWritten := true }
    handoffs := d.handoffs ++ [.envelopeRecomputation .settings] } := by
  cases dir <;> rfl

end Sys2Proof.Machine

section
open Sys2Proof Sys2Proof.Machine

/-- Settles O21: the rows of R165, and then the report as `Device.writeReport_eq` and the rating as `Device.writeRating_eq` have it. -/
theorem converterDataIsTaken : Obligations.ConverterDataIsTaken := by
  refine ⟨fun p f s law h => ?_, fun p dir f s h => ?_⟩ <;> obtain ⟨r, hr, hrun, hchk⟩ := h
  · cases hr
    refine ⟨_, rfl, fun may => ?_, fun may trusted => ?_, fun may trusted => ?_⟩
    · exact request_refuses hrun hchk .denied (portWrite_table6_denied (by decide) _ may)
    · exact request_refuses hrun hchk .noStanding (portWrite_report_noStanding _ may trusted)
    · intro d v g reported d' target tol beyond u
      have grant : d.forced = true → d.du.granted = 0 := fun forced => (law.1 forced).1
      refine ⟨if (d.sw .g).state = .closed then d.judged (d.reportTaken v) else d.reportTaken v, fun away => if_neg away,
        fun closed out => (if_pos closed).trans (if_pos out), fun closed within => (if_pos closed).trans (if_neg within),
        request_replies hrun hchk _ (.ok v) rfl ?_⟩
      exact (portWrite_table6_taken (d := s.dev.clockOut p) (by decide) f.value may fun _ => trusted).trans
        (congrArg (·, Answer.ok v) (Device.writeReport_eq (d := s.dev.clockOut p) grant v))
  · have index : ratingIndex dir ≤ 2 ∧ ratingIndex dir ≠ 0 := by cases dir <;> decide
    have owner : ∀ d : Device, d.write6 (ratingIndex dir) (signed f.value) =
        (d.writeRating dir (max 0 (min 9999 f.value.toInt)), .ok (max 0 (min 9999 f.value.toInt))) := by
      intro d; cases dir <;> rfl
    have acts : exec (.ratingWrite p dir f) s = s.next (·.request p r.frame (portWrite p 6 (ratingIndex dir) f.value)) := by
      cases dir <;> cases hr <;> rfl
    have port : r.port = p ∧ r.frame.kind = 2 := by cases dir <;> cases hr <;> exact ⟨rfl, rfl⟩
    rw [port.1] at hrun
    rw [← port.2]
    refine ⟨_, acts, fun may => ?_, fun may => ?_⟩
    · exact request_refuses hrun hchk .denied (portWrite_table6_denied index.1 _ may)
    · refine request_replies hrun hchk _ (.ok _) rfl ?_
      refine (portWrite_table6_taken (d := s.dev.clockOut p) index.1 f.value may fun h => absurd h index.2).trans ?_
      rw [owner, Device.writeRating_eq]
      rfl

end

end

section
/-! SUPPORT. The temperature factor of a string and its current limit (R43, R45). -/

namespace Sys2Proof.Machine

/-! ## Interpolation (R43) -/

/-- R43: a share of a rise, rounded toward zero, lies between nothing and the whole of it. -/
theorem share_bounds {x w span : Int} (hx : 0 ≤ x) (hw : 0 ≤ w) (le : w ≤ span) (hs : 0 < span) :
    0 ≤ x * w / span ∧ x * w / span ≤ x :=
  ⟨Int.ediv_nonneg (Int.mul_nonneg hx hw) hs.le,
    Int.ediv_le_of_le_mul hs (Int.mul_le_mul_of_nonneg_left le hx)⟩

theorem tdiv_of_rise {x w : Int} (hx : 0 ≤ x) (hw : 0 ≤ w) (span : Int) : (x * w).tdiv span = x * w / span :=
  Int.tdiv_eq_ediv_of_nonneg (Int.mul_nonneg hx hw)

theorem tdiv_of_fall {x w : Int} (hx : x ≤ 0) (hw : 0 ≤ w) (span : Int) : (x * w).tdiv span = -(-x * w / span) := by
  rw [← tdiv_of_rise (by omega) hw, Int.neg_mul, Int.neg_tdiv, Int.neg_neg]

section
variable {T F : Nat → Int}

/-- R58: strictly ascending breakpoints. -/
def Ascends (T : Nat → Int) : Prop := ∀ k, k < 5 → T k < T (k + 1)

theorem Ascends.le (h : Ascends T) {j k : Nat} (hjk : j ≤ k) (hk : k ≤ 5) : T j ≤ T k := by
  induction k, hjk using Nat.le_induction with
  | base => exact le_refl _
  | succ k _ ih => exact (ih (by omega)).trans (h k (by omega)).le

/-- The segments of a table do not overlap. -/
theorem Ascends.segment_unique (h : Ascends T) {j k : Nat} (hj : j < 5) (hk : k < 5) {v : Int} (lowj : T j ≤ v)
    (highj : v < T (j + 1)) (lowk : T k ≤ v) (highk : v < T (k + 1)) : j = k := by
  rcases lt_trichotomy j k with lt | same | gt
  · have := h.le (j := j + 1) lt hk.le; omega
  · exact same
  · have := h.le (j := k + 1) gt hj.le; omega

/-- The segments of a table leave no gap between its ends. -/
theorem exists_segment {v : Int} (low : T 0 ≤ v) (high : v < T 5) : ∃ k, k < 5 ∧ T k ≤ v ∧ v < T (k + 1) := by
  by_contra none
  push Not at none
  have climbs : ∀ k, k ≤ 5 → T k ≤ v := fun k => by
    induction k with
    | zero => exact fun _ => low
    | succ k ih => exact fun hk => none k (by omega) (ih (by omega))
  exact absurd (climbs 5 (le_refl 5)) (by omega)

theorem derateFactor_low {v : Int} (h : v ≤ T 0) : derateFactor T F v = F 0 := if_pos h

theorem derateFactor_high (asc : Ascends T) {v : Int} (h : T 5 ≤ v) : derateFactor T F v = F 5 := by
  have first := asc 0 (by decide)
  have rest := asc.le (j := 1) (k := 5) (by decide) (by decide)
  have above : ¬v ≤ T 0 := by simp only [Nat.zero_add] at first; omega
  rw [derateFactor, if_neg above, if_pos h]

/-- R43: the factor within a segment. -/
theorem derateFactor_segment (asc : Ascends T) {k : Nat} (hk : k < 5) {v : Int} (low : T k ≤ v) (high : v < T (k + 1)) :
    derateFactor T F v = F k + ((F (k + 1) - F k) * (v - T k)).tdiv (T (k + 1) - T k) := by
  by_cases bottom : v ≤ T 0
  · have here : T 0 ≤ v := (asc.le (Nat.zero_le k) hk.le).trans low
    have below : v < T (0 + 1) := lt_of_le_of_lt bottom (asc 0 (by decide))
    obtain rfl := asc.segment_unique (j := 0) (by decide) hk here below low high
    rw [derateFactor_low bottom, le_antisymm bottom here]
    simp
  · have top : ¬T 5 ≤ v := by have := asc.le (j := k + 1) (k := 5) hk (le_refl 5); omega
    have found : ([0, 1, 2, 3, 4].find? fun j => decide (T j ≤ v ∧ v < T (j + 1))) = some k := by
      cases hf : [0, 1, 2, 3, 4].find? fun j => decide (T j ≤ v ∧ v < T (j + 1)) with
      | none =>
        have member : k ∈ [0, 1, 2, 3, 4] := by interval_cases k <;> decide
        have outside := List.find?_eq_none.mp hf k member
        exact absurd (decide_eq_true ⟨low, high⟩) outside
      | some j =>
        obtain ⟨lowj, highj⟩ : T j ≤ v ∧ v < T (j + 1) := by simpa using List.find?_some hf
        have hj : j < 5 := by
          have := List.mem_of_find?_eq_some hf
          simp only [List.mem_cons, List.not_mem_nil, or_false] at this
          omega
        rw [asc.segment_unique hj hk lowj highj low high]
    rw [derateFactor, if_neg bottom, if_neg top, found]

/-- R43: the factor within a segment lies between those of its ends, rounded down on a rise and up on a fall. -/
theorem derateFactor_between (asc : Ascends T) {k : Nat} (hk : k < 5) {v : Int} (low : T k ≤ v) (high : v < T (k + 1)) :
    let f := derateFactor T F v
    let rise := F (k + 1) - F k
    (0 ≤ rise → f = F k + rise * (v - T k) / (T (k + 1) - T k)) ∧
    (rise ≤ 0 → f = F k - (-rise * (v - T k)) / (T (k + 1) - T k)) ∧
    min (F k) (F (k + 1)) ≤ f ∧ f ≤ max (F k) (F (k + 1)) := by
  intro f rise
  have value : f = F k + (rise * (v - T k)).tdiv (T (k + 1) - T k) := derateFactor_segment asc hk low high
  have span := asc k hk
  have up : 0 ≤ rise → f = F k + rise * (v - T k) / (T (k + 1) - T k) := fun hr => by
    rw [value, tdiv_of_rise hr (by omega)]
  have down : rise ≤ 0 → f = F k - (-rise * (v - T k)) / (T (k + 1) - T k) := fun hr => by
    rw [value, tdiv_of_fall hr (by omega)]
    exact (sub_eq_add_neg _ _).symm
  refine ⟨up, down, ?_⟩
  rcases le_total 0 rise with hr | hr
  · have := up hr
    have := share_bounds hr (w := v - T k) (span := T (k + 1) - T k) (by omega) (by omega) (by omega)
    omega
  · have := down hr
    have := share_bounds (x := -rise) (w := v - T k) (span := T (k + 1) - T k) (by omega) (by omega) (by omega) (by omega)
    omega

/-- R43: no factor leaves the range of the table's factors. -/
theorem derateFactor_range (asc : Ascends T) {lo hi : Int} (range : ∀ k, k ≤ 5 → lo ≤ F k ∧ F k ≤ hi) (v : Int) :
    lo ≤ derateFactor T F v ∧ derateFactor T F v ≤ hi := by
  rcases le_or_gt v (T 0) with low | above
  · rw [derateFactor_low low]; exact range 0 (by decide)
  · rcases le_or_gt (T 5) v with high | below
    · rw [derateFactor_high asc high]; exact range 5 (by decide)
    · obtain ⟨k, hk, low, high⟩ := exists_segment above.le below
      obtain ⟨-, -, least, most⟩ := derateFactor_between (F := F) asc hk low high
      have := range k hk.le
      have := range (k + 1) hk
      omega

end

/-! ## Table 3 (R58) -/

theorem SettingsLaw.item_range {d : Device} (h : SettingsLaw d) (t : StoredTable) {i : Nat} (hi : i < (factory t).length)
    (writable : (ItemRef.mk t.num i).writable = true) : (rangeOf t i).lo ≤ d.item t i ∧ d.item t i ≤ (rangeOf t i).hi := by
  obtain ⟨length, ranges, -⟩ := (h.1 t).1
  simpa only [Range.has, Bool.and_eq_true, decide_eq_true_eq, Device.item] using ranges i (length ▸ hi) writable

/-- R58: the breakpoints of each direction ascend. -/
theorem SettingsLaw.breakpoints {d : Device} (h : SettingsLaw d) {base : Nat} (hb : base = 0 ∨ base = 12) :
    Ascends fun k => d.item .t3 (base + k) := by
  obtain ⟨-, -, orders⟩ := (h.1 .t3).1
  intro k hk
  simp only [ordersOf, ascending, Bool.and_eq_true, decide_eq_true_eq] at orders
  unfold Device.item
  rcases hb with rfl | rfl <;> interval_cases k <;> simp only [Nat.reduceAdd] <;> omega

/-- R58: the factors of each direction lie in 0..1024. -/
theorem SettingsLaw.factors {d : Device} (h : SettingsLaw d) {base : Nat} (hb : base = 0 ∨ base = 12) :
    ∀ k, k ≤ 5 → 0 ≤ d.item .t3 (base + 6 + k) ∧ d.item .t3 (base + 6 + k) ≤ 1024 := by
  intro k hk
  have range := h.item_range .t3 (i := base + 6 + k) (by simp only [factory, factoryT3, List.length_cons, List.length_nil]; omega) rfl
  have factor : rangeOf .t3 (base + 6 + k) = ⟨0, 1024⟩ := by
    rcases hb with rfl | rfl <;> interval_cases k <;> rfl
  rwa [factor] at range

/-! ## A string (R43, R45) -/

/-- The least of a list that is not empty is one of its values, and at or below each. -/
theorem minOf_least {xs : List Int} (h : xs ≠ []) (b : Int) : minOf b xs ∈ xs ∧ ∀ x ∈ xs, minOf b xs ≤ x := by
  cases xs with
  | nil => exact absurd rfl h
  | cons x rest =>
    obtain ⟨first, others, attained⟩ := foldl_min_least id rest x
    refine ⟨List.mem_cons.mpr (attained.imp_right fun ⟨k, hk, e⟩ => (show k = minOf b (x :: rest) from e) ▸ hk), fun y hy => ?_⟩
    rcases List.mem_cons.mp hy with rfl | hy
    · exact first
    · exact others y hy

/-- R43: the factor of one temperature in table 3, in the direction whose items begin at base. -/
def Device.factorAt (d : Device) (base : Nat) : Int → Int :=
  derateFactor (fun k => d.item .t3 (base + k)) (fun k => d.item .t3 (base + 6 + k))

/-- R43: with every module OPEN. -/
theorem Device.tempFactor_open (d : Device) (base : Nat) {temps : List (Option Int)} (h : ∀ v ∈ temps, v = none) :
    d.tempFactor base temps = 0 := by
  have none : temps.filterMap id = [] := List.filterMap_eq_nil_iff.mpr h
  rw [Device.tempFactor, none]
  rfl

/-- R43: the least factor over the readable modules. -/
theorem Device.tempFactor_least (d : Device) (base : Nat) {temps : List (Option Int)} (h : ∃ v, some v ∈ temps) :
    (∃ v, some v ∈ temps ∧ d.tempFactor base temps = d.factorAt base v) ∧
      ∀ v, some v ∈ temps → d.tempFactor base temps ≤ d.factorAt base v := by
  have readable : ∀ {v}, some v ∈ temps → d.factorAt base v ∈ (temps.filterMap id).map (d.factorAt base) := fun {v} hv =>
    List.mem_map_of_mem (List.mem_filterMap.mpr ⟨some v, hv, rfl⟩)
  obtain ⟨v, hv⟩ := h
  obtain ⟨attained, below⟩ := minOf_least (List.ne_nil_of_mem (readable hv)) 0
  refine ⟨?_, fun w hw => below _ (readable hw)⟩
  obtain ⟨w, hw, same⟩ := List.mem_map.mp attained
  obtain ⟨_, ho, rfl⟩ := List.mem_filterMap.mp hw
  exact ⟨w, ho, same.symm⟩

/-- R45: no factor, no current. -/
theorem currentLimit_zero (top taper : Int) : currentLimit top 0 taper = 0 := by simp [currentLimit]

theorem EnvString.counted_iff (x : EnvString) :
    x.counted = true ↔ x.switch = .closed ∧ x.openPending = false ∧ x.health = .available := by
  simp [EnvString.counted, and_assoc]

theorem Device.contribution_none {d : Device} {n : StringId} (h : (d.env.strings.get n).copy = none) :
    d.contribution n = .zero := by
  simp only [Device.contribution, h]

theorem Device.contribution_some {d : Device} {n : StringId} {y : EnvCopy} (h : (d.env.strings.get n).copy = some y) :
    d.contribution n =
      { counted := (d.env.strings.get n).counted
        chgTemp := d.tempFactor 0 y.temps
        chgTaper := chargeTaper (d.item .t3 (d.taperBase n)) (d.item .t3 (d.taperBase n + 1)) y.vmax
        chgCurrent := currentLimit (d.item .t3 24) (d.tempFactor 0 y.temps)
          (chargeTaper (d.item .t3 (d.taperBase n)) (d.item .t3 (d.taperBase n + 1)) y.vmax)
        disTemp := d.tempFactor 12 y.temps
        disTaper := dischargeTaper (d.item .t3 (d.taperBase n + 2)) (d.item .t3 (d.taperBase n + 3)) y.vmin
        disCurrent := currentLimit (d.item .t3 25) (d.tempFactor 12 y.temps)
          (dischargeTaper (d.item .t3 (d.taperBase n + 2)) (d.item .t3 (d.taperBase n + 3)) y.vmin)
        voltage := y.voltage } := by
  simp only [Device.contribution, h]

/-- R43: a record whose modules are all OPEN fails TSENS. -/
theorem evaluation_open_fails (s : State) (n : StringId) {r : ScanRecord} (gap : Bool) (some : r.modules ≠ [])
    (opened : ∀ m ∈ r.modules, m.temp = none) :
    ∃ t, exec (.csuEvaluation n (.full r gap)) s = .next t ∧ (t.dev.sup n).failing.tsens = true ∧
      Evaluated (s.dev.sup n).channels.tsens (t.dev.sup n).channels.tsens (s.dev.limitOf .tsens) (s.dev.holdOf .tsens) true := by
  obtain ⟨full, -⟩ := evaluationsMoveTheChannels n s
  obtain ⟨mid, v, runs, -, -, -, fails, evaluated⟩ := full r gap
  obtain ⟨m, hm⟩ := List.exists_mem_of_ne_nil _ some
  have tsens : v.failing.tsens = true := (fails .tsens).mpr ⟨m, hm, opened m hm⟩
  have record := evaluated .tsens
  rw [show v.failing.get .tsens = true from tsens] at record
  refine ⟨_, runs, ?_⟩
  have held : ∀ hs, ({ s.dev with csu := ⟨s.dev.csu.strings.set n v⟩, handoffs := hs } : Device).sup n = v := fun _ => by
    simp [Device.sup]
  rw [held]
  exact ⟨tsens, record⟩

end Sys2Proof.Machine

section
open Sys2Proof Sys2Proof.Machine

/-- Settles O45: the table's segments, the least over a string's modules, and an evaluation as O43 has it. -/
theorem deratingInterpolates : Obligations.DeratingInterpolates := by
  refine ⟨fun d law base hb => ?_, fun s n r gap => evaluation_open_fails s n gap⟩
  intro T F
  have asc : Ascends T := law.breakpoints hb
  refine ⟨asc, fun v => ?_, fun n y copied => ?_⟩
  · intro f
    obtain ⟨least, most⟩ := derateFactor_range asc (law.factors hb) v
    refine ⟨least, most, derateFactor_low, derateFactor_high asc, fun k hk low high => ?_⟩
    intro rise
    obtain ⟨up, down, above, below⟩ := derateFactor_between (F := F) asc hk low high
    refine ⟨derateFactor_segment asc hk low high, fun h => up h.le, fun h => down h.le, fun h => ?_, fun h => ?_, above, below⟩
    · exact (up h.ge).trans (by rw [show F (k + 1) - F k = 0 from h]; simp)
    · exact (derateFactor_segment asc hk low high).trans (by rw [h]; simp)
  · intro c factor limit
    have record := Device.contribution_some copied
    have temp : factor = d.tempFactor base y.temps := by
      rcases hb with rfl | rfl <;> simp only [factor, c, record] <;> rfl
    refine ⟨?_, fun opened => ?_, fun readable => temp ▸ d.tempFactor_least base readable⟩
    · simp only [c, record]
      exact EnvString.counted_iff _
    · have zero : ∀ b, d.tempFactor b y.temps = 0 := fun b => d.tempFactor_open b opened
      refine ⟨temp.trans (zero base), ?_⟩
      rcases hb with rfl | rfl <;> simp [limit, c, record, zero, currentLimit_zero]

end

end

section
/-! SUPPORT. A recomputation at ENV, and DU after it (R41 to R46, R54 to R57, R69). -/

namespace Sys2Proof.Machine

/-! ## The inputs (R41, R42) -/

/-- R41: an event brings inputs alone. -/
theorem Env.input_keeps (e : Env) (i : EnvInput) : e.input i = { e with
    strings := (e.input i).strings
    breaker := match i with | .breaker st => st | _ => e.breaker
    isolation := match i with | .isolation on => on | _ => e.isolation
    thermal := match i with | .thermal kw => kw | _ => e.thermal
    fireStage := match i with | .fire st _ => st | _ => e.fireStage
    fireTest := match i with | .fire _ test => test | _ => e.fireTest
    window := match i with | .window st => st | _ => e.window
    cellStanding := match i with | .standing .cell st => st | _ => e.cellStanding } := by
  cases i with
  | standing p st => cases p <;> rfl
  | _ => rfl

/-- R42: what an event leaves of a string. -/
theorem Env.input_string (e : Env) (i : EnvInput) (n : StringId) : (e.input i).strings.get n = match i with
    | .evaluation m copy h => if m = n then
        ⟨if h = .absent then none else copy.or (e.strings.get n).copy, h, (e.strings.get n).switch,
          (e.strings.get n).openPending⟩ else e.strings.get n
    | .health m h => if m = n then
        ⟨if h = .absent then none else (e.strings.get n).copy, h, (e.strings.get n).switch, (e.strings.get n).openPending⟩
      else e.strings.get n
    | .stringSwitch m st wait =>
      if m = n then ⟨(e.strings.get n).copy, (e.strings.get n).health, st, wait⟩ else e.strings.get n
    | _ => e.strings.get n := by
  have one : ∀ (m : StringId) (f : EnvString → EnvString),
      (e.modString m f).strings.get n = if m = n then f (e.strings.get n) else e.strings.get n := fun m f => by
    by_cases same : m = n
    · subst same; simp [Env.modString]
    · simp [Env.modString, same, Ne.symm same]
  cases i with
  | evaluation m copy h => exact one m _
  | health m h => exact one m _
  | stringSwitch m st wait => exact one m _
  | standing p st => cases p <;> rfl
  | _ => rfl

/-! ## The tapers (R44) -/

theorem Device.taperBase_add (d : Device) (n : StringId) (k : Nat) :
    d.taperBase n + k = if d.item .t2 (33 + 2 * n.num) = 2 then 30 + k else 26 + k := by
  unfold Device.taperBase
  by_cases h : d.item .t2 (33 + 2 * n.num) = 2 <;> simp [h]

theorem chargeTaper_cases (start ceil v : Int) :
    (v ≤ start → chargeTaper start ceil v = 1024) ∧ (start < v → ceil ≤ v → chargeTaper start ceil v = 0) ∧
      (start < v → v < ceil → chargeTaper start ceil v = 1024 * (ceil - v) / (ceil - start)) :=
  ⟨fun h => if_pos h, fun h1 h2 => (if_neg (not_le.mpr h1)).trans (if_pos h2),
    fun h1 h2 => (if_neg (not_le.mpr h1)).trans (if_neg (not_le.mpr h2))⟩

theorem dischargeTaper_cases (start floor v : Int) :
    (start ≤ v → dischargeTaper start floor v = 1024) ∧ (v < start → v ≤ floor → dischargeTaper start floor v = 0) ∧
      (v < start → floor < v → dischargeTaper start floor v = 1024 * (v - floor) / (start - floor)) :=
  ⟨fun h => if_pos h, fun h1 h2 => (if_neg (not_le.mpr h1)).trans (if_pos h2),
    fun h1 h2 => (if_neg (not_le.mpr h1)).trans (if_neg (not_le.mpr h2))⟩

/-! ## DU after a change of the envelope (R69) -/

/-- R69: a grant brought to the nearer bound. -/
def broughtWithin (chg dis granted : Int) : Int :=
  if granted < -chg then -chg else if dis < granted then dis else granted

/-- R69: the event of a grant that is brought to a bound. -/
def clampEvents (chg dis granted : Int) : List Instr :=
  if granted < -chg then [.eventOccurrence ⟨.dispatchClamped, .table 5, some 1, false⟩]
  else if dis < granted then [.eventOccurrence ⟨.dispatchClamped, .table 5, some 2, false⟩]
  else []

/-- R65, R67, R68, R69, R79: DU once the envelope has these values. -/
def Device.duWithin (d : Device) (chg dis : Int) : Du :=
  let g := if d.forced then 0 else broughtWithin chg dis d.du.granted
  let target := if d.forced then 0 else max (-chg) (min dis d.du.order)
  { d.du with
    granted := g
    target := target
    rampTimer := if d.forced = false ∧ d.standing .converter = .inStanding ∧ d.du.reported = true ∧ g ≠ target then
      some (d.du.rampTimer.getD 100) else none }

theorem Device.duEnvelopeEvent_eq (d : Device) : d.duEnvelopeEvent = { d with
    handoffs := d.handoffs ++ clampEvents d.env.chg d.env.dis d.du.granted
    du := d.duWithin d.env.chg d.env.dis } := by
  have refreshed : ∀ (g : Int) (hs : List Instr), broughtWithin d.env.chg d.env.dis d.du.granted = g →
      ({ d with handoffs := hs, du := { d.du with granted := g } } : Device).duRefresh =
        { d with handoffs := hs, du := d.duWithin d.env.chg d.env.dis } := fun g hs hg => by
    subst hg
    exact Device.duRefresh_eq _
  unfold Device.duEnvelopeEvent clampEvents
  by_cases below : d.du.granted < -d.env.chg
  · simp only [below, ↓reduceIte]
    exact refreshed _ _ (if_pos below)
  · by_cases above : d.env.dis < d.du.granted
    · simp only [below, above, ↓reduceIte]
      exact refreshed _ _ ((if_neg below).trans (if_pos above))
    · simp only [below, above, ↓reduceIte, List.append_nil]
      exact refreshed _ _ ((if_neg below).trans (if_neg above))

/-! ## A recomputation (R54 to R57) -/

/-- R54: what ENV forms from its inputs changes the envelope. -/
def Device.envMoves (d : Device) : Prop := d.envForm.env.chg ≠ d.env.chg ∨ d.envForm.env.dis ≠ d.env.dis

/-- R56: the event of a change of a binding set. -/
def bindingEvents (old new : Env) : List Instr :=
  let which := (if new.bindChg = old.bindChg then 0 else 1) + (if new.bindDis = old.bindDis then 0 else 2)
  if which = 0 then [] else [.eventOccurrence ⟨.bindingSourceChanged, .table 4, some which, false⟩]

/-- R56: the binding event, raised where a set changed. -/
theorem Device.when_binding (e : Device) (old new : Env) :
    (e.when (boolNat (decide (new.bindChg ≠ old.bindChg)) + 2 * boolNat (decide (new.bindDis ≠ old.bindDis)) != 0) fun e =>
      e.raise .bindingSourceChanged (.table 4)
        (some (boolNat (decide (new.bindChg ≠ old.bindChg)) + 2 * boolNat (decide (new.bindDis ≠ old.bindDis))))) =
      { e with handoffs := e.handoffs ++ bindingEvents old new } := by
  by_cases chg : new.bindChg = old.bindChg <;> by_cases dis : new.bindDis = old.bindDis <;>
    simp [Device.when, boolNat, chg, dis, bindingEvents, Device.raise, Device.post]

/-- R54: a recomputation that leaves the envelope. -/
theorem Device.envRecompute_still {d : Device} (h : ¬d.envMoves) :
    d.envRecompute = { d.envForm with handoffs := d.handoffs ++ bindingEvents d.env d.envForm.env } := by
  have still : decide (d.envForm.env.chg ≠ d.env.chg ∨ d.envForm.env.dis ≠ d.env.dis) = false := decide_eq_false h
  unfold Device.envRecompute
  simp only [still]
  exact Device.when_binding _ _ _

/-- R54, R57, R69: a recomputation that changes the envelope. -/
theorem Device.envRecompute_moved {d : Device} (h : d.envMoves) : d.envRecompute = { d.envForm with
    env := d.envForm.env.step
    handoffs := d.handoffs ++ bindingEvents d.env d.envForm.env ++
      clampEvents d.envForm.env.chg d.envForm.env.dis d.du.granted
    du := d.duWithin d.envForm.env.chg d.envForm.env.dis } := by
  have moved : decide (d.envForm.env.chg ≠ d.env.chg ∨ d.envForm.env.dis ≠ d.env.dis) = true := decide_eq_true h
  unfold Device.envRecompute
  simp only [moved]
  exact (congrArg Device.duEnvelopeEvent (Device.when_binding (d.envForm.modEnv (·.step)) d.env d.envForm.env)).trans
    (Device.duEnvelopeEvent_eq _)

/-- R54, R57: beside the generation and the flags ENV stands as it was formed. -/
theorem Device.envRecompute_env (d : Device) :
    ∃ generation changed, d.envRecompute.env = { d.envForm.env with generation := generation, changed := changed } := by
  by_cases h : d.envMoves
  · exact ⟨_, _, by rw [Device.envRecompute_moved h]; rfl⟩
  · exact ⟨_, _, by rw [Device.envRecompute_still h]⟩

/-- R40, R46 to R53, R56: a recomputation leaves the envelope formed. -/
theorem Device.envRecompute_formed (d : Device) : EnvelopeFormed d.envRecompute := by
  obtain ⟨generation, changed, env⟩ := d.envRecompute_env
  have formed : EnvelopeFormed (d.envForm.modEnv fun e => { e with generation := generation, changed := changed }) :=
    d.envForm_formed
  exact formed.congr env (envRecompute_only d .settings (by decide))

/-- The part as ENV has taken an event's input, about to form its terms. -/
def Device.heard (i : EnvInput) (d : Device) : Device := (d.took (.envelopeRecomputation i)).modEnv (·.input i)

theorem execEnvelopeRecomputation_eq (i : EnvInput) (s : State) :
    exec (.envelopeRecomputation i) s = .next ⟨s.pending, (s.dev.heard i).envRecompute⟩ := rfl

/-- R41: the values ENV had formed stand until it forms them afresh. -/
theorem Device.heard_env (i : EnvInput) (d : Device) :
    (d.heard i).env.chg = d.env.chg ∧ (d.heard i).env.dis = d.env.dis ∧ (d.heard i).env.bindChg = d.env.bindChg ∧
      (d.heard i).env.bindDis = d.env.bindDis ∧ (d.heard i).env.generation = d.env.generation ∧
      (d.heard i).env.changed = d.env.changed := by
  have kept : (d.heard i).env = d.env.input i := rfl
  rw [kept, d.env.input_keeps i]
  exact ⟨rfl, rfl, rfl, rfl, rfl, rfl⟩

end Sys2Proof.Machine

section
open Sys2Proof Sys2Proof.Machine

/-- Settles O44: the inputs as `Env.input_keeps` and `Env.input_string` have them, the contributions string by string, and the two ends of
a recomputation. -/
theorem envelopeIsRecomputed : Obligations.EnvelopeIsRecomputed := by
  intro i s
  refine ⟨_, execEnvelopeRecomputation_eq i s, rfl, ?_⟩
  intro d e x string
  obtain ⟨generation, changed, env⟩ := (s.dev.heard i).envRecompute_env
  have inputs : x = { (s.dev.env.input i) with
      contributions := x.contributions, terms := x.terms, chg := x.chg, dis := x.dis, bindChg := x.bindChg, bindDis := x.bindDis
      generation := x.generation, changed := x.changed } := by
    simp only [x, e, env]; rfl
  have keeps := s.dev.env.input_keeps i
  obtain ⟨chg, dis, bindChg, bindDis, gen, flags⟩ := s.dev.heard_env i
  refine ⟨(((Only.refl _ d).took _).modEnv _).envRecompute, fun n => ?_, ?_, ?_, ?_, ?_, ?_, ?_, ?_, ?_, ?_, fun n => ?_,
    (s.dev.heard i).envRecompute_formed, ?_⟩
  · exact (congrArg (·.strings.get n) inputs).trans (s.dev.env.input_string i n)
  · exact (congrArg Env.breaker inputs).trans (congrArg Env.breaker keeps :)
  · exact (congrArg Env.isolation inputs).trans (congrArg Env.isolation keeps :)
  · exact (congrArg Env.thermal inputs).trans (congrArg Env.thermal keeps :)
  · refine (congrArg (fun y : Env => (y.fireStage, y.fireTest)) inputs).trans
      ((congrArg (fun y : Env => (y.fireStage, y.fireTest)) keeps).trans ?_)
    cases i <;> rfl
  · exact (congrArg Env.window inputs).trans (congrArg Env.window keeps :)
  · exact (congrArg Env.cellStanding inputs).trans (congrArg Env.cellStanding keeps :)
  · exact (congrArg Env.ratingChg inputs).trans (congrArg Env.ratingChg keeps :)
  · exact (congrArg Env.ratingDis inputs).trans (congrArg Env.ratingDis keeps :)
  · exact (congrArg Env.ratingWritten inputs).trans (congrArg Env.ratingWritten keeps :)
  · intro c class2
    have formed : c = (s.dev.heard i).contribution n := by
      simp only [c, x, e, env]
      exact PerString.get_ofFn _ n
    have strings : x.strings = (s.dev.heard i).env.strings := by rw [inputs]; rfl
    rw [strings, formed]
    refine ⟨Device.contribution_none, fun y copied => ?_⟩
    intro T
    have taper : ∀ k, (s.dev.heard i).item .t3 ((s.dev.heard i).taperBase n + k) = T k := fun k => by
      rw [Device.taperBase_add]; rfl
    have taper0 : (s.dev.heard i).item .t3 ((s.dev.heard i).taperBase n) = T 0 := taper 0
    rw [Device.contribution_some copied, taper0, taper, taper, taper]
    obtain ⟨charge1, charge2, charge3⟩ := chargeTaper_cases (T 0) (T 1) y.vmax
    obtain ⟨discharge1, discharge2, discharge3⟩ := dischargeTaper_cases (T 2) (T 3) y.vmin
    refine ⟨EnvString.counted_iff _, rfl, charge1, charge2, charge3, discharge1, discharge2, discharge3, rfl, rfl,
      fun opened => ⟨Device.tempFactor_open _ 0 opened, Device.tempFactor_open _ 12 opened⟩, fun readable => ?_⟩
    obtain ⟨chgAttained, chgLeast⟩ := (s.dev.heard i).tempFactor_least 0 readable
    obtain ⟨disAttained, disLeast⟩ := (s.dev.heard i).tempFactor_least 12 readable
    exact ⟨chgAttained, chgLeast, disAttained, disLeast⟩
  · intro moved which below above events
    have formedChg : x.chg = (s.dev.heard i).envForm.env.chg := (congrArg Env.chg env :)
    have formedDis : x.dis = (s.dev.heard i).envForm.env.dis := (congrArg Env.dis env :)
    have moves : moved ↔ (s.dev.heard i).envMoves := by
      simp only [moved, Device.envMoves, formedChg, formedDis, chg, dis]; rfl
    have told : bindingEvents (s.dev.heard i).env (s.dev.heard i).envForm.env =
        if which = 0 then [] else [.eventOccurrence ⟨.bindingSourceChanged, .table 4, some which, false⟩] := by
      have formedBindChg : x.bindChg = (s.dev.heard i).envForm.env.bindChg := (congrArg Env.bindChg env :)
      have formedBindDis : x.bindDis = (s.dev.heard i).envForm.env.bindDis := (congrArg Env.bindDis env :)
      simp only [bindingEvents, which, bindChg, bindDis, formedBindChg, formedBindDis]; rfl
    refine ⟨fun still => ?_, fun moves' => ?_⟩
    · have ends := Device.envRecompute_still (mt moves.mpr still)
      refine ⟨?_, ?_, ?_, ?_⟩
      · exact (congrArg (·.env.generation) ends).trans gen
      · exact (congrArg (·.env.changed) ends).trans flags
      · exact (congrArg Device.du ends :)
      · refine (congrArg Device.handoffs ends).trans ?_
        simp only [told, List.append_nil]; rfl
    · have ends := Device.envRecompute_moved (moves.mp moves')
      have raised : ∀ hs, clampEvents x.chg x.dis d.du.granted = hs → events hs := fun hs h => by
        refine (congrArg Device.handoffs ends).trans ?_
        simp only [told, List.append_assoc, ← h, formedChg, formedDis]; rfl
      refine ⟨?_, fun p => ?_, fun low => raised _ (if_pos low), fun high => raised _ ((if_neg high.1).trans (if_pos high.2)),
        fun notLow notHigh => raised _ ((if_neg notLow).trans (if_neg fun h => notHigh ⟨notLow, h⟩)), ?_⟩
      · refine (congrArg (·.env.generation) ends).trans ?_
        rw [← gen]; rfl
      · exact (congrArg (·.env.changed.get p) ends).trans (PerPort.get_all true p)
      · intro g target
        have du : e.du = (s.dev.heard i).duWithin x.chg x.dis := (congrArg Device.du ends).trans (by rw [formedChg, formedDis])
        exact du

end

end

section
/-! SUPPORT. What stands of the envelope and the grant through each operation that is no recomputation, ramp step or reset
(R54, R66, R68). -/

namespace Sys2Proof.Machine

-- Bodies elaborated side by side would each hold a thread while a default argument waits for the kernel.
set_option Elab.async false

/-! ## What stands between recomputations -/

/-- No rating is negative (R52). -/
def Env.Rated (x : Env) : Prop := 0 ≤ x.ratingChg ∧ 0 ≤ x.ratingDis

/-- ENV's record y is x but for ratings, which stay in their range, and for the ports' flags. -/
def Env.Stands (x y : Env) : Prop :=
  y = { x with
    ratingChg := y.ratingChg, ratingDis := y.ratingDis, ratingWritten := y.ratingWritten, changed := y.changed } ∧
  (x.Rated → y.Rated)

theorem Env.Stands.refl (x : Env) : x.Stands x := ⟨rfl, id⟩

theorem Env.Stands.trans {x y z : Env} (h : x.Stands y) (k : y.Stands z) : x.Stands z := by
  obtain ⟨hy, ratings⟩ := h
  obtain ⟨hz, ratings'⟩ := k
  refine ⟨?_, ratings' ∘ ratings⟩
  rw [hy] at hz
  exact hz

/-- Between recomputations and resets the envelope stands, and the grant stands but where a forced mode takes it to 0 (R67). -/
structure Steady (d e : Device) : Prop where
  env : d.env.Stands e.env
  granted : e.du.granted = d.du.granted ∨ e.du.granted = 0

theorem Steady.refl (d : Device) : Steady d d := ⟨.refl _, .inl rfl⟩

section
variable {d e : Device} (h : Steady d e)
include h

theorem Steady.trans {f : Device} (k : Steady e f) : Steady d f :=
  ⟨h.env.trans k.env, k.granted.elim (fun same => h.granted.imp same.trans same.trans) .inr⟩

theorem Steady.only {f : Device} {bs : List Block} (only : Only bs e f) (apart : .env ∉ bs ∧ .du ∉ bs := by decide) :
    Steady d f :=
  h.trans ⟨by rw [only .env apart.1]; exact .refl _, .inl (by rw [only .du apart.2])⟩

theorem Steady.when (b : Bool) {f : Device → Device} (hf : Steady d e → Steady d (f e)) : Steady d (e.when b f) :=
  Device.when_keeps h hf

theorem Steady.each {α : Type} (xs : List α) {f : α → Device → Device} (hf : ∀ a x, Steady d x → Steady d (f a x)) :
    Steady d (e.each xs f) := Device.each_keeps h hf

theorem Steady.modDu {f : Du → Du} (same : (f e.du).granted = e.du.granted) : Steady d (e.modDu f) :=
  h.trans ⟨.refl _, .inl same⟩

theorem Steady.modEnv {f : Env → Env} (stands : e.env.Stands (f e.env)) : Steady d (e.modEnv f) :=
  h.trans ⟨stands, .inl rfl⟩

theorem Steady.post (i : Instr) : Steady d (e.post i) := h.only (post_only e i)

theorem Steady.took (i : Instr) : Steady d (e.took i) := h.only (took_only e i)

theorem Steady.raise (c : EventClass) (u : Subject) (n : Option Nat) : Steady d (e.raise c u n) := h.only (raise_only e c u n)

theorem Steady.modSwc (f : Swc → Swc) : Steady d (e.modSwc f) := h.only (modSwc_only e f)

theorem Steady.modSw (n : SwitchId) (f : SwitchRec → SwitchRec) : Steady d (e.modSw n f) := h.only (modSw_only e n f)

theorem Steady.modPort (p : Port) (f : PortStanding → PortStanding) : Steady d (e.modPort p f) := h.only (modPort_only e p f)

/-! ## DU -/

theorem Steady.duRefresh : Steady d e.duRefresh := by
  refine h.trans ⟨.refl _, ?_⟩
  rw [Device.duRefresh_eq]
  by_cases forced : e.forced = true
  · exact .inr (if_pos forced)
  · exact .inl (if_neg forced)

theorem Steady.duOrder : Steady d e.duOrder := by
  unfold Device.duOrder
  split
  · exact h.modDu rfl
  · exact h.modDu rfl

theorem Steady.duBreakerChanged : Steady d e.duBreakerChanged := by
  unfold Device.duBreakerChanged
  split
  · exact (h.modDu (f := fun u => { u with reportTimer := some (u.reportTimer.getD 1000) }) rfl).duRefresh
  · exact (h.modDu (f := fun u => { u with overrunTimer := none }) rfl).duRefresh

theorem Steady.duReport (v : Int) : Steady d (e.duReport v) := by
  have heard := h.modDu (f := fun u => { u with report := v, reportStale := false, reported := u.reported || e.breakerClosed }) rfl
  refine (heard.duRefresh.modDu (f := fun u => { u with reportTimer := some 1000 }) rfl).when _ fun taken => ?_
  unfold Device.duJudge
  dsimp only
  split
  · exact taken.modDu rfl
  · exact taken.modDu rfl

/-! ## SWC -/

theorem Steady.reportState (n : SwitchId) : Steady d (e.reportState n) := by
  unfold Device.reportState
  dsimp only
  split
  · exact (h.only (reportString_only e _)).post _
  · exact ((h.post _).post _).duBreakerChanged

theorem Steady.changeState (n : SwitchId) (st : SwitchState) (timer : Option Nat) : Steady d (e.changeState n st timer) :=
  ((h.modSw n _).when _ fun h => h.modSwc _).reportState n

theorem Steady.failOpen (n : SwitchId) (detail : Nat) : Steady d (e.failOpen n detail) :=
  ((h.changeState n _ _).modSw n _).raise _ _ _

theorem Steady.finishOpen (n : SwitchId) : Steady d (e.finishOpen n) := ((h.changeState n _ _).modSw n _).raise _ _ _

theorem Steady.enterOpening (n : SwitchId) : Steady d (e.enterOpening n) := by
  unfold Device.enterOpening
  split
  · exact h.changeState n _ _
  · exact h.finishOpen n

theorem Steady.weld (n : SwitchId) : Steady d (e.weld n) := by
  have welded := ((h.changeState n .welded none).only (setResult_only _ n .failed)).raise .switchFailed (.switch n) (some 3)
  unfold Device.weld
  dsimp only
  split
  · exact welded.post _
  · exact welded.modSw n _

theorem Steady.forceOpen (n : SwitchId) : Steady d (e.forceOpen n) := by
  unfold Device.forceOpen
  split
  · exact h.enterOpening n
  · exact (h.only (setResult_only e n _)).enterOpening n
  · exact (h.only (setResult_only e n _)).enterOpening n
  all_goals exact h.only (dropSelection_only e n)

theorem Steady.isolationStep : Steady d e.isolationStep :=
  h.when _ fun h => (h.when _ fun h => h.each _ fun s _ h => h.when _ fun h => h.forceOpen s.switch).when _ fun h => h.modSwc _

theorem Steady.swcEnd : Steady d e.swcEnd := h.isolationStep.only (deriveInhibits_only _)

theorem Steady.isolationStart : Steady d e.isolationStart :=
  (((h.modSwc _).each _ fun n _ h => h.when _ fun h => h.forceOpen n).when _ fun h => h.modSwc _).swcEnd

theorem Steady.judgeMatch (s : StringId) : Steady d (e.judgeMatch s) := h.when _ fun h => h.changeState _ _ _

theorem Steady.softTrip (s : StringId) (x : Health) : Steady d (e.softTrip s x) := by
  have interrupted := h.when (x == .absent) fun h => h.modSw s.switch fun r => { r with interrupted := true }
  unfold Device.softTrip
  dsimp only
  split
  · exact h.when _ fun h => (h.modSw _ _).only (reportString_only _ s)
  · exact interrupted.forceOpen _
  · exact interrupted.forceOpen _
  all_goals exact h

theorem Steady.swcStandingChanged (p : Port) : Steady d (e.swcStandingChanged p) :=
  (h.when _ fun h => h.each _ fun n x h => h.when _ fun h => h.only (dropSelection_only x n)).swcEnd

theorem Steady.startOperation (n : SwitchId) (a : Action) : Steady d (e.startOperation n a) := by
  unfold Device.startOperation
  split
  · split
    · exact (h.modSw _ _).changeState _ _ _
    · exact (h.modSw _ _).changeState _ _ _
  · exact h.enterOpening n

/-! ## SDM -/

theorem Steady.setStanding (p : Port) (st : Standing) : Steady d (e.setStanding p st) := by
  refine h.when _ fun h => ?_
  have changed := (h.modPort p fun r => { r with standing := st }).raise .standingChanged (.port p) (some st.code)
  have followed := (changed.swcStandingChanged p).when (p == .converter) Steady.duRefresh
  exact ((followed.post _).post _).only (postIf_only _ _ _)

theorem Steady.miss (p : Port) (kind : MissKind) : Steady d (e.miss p kind) := (h.modPort p _).setStanding p _

theorem Steady.readmit (p : Port) : Steady d (e.readmit p) := (h.modPort p _).setStanding p _

/-! ## Tables -/

theorem Steady.storeItem (t : StoredTable) (i : Nat) (v : Int) : Steady d (e.storeItem t i v) := by
  have stored := h.only (setItem_only e t i v)
  unfold Device.storeItem
  refine Steady.only (Steady.when ?_ _ fun h => h.duOrder.duRefresh) (postIf_only _ _ _)
  split
  · exact stored.only (expectationRewritten_only _ _)
  · exact stored

end

/-! ## The owners' answers -/

section
variable (d : Device) (p : Port)

theorem swcIsolationWrite_steady (v : Int) : Steady d (swcIsolationWrite v d).1 := by
  have taken := ((Steady.refl d).only (setItem_only d .t11 16 v)).post (.envelopeRecomputation (.isolation (v == 1)))
  unfold swcIsolationWrite
  dsimp only
  split
  · exact .refl d
  · split
    · exact taken.isolationStart
    · exact taken.swcEnd
  · split
    · exact taken
    · exact (taken.modSwc _).swcEnd

theorem writeStored_steady (t : StoredTable) (i : Nat) (v : Int) : Steady d (d.writeStored t i v).1 := by
  refine row_keeps (.refl d) ?_
  split
  · exact (Steady.refl d).storeItem t i _
  · refine row_keeps (.refl d) ?_
    split
    · exact swcIsolationWrite_steady d v
    · exact (Steady.refl d).storeItem t i v

theorem saturate_nonneg {hi v : Int} : 0 ≤ saturate 0 hi v := le_max_left _ _

/-- R52: a rating, saturated, is not negative; R70: a report leaves the grant or forces it to 0. -/
theorem write6_steady (i : Nat) (v : Int) : Steady d (d.write6 i v).1 :=
  match i with
  | 0 => (((Steady.refl d).duReport _).post _).post _
  | 1 => ((Steady.refl d).modEnv ⟨rfl, fun ratings => ⟨saturate_nonneg, ratings.2⟩⟩).post _
  | _ + 2 => ((Steady.refl d).modEnv ⟨rfl, fun ratings => ⟨ratings.1, saturate_nonneg⟩⟩).post _

theorem portWrite_steady (table index : Nat) (v : Word) : Steady d (portWrite p table index v d).1 := by
  refine row_keeps (.refl d) ?_
  split
  · exact (Steady.refl d).only (withEvr_only d _)
  · split
    · exact (Steady.refl d).only (evrWriteMask_only d p v)
    · refine row_keeps (.refl d) (row_keeps (.refl d) (row_keeps (.refl d) (row_keeps (.refl d) ?_)))
      unfold Device.ownerWrite
      split
      · exact writeStored_steady d _ _ _
      · exact write6_steady d _ _

theorem ownerRead_steady (r : ItemRef) : Steady d (d.ownerRead p r).1 := by
  unfold Device.ownerRead
  split
  · exact .refl d
  · exact row_keeps (.refl d) ((Steady.refl d).when _ fun h => h.modEnv ⟨rfl, id⟩)

theorem portRead_steady (table index : Nat) : Steady d (portRead p table index d).1 := by
  refine row_keeps (.refl d) ?_
  split
  · exact ownerRead_steady d p _
  · exact row_keeps (.refl d) (ownerRead_steady d p _)

theorem swcClear_steady (v : Word) : Steady d (swcClear p v d).1 := by
  unfold swcClear
  split
  · exact .refl d
  · exact row_keeps (.refl d) (row_keeps (.refl d) (row_keeps (.refl d) ((Steady.refl d).modSw _ _).swcEnd))

theorem pifOperate_steady (f : ItemFrame) : Steady d (pifOperate p f d).1 := by
  refine row_keeps (.refl d) ?_
  unfold swcOperate
  split
  · exact .refl d
  · split
    · exact .refl d
    · next n _ _ a _ =>
      refine row_keeps (.refl d) ?_
      have dropped := (Steady.refl d).only (dropSelection_only d n)
      split
      · exact (Steady.refl d).when _ fun _ => dropped
      · split
        · exact dropped.only (refuse_only _ n)
        · exact ((Steady.refl d).startOperation n a).swcEnd

theorem sdmAnswer_steady (v : Word) : Steady d (sdmAnswer p v d).1 := by
  refine row_keeps (.refl d) ?_
  dsimp only
  split
  · exact (Steady.refl d).miss p _
  · split
    · exact (Steady.refl d).miss p _
    · split
      · exact (Steady.refl d).miss p _
      · exact ((Steady.refl d).modPort p _).setStanding p _

end

end Sys2Proof.Machine

end

section
/-! SUPPORT. The commands within which a warm restart takes effect (R175, R177, R179). -/

namespace Sys2Proof.Machine

-- Bodies elaborated side by side would each hold a thread while a default argument waits for the kernel.
set_option Elab.async false

/-- A command ends in a warm restart exactly under condition c; else ENV and DU stand. -/
def RestartsWhen (c : Prop) (d e : Device) : Prop := (c → ∃ m : Device, e = m.restart) ∧ (¬c → Steady d e)

/-- R179: what settles restarts exactly where a restart is pending and free. -/
theorem RestartsWhen.settle {c : Prop} {d m : Device} (only : Only [.handoffs, .sto] d m)
    (ready : c ↔ m.sto.restart ≠ none ∧ RestartFree m) : RestartsWhen c d m.settle :=
  ⟨fun h => ⟨m, m.settle_eq.1 (ready.mp h)⟩, fun h => by
    rw [m.settle_eq.2 (mt ready.mpr h)]
    exact (Steady.refl d).only only⟩

theorem RestartsWhen.never {c : Prop} {d : Device} (h : ¬c) : RestartsWhen c d d := ⟨fun hc => absurd hc h, fun _ => .refl d⟩

/-- R175, R177: once the engine proceeds it is IDLE exactly where no update waited. -/
theorem Device.proceed_free (d : Device) : d.proceed.sto.restart ≠ none ∧ RestartFree d.proceed ↔
    d.sto.restart ≠ none ∧ d.sto.updatePending = false ∧ .updateRequest ∉ d.handoffs := by
  unfold Device.proceed
  by_cases pending : d.sto.updatePending = true
  · simp [pending, RestartFree, Device.startUpdate, Sto.begin]
  · simp [pending, RestartFree]

/-- R175: a table store leaves what holds a restart back. -/
theorem Device.storeEnds_free (d : Device) (t : StoredTable) (ok : Bool) :
    (d.storeEnds t ok).sto.restart = d.sto.restart ∧ (d.storeEnds t ok).sto.updatePending = d.sto.updatePending ∧
      (.updateRequest ∈ (d.storeEnds t ok).handoffs ↔ .updateRequest ∈ d.handoffs) := by
  cases ok <;> simp [Device.storeEnds, Device.raise]

/-- R177: so does a record update. -/
theorem Device.updateEnds_free (d : Device) (r : StandingRecord) (ok : Bool) :
    (d.updateEnds r ok).sto.restart = d.sto.restart ∧ (d.updateEnds r ok).sto.updatePending = d.sto.updatePending ∧
      (.updateRequest ∈ (d.updateEnds r ok).handoffs ↔ .updateRequest ∈ d.handoffs) := by
  cases ok <;> simp [Device.updateEnds, Device.raise]

theorem warmRestart_restarts (s : State) : RestartsWhen (restartsWithin .warmRestart s) s.dev s.dev.settle :=
  .settle (.refl _ _) Iff.rfl

theorem programmingCompletion_restarts {s t : State} {ok : Bool} (h : exec (.programmingCompletion ok) s = .next t) :
    RestartsWhen (restartsWithin (.programmingCompletion ok) s) s.dev t.dev := by
  cases h
  dsimp only [State.on_dev]
  split
  · next tb storing =>
    obtain ⟨restart, pending, handoffs⟩ := s.dev.storeEnds_free tb ok
    refine .settle (storeEnds_only _ _ _ |>.proceed) ?_
    rw [Device.proceed_free, restart, pending, handoffs]
    exact ⟨And.right, fun ends => ⟨⟨tb, storing⟩, ends⟩⟩
  · next other => exact .never fun ⟨⟨tb, storing⟩, _⟩ => other tb storing

theorem updateCompletion_restarts {s t : State} {ok : Bool} (h : exec (.updateCompletion ok) s = .next t) :
    RestartsWhen (restartsWithin (.updateCompletion ok) s) s.dev t.dev := by
  cases h
  dsimp only [State.on_dev]
  split
  · next r updating =>
    obtain ⟨restart, pending, handoffs⟩ := s.dev.updateEnds_free r ok
    refine .settle (updateEnds_only _ _ _ |>.proceed) ?_
    rw [Device.proceed_free, restart, pending, handoffs]
    exact ⟨And.right, fun ends => ⟨⟨r, updating⟩, ends⟩⟩
  · next other => exact .never fun ⟨⟨r, updating⟩, _⟩ => other r updating

/-- R179: a failing check sets a restart pending. -/
theorem integrityCheck_restarts {s t : State} {upset : Bool} (h : exec (.integrityCheck upset) s = .next t) :
    RestartsWhen (restartsWithin (.integrityCheck upset) s) s.dev t.dev := by
  cases h
  refine .settle (((Only.refl _ _).modSto _).when _ _ fun _ h => h.selfFailed _) ?_
  have fails := s.dev.checkFails_iff s.dev.sto.checkNext
  by_cases bad : (upset || s.dev.checkFails s.dev.sto.checkNext) = true
  · have failing : upset = true ∨ CheckFails s.dev s.dev.sto.checkNext := by rwa [Bool.or_eq_true, fails] at bad
    simp [restartsWithin, failing, bad, Device.when, Device.selfFailed, RestartFree, Device.raise]
  · have passing : ¬(upset = true ∨ CheckFails s.dev s.dev.sto.checkNext) := by rwa [Bool.or_eq_true, fails] at bad
    simp [restartsWithin, passing, bad, Device.when, RestartFree]

/-- R179: RESTART of the Site Port asks for a restart and settles. -/
theorem stoRestart_restarts (d : Device) (p : Port) :
    RestartsWhen (p = .site ∧ Trusted d p ∧ RestartFree d) d (stoRestart p d).1 := by
  have trusted := Standing.trusted_iff (d.standing p)
  by_cases site : p = .site
  · by_cases ht : Trusted d p
    · rw [stoRestart_taken site (trusted.mpr ht)]
      refine .settle (modSto_only d (fun x => { x with restart := d.restartAsked.sto.restart }) |>.mono (by decide)) ?_
      have asked : d.restartAsked.sto.restart ≠ none := by
        unfold Device.restartAsked
        cases d.sto.restart <;> simp
      exact ⟨fun h => ⟨asked, h.2.2⟩, fun h => ⟨site, ht, h.2⟩⟩
    · have refused : stoRestart p d = (d, .no .noStanding) := by
        subst site
        simp [stoRestart, mt trusted.mp ht]
      rw [refused]
      exact .never fun h => ht h.2.1
  · have refused : stoRestart p d = (d, .no .denied) := by simp [stoRestart, site]
    rw [refused]
    exact .never fun h => site h.1

end Sys2Proof.Machine

end

section
/-! SUPPORT. Every command, by what it does to the envelope and the grant (R54, R66 to R69, R178, R179). -/

namespace Sys2Proof.Machine

-- Bodies elaborated side by side would each hold a thread while a default argument waits for the kernel.
set_option Elab.async false

/-! ## The commands that are no request -/

/-- The events that move the envelope or the grant by a rule of their own. -/
def MovesDispatch (i : Instr) : Prop := i = .powerOnReset ∨ (∃ x, i = .envelopeRecomputation x) ∨ i = .rampStep

/-- The events that end in settling. -/
def Settles (i : Instr) : Prop :=
  i = .warmRestart ∨ (∃ ok, i = .programmingCompletion ok) ∨ (∃ ok, i = .updateCompletion ok) ∨ ∃ upset, i = .integrityCheck upset

theorem event_steady {i : Instr} {s t : State} (event : requestOf i = none) (h : exec i s = .next t) (own : ¬MovesDispatch i)
    (settles : ¬Settles i) : Steady s.dev t.dev := by
  have start := Steady.refl s.dev
  by_cases apart : .env ∉ touches i ∧ .du ∉ touches i
  · obtain ⟨e, he, only⟩ := event_completes event s
    cases h.symm.trans he
    exact start.only only apart
  · cases i with
    | warmRestart => exact absurd (.inl rfl) settles
    | programmingCompletion ok => exact absurd (.inr (.inl ⟨ok, rfl⟩)) settles
    | updateCompletion ok => exact absurd (.inr (.inr (.inl ⟨ok, rfl⟩))) settles
    | integrityCheck upset => exact absurd (.inr (.inr (.inr ⟨upset, rfl⟩))) settles
    | powerOnReset => exact absurd (.inl rfl) own
    | envelopeRecomputation x => exact absurd (.inr (.inl ⟨x, rfl⟩)) own
    | rampStep => exact absurd (.inr (.inr rfl)) own
    | portReset p =>
      cases h.symm.trans (execPortReset_eq p s)
      have cleared : Steady s.dev (s.dev.portCleared p) := ⟨⟨rfl, id⟩, .inl rfl⟩
      exact cleared.readmit p
    | reportStaleExpiry =>
      cases h
      rw [State.on_dev]
      exact start.when _ fun h => (h.modDu (f := fun u => { u with reportTimer := none }) rfl).when _ fun h =>
        (h.modDu (f := fun u => { u with reportStale := true, overrunTimer := none }) rfl).duRefresh.raise _ _ _
    | overrunExpiry =>
      cases h
      rw [State.on_dev]
      exact start.when _ fun h => ((h.modDu (f := fun u => { u with overrunTimer := none }) rfl).raise _ _ _).post _
    | siteStandingHandoff st =>
      cases h
      rw [State.on_dev]
      exact ((start.took (.siteStandingHandoff st)).modDu (f := fun u => { u with siteStanding := st }) rfl).duOrder.duRefresh
    | feedbackChange n shut =>
      cases h
      rw [State.on_dev]
      refine start.when _ fun h => Steady.swcEnd ?_
      have seen := h.only (withPins_only s.dev { s.dev.pins with feedback := s.dev.pins.feedback.set n shut })
      split
      · exact seen.weld _
      · exact seen.weld _
      · exact ((seen.changeState _ _ _).modSw _ _).raise _ _ _
      · exact seen.failOpen _ _
      · exact seen.finishOpen _
      · exact (seen.changeState _ _ _).raise _ _ _
      · exact seen
    | prechargeExpiry n => cases h; rw [State.on_dev]; exact start.when _ fun h => (h.failOpen _ _).swcEnd
    | closeFeedbackExpiry n => cases h; rw [State.on_dev]; exact start.when _ fun h => (h.failOpen _ _).swcEnd
    | openFeedbackExpiry n => cases h; rw [State.on_dev]; exact start.when _ fun h => (h.weld _).swcEnd
    | openDelayExpiry n => cases h; rw [State.on_dev]; exact start.when _ fun h => (h.forceOpen _).swcEnd
    | isolationTimerExpiry => cases h; rw [State.on_dev]; exact start.when _ fun h => ((h.modSwc _).forceOpen _).swcEnd
    | isolationConverterReport kw =>
      cases h
      rw [State.on_dev]
      exact (start.took (.isolationConverterReport kw)).when _ fun h => ((h.modSwc _).forceOpen _).swcEnd
    | swcScanRecord n current voltage =>
      cases h
      rw [State.on_dev]
      exact (((start.took (.swcScanRecord n current voltage)).modSwc _).when _ fun h => h.forceOpen _).swcEnd
    | swcBusRecord dc =>
      cases h
      rw [State.on_dev]
      exact (((start.took (.swcBusRecord dc)).modSwc _).each _ fun n _ h => h.judgeMatch n).swcEnd
    | swcMonitorLoss n =>
      cases h
      rw [State.on_dev]
      exact (((start.took (.swcMonitorLoss n)).modSwc _).when _ fun h => h.modSw _ _).swcEnd
    | swcBusStale => cases h; exact ((start.took .swcBusStale).modSwc _).swcEnd
    | healthHandoffSwc n x =>
      cases h
      rw [State.on_dev]
      have held := (start.took (.healthHandoffSwc n x)).modSwc fun c => { c with health := c.health.set n x }
      refine Steady.swcEnd ?_
      split
      · exact held.forceOpen _
      · split
        · exact held.softTrip _ _
        · exact held
    | fireStageHandoffSwc st =>
      cases h
      rw [State.on_dev]
      exact (((start.took (.fireStageHandoffSwc st)).modSwc _).when _ fun h => h.each _ fun n _ h => h.forceOpen n).swcEnd
    | forcedOpen => cases h; exact ((start.took .forcedOpen).forceOpen _).swcEnd
    | gridWindowHandoffSwc st => cases h; exact ((start.took (.gridWindowHandoffSwc st)).modSwc _).swcEnd
    | periodExpiry p =>
      cases h
      rw [State.on_dev]
      exact (start.modPort p _).when _ fun h => (h.when _ fun h => h.miss p _).when _ fun h => h.only (challenge_only _ p)
    | deadlineExpiry p => cases h; rw [State.on_dev]; exact start.when _ fun h => h.miss p _
    | siteCapWrite p dir f => cases dir <;> cases event
    | ratingWrite p dir f => cases dir <;> cases event
    | deratingWrite p via j f => cases via <;> cases event
    | expectationRewrite p n e f => cases e <;> cases event
    | _ => simp [touches, requestOf] at apart event

theorem event_restarts {i : Instr} {s t : State} (event : requestOf i = none) (h : exec i s = .next t) (own : ¬MovesDispatch i) :
    RestartsWhen (restartsWithin i s) s.dev t.dev := by
  by_cases settles : Settles i
  · obtain rfl | ⟨ok, rfl⟩ | ⟨ok, rfl⟩ | ⟨upset, rfl⟩ := settles
    · cases h; exact warmRestart_restarts s
    · exact programmingCompletion_restarts h
    · exact updateCompletion_restarts h
    · exact integrityCheck_restarts h
  · refine ⟨fun within => ?_, fun _ => event_steady event h own settles⟩
    cases i <;> simp [restartsWithin, Settles, requestOf] at within settles event

/-! ## Requests -/

/-- The requests that touch ENV or DU: READ, WRITE, ANSWER, OPERATE, CLEAR_SWITCH and RESTART. -/
theorem request_dispatch {kind index : Nat} (h : ¬(.env ∉ routeTouches kind index ∧ .du ∉ routeTouches kind index)) :
    kind = 1 ∨ kind = 2 ∨ kind = 4 ∨ kind = 7 ∨ kind = 3 ∧ (index = 7 ∨ index = 19) := by
  unfold routeTouches at h
  split at h <;> simp at h ⊢
  unfold serviceTouches at h
  split at h <;> simp [restartTouches] at h ⊢

theorem route_restarts (d : Device) (p : Port) (f : Frame) :
    RestartsWhen ((f.kind = 3 ∧ f.index = 19) ∧ p = .site ∧ Trusted d p ∧ RestartFree d) d (route p f d).1 := by
  by_cases service : f.kind = 3 ∧ f.index = 19
  · have taken : route p f d = stoRestart p d := by simp only [route, service.1, service.2]; rfl
    rw [taken]
    simpa only [service, true_and] using stoRestart_restarts d p
  · refine ⟨fun h => absurd h.1 service, fun _ => ?_⟩
    by_cases apart : .env ∉ routeTouches f.kind.toNat f.index.toNat ∧ .du ∉ routeTouches f.kind.toNat f.index.toNat
    · exact (Steady.refl d).only (route_only d p f) apart
    · obtain kind | kind | kind | kind | ⟨kind, index | index⟩ := request_dispatch apart <;>
        simp only [route, kind]
      · exact portRead_steady d p _ _
      · exact portWrite_steady d p _ _ _
      · exact sdmAnswer_steady d p _
      · exact pifOperate_steady d p _
      · simp only [Machine.service, index]
        exact swcClear_steady d p _
      · exact absurd ⟨BitVec.eq_of_toNat_eq kind, BitVec.eq_of_toNat_eq index⟩ service

/-- R179: of the requests, RESTART alone and the frames that spell it. -/
theorem restartsWithin_request {i : Instr} {r : Request} (hr : requestOf i = some r) (s : State) : restartsWithin i s ↔
    ((s.dev.link r.port).running = true ∧ r.frame.check = crc8 r.frame.body) ∧
      (r.frame.kind = 3 ∧ r.frame.index = 19) ∧ r.port = .site ∧ Trusted s.dev r.port ∧ RestartFree s.dev := by
  have takes : Takes s i ↔ (s.dev.link r.port).running = true ∧ r.frame.check = crc8 r.frame.body :=
    ⟨fun ⟨q, hq, h⟩ => by cases hr.symm.trans hq; exact h, fun h => ⟨r, hr, h⟩⟩
  rw [← takes]
  cases i with
  | nop p f => cases hr; simp only [restartsWithin]; tauto
  | restart p f => cases hr; simp [restartsWithin, ServiceFrame.frame, kindService]
  | siteCapWrite p dir f => cases dir <;> cases hr <;> simp [restartsWithin, ValueFrame.frame, kindWrite]
  | ratingWrite p dir f => cases dir <;> cases hr <;> simp [restartsWithin, ValueFrame.frame, kindWrite]
  | deratingWrite p via j f => cases via <;> cases hr <;> simp [restartsWithin, ValueFrame.frame, kindWrite]
  | expectationRewrite p n e f => cases e <;> cases hr <;> simp [restartsWithin, ValueFrame.frame, kindWrite]
  | _ =>
    cases hr <;> simp [restartsWithin, ItemFrame.frame, ValueFrame.frame, ServiceFrame.frame, kindRead, kindWrite, kindService,
      kindAnswer, kindAck, kindSelect, kindOperate, kindCancel]

/-- What a warm restart leaves, but for the ports' links. -/
def Restarts (e : Device) : Prop := ∃ m : Device, Only [.pif] m.restart e

theorem request_restarts {i : Instr} {r : Request} {s t : State} (hr : requestOf i = some r) (h : exec i s = .next t) :
    (restartsWithin i s → Restarts t.dev) ∧ (¬restartsWithin i s → Steady s.dev t.dev) := by
  rw [exec_request hr] at h
  cases h
  rw [restartsWithin_request hr]
  have start := Steady.refl s.dev
  by_cases run : (s.dev.link r.port).running = true
  · have out := start.only (clockOut_only s.dev r.port)
    by_cases good : r.frame.check = crc8 r.frame.body
    · have taken : (s.on (·.request r.port r.frame (route r.port r.frame))).dev =
          (route r.port r.frame (s.dev.clockOut r.port)).1.reply r.port r.frame.kind
            (route r.port r.frame (s.dev.clockOut r.port)).2 := by
        simp [Device.request, Device.when, run, Frame.checkOk, good]
      obtain ⟨restarts, steady⟩ := route_restarts (s.dev.clockOut r.port) r.port r.frame
      rw [taken]
      refine ⟨fun within => ?_, fun other => ?_⟩
      · obtain ⟨m, hm⟩ := restarts within.2
        exact ⟨m, hm ▸ reply_only _ _ _ _⟩
      · exact (out.trans (steady fun h => other ⟨⟨run, good⟩, h⟩)).only (reply_only _ _ _ _)
    · have refused : (s.on (·.request r.port r.frame (route r.port r.frame))).dev =
          (s.dev.clockOut r.port).reply r.port r.frame.kind (.no .checkFail) := by
        simp [Device.request, Device.when, run, Frame.checkOk, good]
      rw [refused]
      exact ⟨fun within => absurd within.1.2 good, fun _ => out.only (reply_only _ _ _ _)⟩
  · have held : (s.on (·.request r.port r.frame (route r.port r.frame))).dev = s.dev := by
      simp [Device.request, Device.when, run]
    rw [held]
    exact ⟨fun within => absurd within.1.1 run, fun _ => start⟩

/-- Every command but the few that move the envelope or the grant by a rule of their own leaves both as they stand, or restarts. -/
theorem command_restarts {i : Instr} {s t : State} (h : exec i s = .next t) (own : ¬MovesDispatch i) :
    (restartsWithin i s → Restarts t.dev) ∧ (¬restartsWithin i s → Steady s.dev t.dev) := by
  cases hr : requestOf i with
  | none =>
    obtain ⟨restarts, steady⟩ := event_restarts hr h own
    refine ⟨fun within => ?_, steady⟩
    obtain ⟨m, hm⟩ := restarts within
    exact ⟨m, hm ▸ .refl _ _⟩
  | some r => exact request_restarts hr h

end Sys2Proof.Machine

end

section
/-! SUPPORT. The envelope where it is formed and where it stands (R40, R46, R54, R56, R66, R68, R69). -/

namespace Sys2Proof.Machine

-- Bodies elaborated side by side would each hold a thread while a default argument waits for the kernel.
set_option Elab.async false

/-! ## After a reset -/

/-- R62, R79: what the blocks start with of the envelope and the grant. -/
theorem BlocksStarted.envelope {e : Device} {stages : PerStage CoolStage} (h : BlocksStarted e stages) :
    e.env.generation = 0 ∧ e.env.Rated ∧ EnvelopeFormed e ∧ e.du.granted = 0 := by
  obtain ⟨-, -, -, -, -, -, -, -, -, env, formed, du, -⟩ := h
  have ratingChg : e.env.ratingChg = 9999 := (congrArg Env.ratingChg env :)
  have ratingDis : e.env.ratingDis = 9999 := (congrArg Env.ratingDis env :)
  exact ⟨(congrArg Env.generation env :), ⟨by omega, by omega⟩, formed, (congrArg Du.granted du :)⟩

theorem Device.restart_started (d : Device) : ∃ stages, BlocksStarted d.restart stages := by
  obtain ⟨-, -, -, -, -, -, -, -, started, -⟩ := d.restart_restarted
  exact ⟨_, started⟩

theorem Device.powerOn_started (d : Device) : ∃ stages, BlocksStarted d.powerOn stages :=
  ⟨_, d.powerOn_eq ▸ Device.startBlocks_started d.loaded_ready⟩

/-! ## Terms and envelope formed (R40, R46 to R53, R56) -/

/-- R46 to R53: no term is negative, and BATTERY is active, at most 9999. -/
theorem EnvelopeFormed.terms {d : Device} (h : EnvelopeFormed d) (settings : SettingsLaw d) (rated : d.env.Rated) :
    (∀ k, 0 ≤ (d.env.terms.get k).chg ∧ 0 ≤ (d.env.terms.get k).dis) ∧
      d.env.terms.battery.active = true ∧ d.env.terms.battery.chg ≤ 9999 ∧ d.env.terms.battery.dis ≤ 9999 := by
  obtain ⟨battery, rack, thermal, fire, grid, siteCap, converter, isolation, -⟩ := h
  obtain ⟨rackShare, -⟩ := settings.item_range .t11 (i := 8) (by decide) rfl
  obtain ⟨fireCap, -⟩ := settings.item_range .t9 (i := 3) (by decide) rfl
  obtain ⟨gridCap, -⟩ := settings.item_range .t10 (i := 16) (by decide) rfl
  obtain ⟨capChg, -⟩ := settings.item_range .t5 (i := 3) (by decide) rfl
  obtain ⟨capDis, -⟩ := settings.item_range .t5 (i := 4) (by decide) rfl
  obtain ⟨ratingChg, ratingDis⟩ := rated
  have own : 0 ≤ d.env.terms.battery.chg ∧ 0 ≤ d.env.terms.battery.dis := by
    rw [battery]; exact ⟨le_max_left _ _, le_max_left _ _⟩
  refine ⟨fun k => ?_, by rw [battery], by rw [battery]; exact max_le (by decide) (min_le_left _ _),
    by rw [battery]; exact max_le (by decide) (min_le_left _ _)⟩
  cases k with
  | battery => exact own
  | rack =>
    rw [show d.env.terms.get .rack = _ from rack]
    split
    · exact ⟨by decide, by decide⟩
    · exact ⟨Int.ediv_nonneg (Int.mul_nonneg own.1 rackShare) (by decide),
        Int.ediv_nonneg (Int.mul_nonneg own.2 rackShare) (by decide)⟩
  | thermal => rw [show d.env.terms.get .thermal = _ from thermal]; exact ⟨Int.natCast_nonneg _, Int.natCast_nonneg _⟩
  | fire =>
    rw [show d.env.terms.get .fire = _ from fire]
    split
    · exact ⟨by decide, by decide⟩
    · split
      · exact ⟨fireCap, fireCap⟩
      · exact ⟨le_refl _, le_refl _⟩
  | grid =>
    rw [show d.env.terms.get .grid = _ from grid]
    split
    · exact ⟨by decide, by decide⟩
    · split
      · exact ⟨gridCap, gridCap⟩
      · exact ⟨le_refl _, le_refl _⟩
  | siteCap => rw [show d.env.terms.get .siteCap = _ from siteCap]; exact ⟨capChg, capDis⟩
  | converter =>
    rw [show d.env.terms.get .converter = _ from converter]
    split
    · exact ⟨ratingChg, ratingDis⟩
    · exact ⟨by decide, by decide⟩
  | isolation =>
    rw [show d.env.terms.get .isolation = _ from isolation]
    split
    · exact ⟨le_refl _, le_refl _⟩
    · exact ⟨by decide, by decide⟩

/-- R40, R56: a least value over terms that hold one of 0..9999 lies in 0..9999, and one of them reaches it. -/
theorem least_reached {ts : PerTerm TermValue} {f : TermValue → Int} {v : Int} {bind : List Term}
    (least : v ≤ 9999 ∧ (∀ k, (ts.get k).active = true → v ≤ f (ts.get k)) ∧
      (v = 9999 ∨ ∃ k, (ts.get k).active = true ∧ f (ts.get k) = v))
    (binds : ∀ k, k ∈ bind ↔ (ts.get k).active = true ∧ f (ts.get k) = v) (nonneg : ∀ k, 0 ≤ f (ts.get k))
    (battery : ts.battery.active = true) (top : f ts.battery ≤ 9999) : 0 ≤ v ∧ v ≤ 9999 ∧ bind ≠ [] := by
  obtain ⟨most, below, attained⟩ := least
  obtain ⟨k, active, reached⟩ : ∃ k, (ts.get k).active = true ∧ f (ts.get k) = v :=
    attained.elim (fun all => ⟨.battery, battery, le_antisymm (all ▸ top) (below .battery battery)⟩) id
  exact ⟨reached ▸ nonneg k, most, List.ne_nil_of_mem ((binds k).mpr ⟨active, reached⟩)⟩

/-- R40, R56, R66: an envelope just formed obeys its law where the grant lies within it. -/
theorem EnvelopeFormed.law {d : Device} (h : EnvelopeFormed d) (settings : SettingsLaw d) (rated : d.env.Rated)
    (within : 0 ≤ d.env.chg → 0 ≤ d.env.dis → -d.env.chg ≤ d.du.granted ∧ d.du.granted ≤ d.env.dis) : EnvelopeLaw d := by
  obtain ⟨nonneg, active, topChg, topDis⟩ := h.terms settings rated
  obtain ⟨-, -, -, -, -, -, -, -, leastChg, leastDis, bindChg, bindDis⟩ := h
  obtain ⟨chg, chgTop, chgBinds⟩ := least_reached leastChg bindChg (fun k => (nonneg k).1) active topChg
  obtain ⟨dis, disTop, disBinds⟩ := least_reached leastDis bindDis (fun k => (nonneg k).2) active topDis
  obtain ⟨low, high⟩ := within chg dis
  exact ⟨rated.1, rated.2, ⟨chg, chgTop⟩, ⟨dis, disTop⟩, fun k hk => ⟨leastChg.2.1 k hk, leastDis.2.1 k hk⟩, bindChg, bindDis,
    chgBinds, disBinds, low, high⟩

theorem BlocksStarted.law {e : Device} {stages : PerStage CoolStage} (h : BlocksStarted e stages) (settings : SettingsLaw e) :
    EnvelopeLaw e := by
  obtain ⟨-, rated, formed, granted⟩ := h.envelope
  exact formed.law settings rated fun chg dis => by omega

/-- R40, R56, R66: the law outlasts what leaves the envelope, with a grant that stays in it. -/
theorem EnvelopeLaw.stands {d e : Device} (h : EnvelopeLaw d) (env : d.env.Stands e.env)
    (within : -d.env.chg ≤ e.du.granted ∧ e.du.granted ≤ d.env.dis) : EnvelopeLaw e := by
  obtain ⟨ratingChg, ratingDis, chg, dis, terms, bindChg, bindDis, chgBinds, disBinds, -, -⟩ := h
  obtain ⟨same, rated⟩ := env
  obtain ⟨ratingChg', ratingDis'⟩ := rated ⟨ratingChg, ratingDis⟩
  unfold EnvelopeLaw
  rw [same]
  exact ⟨ratingChg', ratingDis', chg, dis, terms, bindChg, bindDis, chgBinds, disBinds, within.1, within.2⟩

theorem EnvelopeLaw.steady {d e : Device} (h : EnvelopeLaw d) (steady : Steady d e) : EnvelopeLaw e := by
  refine h.stands steady.env ?_
  obtain ⟨-, -, chg, dis, -, -, -, -, -, low, high⟩ := h
  rcases steady.granted with same | zero <;> omega

/-! ## A recomputation (R54, R69) -/

/-- R54, R69: the generation and the grant after a recomputation. -/
theorem recomputation_moves {x : EnvInput} {s t : State} (h : exec (.envelopeRecomputation x) s = .next t) :
    EnvelopeFormed t.dev ∧ (s.dev.env.Rated → t.dev.env.Rated) ∧
    (t.dev.env.chg = s.dev.env.chg ∧ t.dev.env.dis = s.dev.env.dis →
      t.dev.env.generation = s.dev.env.generation ∧ t.dev.du = s.dev.du) ∧
    (¬(t.dev.env.chg = s.dev.env.chg ∧ t.dev.env.dis = s.dev.env.dis) →
      t.dev.env.generation = s.dev.env.generation + 1 ∧
        (t.dev.du.granted = 0 ∨ t.dev.du.granted = broughtWithin t.dev.env.chg t.dev.env.dis s.dev.du.granted)) := by
  obtain ⟨t', h', -, -, -, -, -, -, -, -, -, ratingChg, ratingDis, -, -, formed, still, moved⟩ := envelopeIsRecomputed x s
  cases h.symm.trans h'
  refine ⟨formed, fun rated => ⟨ratingChg ▸ rated.1, ratingDis ▸ rated.2⟩, fun same => ?_, fun other => ?_⟩
  · obtain ⟨generation, -, du, -⟩ := still fun h => h.elim (· same.1) (· same.2)
    exact ⟨generation, du⟩
  · obtain ⟨generation, -, -, -, -, du⟩ := moved (by tauto)
    refine ⟨generation, ?_⟩
    have granted := (congrArg Du.granted du :)
    by_cases forced : s.dev.forced = true
    · exact .inl (granted.trans (if_pos forced))
    · exact .inr (granted.trans (if_neg forced))

theorem broughtWithin_bounds {chg dis : Int} (hc : 0 ≤ chg) (hd : 0 ≤ dis) (granted : Int) :
    -chg ≤ broughtWithin chg dis granted ∧ broughtWithin chg dis granted ≤ dis := by
  unfold broughtWithin
  split
  · omega
  · split <;> omega

theorem EnvelopeLaw.recomputation {x : EnvInput} {s t : State} (law : EnvelopeLaw s.dev) (settings : SettingsLaw t.dev)
    (h : exec (.envelopeRecomputation x) s = .next t) : EnvelopeLaw t.dev := by
  obtain ⟨ratingChg, ratingDis, -, -, -, -, -, -, -, low, high⟩ := law
  obtain ⟨formed, rated, still, moved⟩ := recomputation_moves h
  refine formed.law settings (rated ⟨ratingChg, ratingDis⟩) fun chg dis => ?_
  by_cases same : t.dev.env.chg = s.dev.env.chg ∧ t.dev.env.dis = s.dev.env.dis
  · rw [(still same).2, same.1, same.2]
    exact ⟨low, high⟩
  · obtain ⟨-, zero | brought⟩ := moved same
    · omega
    · rw [brought]
      exact broughtWithin_bounds chg dis _

/-! ## A ramp step (R68) -/

/-- R68: a step goes no further than the target. -/
theorem rampToward_between {rate granted target lo hi : Int} (hg : lo ≤ granted ∧ granted ≤ hi)
    (ht : lo ≤ target ∧ target ≤ hi) : lo ≤ rampToward rate granted target ∧ rampToward rate granted target ≤ hi := by
  unfold rampToward
  dsimp only
  split <;> omega

/-- R68: a ramp step without a running timer moves nothing. -/
theorem rampStep_dev {s t : State} (h : exec .rampStep s = .next t) :
    (s.dev.du.rampTimer.isSome = true → t.dev = (s.dev.modDu fun u =>
      { u with granted := rampToward (s.dev.item .t5 1) u.granted u.target, rampTimer := none }).duRefresh) ∧
    (¬s.dev.du.rampTimer.isSome = true → t.dev = s.dev) := by
  cases h
  rw [State.on_dev, Device.when]
  exact ⟨fun runs => if_pos runs, fun idle => if_neg idle⟩

theorem EnvelopeLaw.rampStep {s t : State} (law : EnvelopeLaw s.dev) (dispatch : DispatchLaw s.dev)
    (h : exec .rampStep s = .next t) : EnvelopeLaw t.dev := by
  obtain ⟨stepped, idle⟩ := rampStep_dev h
  by_cases runs : s.dev.du.rampTimer.isSome = true
  · rw [stepped runs]
    refine law.stands (.refl _) ?_
    obtain ⟨-, -, chg, dis, -, -, -, -, -, grant⟩ := law
    obtain ⟨-, target, timer⟩ := dispatch
    have order := target (timer.mp runs).1
    have between := rampToward_between (rate := s.dev.item .t5 1) grant
      (target := s.dev.du.target) (by rw [order]; omega)
    rw [Device.duRefresh_eq]
    dsimp only
    split
    · omega
    · exact between
  · rw [idle runs]
    exact law

/-! ## Every command -/

theorem EnvelopeLaw.command {i : Instr} {s t : State} (law : EnvelopeLaw s.dev) (dispatch : DispatchLaw s.dev)
    (settings : SettingsLaw t.dev) (h : exec i s = .next t) : EnvelopeLaw t.dev := by
  by_cases own : MovesDispatch i
  · obtain rfl | ⟨x, rfl⟩ | rfl := own
    · cases h
      obtain ⟨_, started⟩ := s.dev.powerOn_started
      exact started.law settings
    · exact law.recomputation settings h
    · exact law.rampStep dispatch h
  · obtain ⟨restarts, steady⟩ := command_restarts h own
    by_cases within : restartsWithin i s
    · obtain ⟨m, only⟩ := restarts within
      obtain ⟨_, started⟩ := m.restart_started
      have settled : SettingsLaw m.restart := settings.congr (only .settings (by decide)).symm
        (congrArg Sto.copies (only .sto (by decide))).symm (congrArg Clc.settings (only .clc (by decide))).symm
      exact (started.law settled).steady ((Steady.refl _).only only)
    · exact law.steady (steady within)

theorem Steady.tick (d : Device) : Steady d d.tick := ⟨.refl _, .inl rfl⟩

end Sys2Proof.Machine

section
open Sys2Proof Sys2Proof.Machine

/-- Settles O14: a recomputation steps the generation with the envelope, a reset starts it at 0, and every other command leaves both. -/
theorem generationFollowsTheEnvelope : Obligations.GenerationFollowsTheEnvelope := by
  intro i s t h
  have stands : s.dev.env.Stands t.dev.env → t.dev.env.generation =
      if t.dev.env.chg = s.dev.env.chg ∧ t.dev.env.dis = s.dev.env.dis then s.dev.env.generation
      else s.dev.env.generation + 1 := fun ⟨same, _⟩ => by
    rw [same]; exact (if_pos ⟨rfl, rfl⟩).symm
  by_cases own : MovesDispatch i
  · obtain rfl | ⟨x, rfl⟩ | rfl := own
    · cases h
      obtain ⟨_, started⟩ := s.dev.powerOn_started
      exact ⟨fun other => absurd rfl other, fun _ => started.envelope.1⟩
    · obtain ⟨-, -, still, moved⟩ := recomputation_moves h
      refine ⟨fun _ _ => ?_, fun reset => by simp [restartsWithin] at reset⟩
      split
      · next same => exact (still same).1
      · next other => exact (moved other).1
    · obtain ⟨e, he, only⟩ := execRampStep_completes s
      cases h.symm.trans he
      exact ⟨fun _ _ => stands (by rw [only .env (by decide)]; exact .refl _), fun reset => by simp [restartsWithin] at reset⟩
  · obtain ⟨restarts, steady⟩ := command_restarts h own
    refine ⟨fun _ other => stands (steady other).env, fun reset => ?_⟩
    obtain ⟨m, only⟩ := restarts (reset.resolve_left fun powerOn => own (.inl powerOn))
    obtain ⟨_, started⟩ := m.restart_started
    rw [only .env (by decide)]
    exact started.envelope.1

/-- Settles O8: the clock and most commands leave the envelope and a grant within it; a recomputation, a ramp step and the resets keep the
law by their own rules. -/
theorem envelopeLawKept : Obligations.EnvelopeLawKept := by
  intro s t h settings dispatch law
  obtain ⟨after, -⟩ := settingsLawKept s t h
  rcases step_cases h with ⟨i, q, h⟩ | tick
  · exact EnvelopeLaw.command (s := ⟨q, s.dev⟩) law dispatch (after settings) h
  · rw [tick]
    exact law.steady (.tick _)

end

end

section
/-! SUPPORT. DU's law through every operation of the part (R65 to R68, R79): a refresh establishes it, and what neither refreshes DU nor
moves what the law reads leaves it as it stands. -/

namespace Sys2Proof.Machine

-- Bodies elaborated side by side would each hold a thread while a default argument waits for the kernel.
set_option Elab.async false

/-! ## What the law reads -/

/-- The envelope, DU's order, grant, target and ramp, and the causes of a forced mode: all that DU's law reads. -/
structure DispatchView where
  chg : Int
  dis : Int
  order : Int
  granted : Int
  target : Int
  ramps : Bool
  reported : Bool
  stale : Bool
  standing : Standing
  breakerClosed : Bool

def Device.dispatchView (d : Device) : DispatchView :=
  ⟨d.env.chg, d.env.dis, d.du.order, d.du.granted, d.du.target, d.du.rampTimer.isSome, d.du.reported, d.du.reportStale,
    d.standing .converter, d.breakerClosed⟩

theorem DispatchLaw.congr {d e : Device} (law : DispatchLaw d) (same : e.dispatchView = d.dispatchView) : DispatchLaw e := by
  simp only [Device.dispatchView, DispatchView.mk.injEq] at same
  obtain ⟨chg, dis, order, granted, target, ramps, reported, stale, standing, breaker⟩ := same
  have forced : e.forced = d.forced := by
    simp only [Device.forced, Device.causeStanding, stale, standing, breaker]
  unfold DispatchLaw
  rw [chg, dis, order, granted, target, ramps, reported, standing, forced]
  exact law

/-- R65, R67, R68, R79: a refresh leaves DU as its law asks, whatever it was. -/
theorem Device.duRefresh_lawful (d : Device) : DispatchLaw d.duRefresh := by
  have forced : d.duRefresh.forced = d.forced := by rw [Device.duRefresh_eq]; rfl
  unfold DispatchLaw
  rw [forced, Device.duRefresh_eq]
  exact ⟨fun on => ⟨if_pos on, if_pos on⟩, fun off => by simp only [off]; rfl, Option.isSome_ite⟩

section
variable {d : Device} (law : DispatchLaw d)
include law

theorem DispatchLaw.only {e : Device} {bs : List Block} (only : Only bs d e)
    (apart : .env ∉ bs ∧ .du ∉ bs ∧ .swc ∉ bs ∧ .sdm ∉ bs := by decide) : DispatchLaw e := by
  obtain ⟨env, du, swc, sdm⟩ := apart
  refine law.congr ?_
  unfold Device.dispatchView Device.standing Device.breakerClosed
  rw [only .env env, only .du du, only .swc swc, only .sdm sdm]

theorem DispatchLaw.post (i : Instr) : DispatchLaw (d.post i) := law.congr rfl

theorem DispatchLaw.postIf (b : Bool) (i : Instr) : DispatchLaw (d.postIf b i) := law.only (postIf_only d b i)

theorem DispatchLaw.took (i : Instr) : DispatchLaw (d.took i) := law.congr rfl

theorem DispatchLaw.raise (c : EventClass) (u : Subject) (n : Option Nat) : DispatchLaw (d.raise c u n) := law.congr rfl

theorem DispatchLaw.modDu {f : Du → Du} (same : (d.modDu f).dispatchView = d.dispatchView) : DispatchLaw (d.modDu f) :=
  law.congr same

theorem DispatchLaw.modSwc {f : Swc → Swc} (same : (f d.swc).switches.g.state = d.swc.switches.g.state) :
    DispatchLaw (d.modSwc f) :=
  law.congr (congrArg (fun st => { d.dispatchView with breakerClosed := st == SwitchState.closed }) same)

theorem DispatchLaw.modSw (n : SwitchId) {f : SwitchRec → SwitchRec} (same : (f (d.sw n)).state = (d.sw n).state) :
    DispatchLaw (d.modSw n f) := by
  cases n with
  | g => exact law.modSwc same
  | _ => exact law.modSwc rfl

theorem DispatchLaw.modPort (p : Port) {f : PortStanding → PortStanding} (same : (f (d.port p)).standing = d.standing p) :
    DispatchLaw (d.modPort p f) := by
  cases p with
  | converter => exact law.congr (congrArg (fun st => { d.dispatchView with standing := st }) same)
  | _ => exact law.congr rfl

end

/-- R70, R72, R73: a report ends in a refresh, and its judgment moves the overrun timer alone. -/
theorem Device.duReport_lawful (d : Device) (v : Int) : DispatchLaw (d.duReport v) := by
  have heard : DispatchLaw (d.modDu fun u =>
      { u with report := v, reportStale := false, reported := u.reported || d.breakerClosed }).duRefresh :=
    Device.duRefresh_lawful _
  refine Device.when_keeps (heard.modDu (f := fun u => { u with reportTimer := some 1000 }) rfl) fun timed => ?_
  unfold Device.duJudge
  dsimp only
  split
  · exact timed.congr rfl
  · exact timed.congr rfl

/-! ## SWC -/

section
variable {d : Device} (law : DispatchLaw d)
include law

/-- R67, R97: the breaker's change of state refreshes DU in its own event; a string's does not reach DU. -/
theorem DispatchLaw.changeState (n : SwitchId) (st : SwitchState) (timer : Option Nat) : DispatchLaw (d.changeState n st timer) := by
  cases n with
  | g => exact Device.duRefresh_lawful _
  | _ => exact law.congr rfl

theorem DispatchLaw.setResult (n : SwitchId) (r : LastResult) : DispatchLaw (d.setResult n r) := law.modSw n rfl

theorem DispatchLaw.dropSelection (n : SwitchId) : DispatchLaw (d.dropSelection n) := law.modSw n rfl

theorem DispatchLaw.failOpen (n : SwitchId) (detail : Nat) : DispatchLaw (d.failOpen n detail) :=
  ((law.changeState n .opened none).modSw n rfl).raise _ _ _

theorem DispatchLaw.finishOpen (n : SwitchId) : DispatchLaw (d.finishOpen n) :=
  ((law.changeState n .opened none).modSw n rfl).raise _ _ _

theorem DispatchLaw.enterOpening (n : SwitchId) : DispatchLaw (d.enterOpening n) := by
  unfold Device.enterOpening
  split
  · exact law.changeState n _ _
  · exact law.finishOpen n

theorem DispatchLaw.weld (n : SwitchId) : DispatchLaw (d.weld n) := by
  have welded := ((law.changeState n .welded none).setResult n .failed).raise .switchFailed (.switch n) (some 3)
  unfold Device.weld
  dsimp only
  split
  · exact welded.post _
  · exact welded.modSw n rfl

theorem DispatchLaw.forceOpen (n : SwitchId) : DispatchLaw (d.forceOpen n) := by
  unfold Device.forceOpen
  split
  · exact law.enterOpening n
  · exact (law.setResult n _).enterOpening n
  · exact (law.setResult n _).enterOpening n
  all_goals exact law.dropSelection n

theorem DispatchLaw.isolationStep : DispatchLaw d.isolationStep :=
  Device.when_keeps law fun law =>
    have opened := Device.when_keeps law fun law => Device.each_keeps law fun s _ law =>
      Device.when_keeps law fun law => law.forceOpen s.switch
    Device.when_keeps opened fun law => law.modSwc rfl

theorem DispatchLaw.swcEnd : DispatchLaw d.swcEnd := law.isolationStep.modSwc rfl

theorem DispatchLaw.isolationStart : DispatchLaw d.isolationStart :=
  have isolating : DispatchLaw (d.modSwc fun c => { c with isolation := .isolating }) := law.modSwc rfl
  have aborted := Device.each_keeps isolating fun n _ law => Device.when_keeps law fun law => law.forceOpen n
  (Device.when_keeps aborted fun law => law.modSwc rfl).swcEnd

theorem DispatchLaw.judgeMatch (s : StringId) : DispatchLaw (d.judgeMatch s) :=
  Device.when_keeps law fun law => law.changeState _ _ _

theorem DispatchLaw.softTrip (s : StringId) (x : Health) : DispatchLaw (d.softTrip s x) := by
  have interrupted := Device.when_keeps (b := x == .absent)
    (f := fun d => d.modSw s.switch fun r => { r with interrupted := true }) law fun law => law.modSw _ rfl
  unfold Device.softTrip
  dsimp only
  split
  · exact Device.when_keeps law fun law => (law.modSw s.switch rfl).post _
  · exact interrupted.forceOpen _
  · exact interrupted.forceOpen _
  all_goals exact law

theorem DispatchLaw.swcStandingChanged (p : Port) : DispatchLaw (d.swcStandingChanged p) :=
  (Device.when_keeps law fun law => Device.each_keeps law fun n _ law =>
    Device.when_keeps law fun law => law.dropSelection n).swcEnd

theorem DispatchLaw.startOperation (n : SwitchId) (a : Action) : DispatchLaw (d.startOperation n a) := by
  unfold Device.startOperation
  split
  · split
    · exact (law.modSw _ rfl).changeState _ _ _
    · exact (law.modSw _ rfl).changeState _ _ _
  · exact law.enterOpening n

/-! ## SDM -/

/-- R67, R158: the Converter Port's change of standing ends in a refresh of DU; another port's does not move what the law reads. -/
theorem DispatchLaw.setStanding (p : Port) (st : Standing) : DispatchLaw (d.setStanding p st) := by
  refine Device.when_keeps law fun law => DispatchLaw.postIf (DispatchLaw.post (DispatchLaw.post ?_ _) _) _ _
  cases p with
  | converter => exact Device.duRefresh_lawful _
  | cell | site => exact DispatchLaw.swcStandingChanged (DispatchLaw.raise (d := d.modPort _ _) (law.congr rfl) _ _ _) _

theorem DispatchLaw.miss (p : Port) (kind : MissKind) : DispatchLaw (d.miss p kind) := (law.modPort p rfl).setStanding p _

theorem DispatchLaw.readmit (p : Port) : DispatchLaw (d.readmit p) := (law.modPort p rfl).setStanding p _

/-! ## Tables -/

/-- R63, R64: an order write ends in a refresh; any other stored item is none that the law reads. -/
theorem DispatchLaw.storeItem (t : StoredTable) (i : Nat) (v : Int) : DispatchLaw (d.storeItem t i v) := by
  have stored := law.only (setItem_only d t i v)
  have refreshed : ∀ e, DispatchLaw e → DispatchLaw (e.when (feedsOrder t i) (·.duOrder.duRefresh)) := fun _ law =>
    Device.when_keeps law fun _ => Device.duRefresh_lawful _
  unfold Device.storeItem
  refine (refreshed _ ?_).postIf _ _
  split
  · exact stored.only (expectationRewritten_only _ _)
  · exact stored

/-! ## The owners' answers -/

theorem DispatchLaw.swcIsolationWrite (v : Int) : DispatchLaw (swcIsolationWrite v d).1 := by
  have taken := (law.only (setItem_only d .t11 16 v)).post (.envelopeRecomputation (.isolation (v == 1)))
  unfold Machine.swcIsolationWrite
  dsimp only
  split
  · exact law
  · split
    · exact taken.isolationStart
    · exact taken.swcEnd
  · split
    · exact taken
    · exact (taken.modSwc (f := fun c => { c with isolation := .released }) rfl).swcEnd

theorem DispatchLaw.writeStored (t : StoredTable) (i : Nat) (v : Int) : DispatchLaw (d.writeStored t i v).1 := by
  refine row_keeps law ?_
  split
  · exact law.storeItem t i _
  · refine row_keeps law ?_
    split
    · exact law.swcIsolationWrite v
    · exact law.storeItem t i v

theorem DispatchLaw.write6 (i : Nat) (v : Int) : DispatchLaw (d.write6 i v).1 :=
  match i with
  | 0 => ((d.duReport_lawful _).post _).post _
  | 1 => law.congr rfl
  | _ + 2 => law.congr rfl

theorem DispatchLaw.portWrite (p : Port) (table index : Nat) (v : Word) : DispatchLaw (portWrite p table index v d).1 := by
  refine row_keeps law ?_
  split
  · exact law.congr rfl
  · split
    · exact law.only (evrWriteMask_only d p v)
    · refine row_keeps law (row_keeps law (row_keeps law (row_keeps law ?_)))
      unfold Device.ownerWrite
      split
      · exact law.writeStored _ _ _
      · exact law.write6 _ _

/-- R57: of ENV a READ moves the port's generation flag alone. -/
theorem DispatchLaw.ownerRead (p : Port) (r : ItemRef) : DispatchLaw (d.ownerRead p r).1 := by
  unfold Device.ownerRead
  split
  · exact law
  · exact row_keeps law (Device.when_keeps law fun law => law.congr rfl)

theorem DispatchLaw.portRead (p : Port) (table index : Nat) : DispatchLaw (portRead p table index d).1 := by
  refine row_keeps law ?_
  split
  · exact law.ownerRead p _
  · exact row_keeps law (law.ownerRead p _)

theorem DispatchLaw.refuse (n : SwitchId) : DispatchLaw (d.refuse n).1 := law.modSw n rfl

theorem DispatchLaw.pifSelect (p : Port) (f : ItemFrame) : DispatchLaw (pifSelect p f d).1 := by
  refine row_keeps law ?_
  unfold swcSelect
  split
  · exact law
  · next n _ =>
    split
    · exact law
    · refine row_keeps law (row_keeps law (row_keeps law (row_keeps law (row_keeps law ?_))))
      split
      · exact law.refuse n
      · exact law.modSw n rfl

theorem DispatchLaw.pifOperate (p : Port) (f : ItemFrame) : DispatchLaw (pifOperate p f d).1 := by
  refine row_keeps law ?_
  unfold swcOperate
  split
  · exact law
  · next n _ =>
    split
    · exact law
    · refine row_keeps law ?_
      split
      · exact Device.when_keeps law fun law => law.dropSelection n
      · split
        · exact (law.dropSelection n).refuse n
        · exact (law.startOperation n _).swcEnd

theorem DispatchLaw.swcCancel (p : Port) : DispatchLaw (swcCancel p d).1 := by
  unfold Machine.swcCancel
  split
  · exact law.dropSelection _
  · exact law

theorem DispatchLaw.swcClear (p : Port) (v : Word) : DispatchLaw (swcClear p v d).1 := by
  unfold Machine.swcClear
  split
  · exact law
  · exact row_keeps law (row_keeps law (row_keeps law (law.modSw _ rfl).swcEnd))

theorem DispatchLaw.sdmAnswer (p : Port) (v : Word) : DispatchLaw (sdmAnswer p v d).1 := by
  refine row_keeps law ?_
  dsimp only
  split
  · exact law.miss p _
  · split
    · exact law.miss p _
    · split
      · exact law.miss p _
      · exact (law.modPort p rfl).setStanding p _

end

/-! ## The resets -/

/-- R79: DU starts with a refresh, and CLC alone starts after it. -/
theorem Device.startBlocks_lawful (d : Device) : DispatchLaw d.startBlocks :=
  (Device.duRefresh_lawful _).only (startClc_only _)

theorem DispatchLaw.settle {d : Device} (law : DispatchLaw d) : DispatchLaw d.settle :=
  Device.when_keeps law fun _ => Device.startBlocks_lawful _

theorem DispatchLaw.stoRestart {d : Device} (law : DispatchLaw d) (p : Port) : DispatchLaw (stoRestart p d).1 :=
  row_keeps law (row_keeps law (law.only (modSto_only d _)).settle)

/-! ## A recomputation (R54, R69) -/

/-- R54, R69: the envelope event refreshes DU; a recomputation without one leaves the envelope. -/
theorem DispatchLaw.envRecompute {d : Device} (law : DispatchLaw d) : DispatchLaw d.envRecompute := by
  by_cases moves : d.envMoves
  · have moved : decide (d.envForm.env.chg ≠ d.env.chg ∨ d.envForm.env.dis ≠ d.env.dis) = true := decide_eq_true moves
    unfold Device.envRecompute
    simp only [moved]
    exact Device.duRefresh_lawful _
  · obtain ⟨chg, dis⟩ := not_or.mp moves
    rw [Device.envRecompute_still moves]
    exact law.congr (congrArg₂ (fun x y => { d.dispatchView with chg := x, dis := y }) (not_not.mp chg) (not_not.mp dis))

end Sys2Proof.Machine

end

section
/-! SUPPORT. DU's law through every command and the clock (R65 to R68, R79). -/

namespace Sys2Proof.Machine

-- Bodies elaborated side by side would each hold a thread while a default argument waits for the kernel.
set_option Elab.async false

theorem dispatchLaw_event {i : Instr} {s t : State} (event : requestOf i = none) (h : exec i s = .next t)
    (law : DispatchLaw s.dev) : DispatchLaw t.dev := by
  by_cases apart : .env ∉ touches i ∧ .du ∉ touches i ∧ .swc ∉ touches i ∧ .sdm ∉ touches i
  · obtain ⟨e, he, only⟩ := event_completes event s
    cases h.symm.trans he
    exact law.only only apart
  · cases i with
    | powerOnReset => cases h; rw [State.on_dev, Device.powerOn_eq]; exact Device.startBlocks_lawful _
    | warmRestart => cases h; exact law.settle
    | programmingCompletion ok =>
      cases h
      dsimp only [State.on_dev]
      split
      · exact (law.only ((Only.refl [.handoffs, .sto] _).storeEnds _ _).proceed).settle
      · exact law
    | updateCompletion ok =>
      cases h
      dsimp only [State.on_dev]
      split
      · exact (law.only ((Only.refl [.handoffs, .sto] _).updateEnds _ _).proceed).settle
      · exact law
    | integrityCheck upset =>
      cases h
      exact (law.only (((Only.refl [.handoffs, .sto] _).modSto _).when _ _ fun _ h => h.selfFailed _)).settle
    | portReset p =>
      cases h.symm.trans (execPortReset_eq p s)
      have cleared : DispatchLaw (s.dev.portCleared p) := law.congr rfl
      exact cleared.readmit p
    | envelopeRecomputation x =>
      cases h.symm.trans (execEnvelopeRecomputation_eq x s)
      obtain ⟨chg, dis, -⟩ := s.dev.heard_env x
      have heard : DispatchLaw (s.dev.heard x) :=
        law.congr (congrArg₂ (fun x y => { s.dev.dispatchView with chg := x, dis := y }) chg dis)
      exact heard.envRecompute
    | rampStep => cases h; exact Device.when_keeps law fun _ => Device.duRefresh_lawful _
    | reportStaleExpiry =>
      cases h
      refine Device.when_keeps law fun law => ?_
      have stopped : DispatchLaw (s.dev.modDu fun u => { u with reportTimer := none }) := law.congr rfl
      exact Device.when_keeps stopped fun _ => (Device.duRefresh_lawful _).raise _ _ _
    | overrunExpiry => cases h; exact Device.when_keeps law fun law => law.congr rfl
    | siteStandingHandoff st => cases h; exact Device.duRefresh_lawful _
    | feedbackChange n shut =>
      cases h
      refine Device.when_keeps law fun law => DispatchLaw.swcEnd ?_
      have seen := law.only (withPins_only s.dev { s.dev.pins with feedback := s.dev.pins.feedback.set n shut })
      split
      · exact seen.weld _
      · exact seen.weld _
      · exact ((seen.changeState _ _ _).modSw _ rfl).raise _ _ _
      · exact seen.failOpen _ _
      · exact seen.finishOpen _
      · exact (seen.changeState _ _ _).raise _ _ _
      · exact seen
    | prechargeExpiry n => cases h; exact Device.when_keeps law fun law => (law.failOpen _ _).swcEnd
    | closeFeedbackExpiry n => cases h; exact Device.when_keeps law fun law => (law.failOpen _ _).swcEnd
    | openFeedbackExpiry n => cases h; exact Device.when_keeps law fun law => (law.weld _).swcEnd
    | openDelayExpiry n => cases h; exact Device.when_keeps law fun law => (law.forceOpen _).swcEnd
    | selectExpiry n => cases h; exact Device.when_keeps law fun law => (law.dropSelection n).setResult n _
    | isolationTimerExpiry =>
      cases h
      refine Device.when_keeps law fun law => ?_
      have stopped : DispatchLaw (s.dev.modSwc fun c => { c with isolationTimer := none }) := law.modSwc rfl
      exact (stopped.forceOpen _).swcEnd
    | isolationConverterReport kw =>
      cases h
      refine Device.when_keeps (law.took (.isolationConverterReport kw)) fun law => ?_
      have stopped : DispatchLaw (Device.modSwc (fun c => { c with isolationTimer := none }) _) := law.modSwc rfl
      exact (stopped.forceOpen _).swcEnd
    | swcScanRecord n current voltage =>
      cases h
      have sampled : DispatchLaw ((s.dev.took (.swcScanRecord n current voltage)).modSwc fun c =>
        { c with samples := c.samples.set n (some ⟨current, voltage⟩) }) := law.congr rfl
      exact (Device.when_keeps sampled fun law => law.forceOpen _).swcEnd
    | swcBusRecord dc =>
      cases h
      have held : DispatchLaw ((s.dev.took (.swcBusRecord dc)).modSwc fun c =>
        { c with busVoltage := dc, busStale := false }) := law.congr rfl
      exact (Device.each_keeps held fun n _ law => law.judgeMatch n).swcEnd
    | swcMonitorLoss n =>
      cases h
      have lost : DispatchLaw ((s.dev.took (.swcMonitorLoss n)).modSwc fun c =>
        { c with samples := c.samples.set n none }) := law.congr rfl
      exact (Device.when_keeps lost fun law => law.modSw n.switch rfl).swcEnd
    | swcBusStale =>
      cases h
      have stale : DispatchLaw ((s.dev.took .swcBusStale).modSwc fun c => { c with busStale := true }) := law.congr rfl
      exact stale.swcEnd
    | healthHandoffSwc n x =>
      cases h
      have held : DispatchLaw ((s.dev.took (.healthHandoffSwc n x)).modSwc fun c =>
        { c with health := c.health.set n x }) := law.congr rfl
      refine DispatchLaw.swcEnd ?_
      split
      · exact held.forceOpen _
      · split
        · exact held.softTrip _ _
        · exact held
    | fireStageHandoffSwc st =>
      cases h
      have held : DispatchLaw ((s.dev.took (.fireStageHandoffSwc st)).modSwc fun c => { c with fireStage := st }) := law.congr rfl
      exact (Device.when_keeps held fun law => Device.each_keeps law fun n _ law => law.forceOpen n).swcEnd
    | forcedOpen => cases h; exact ((law.took .forcedOpen).forceOpen _).swcEnd
    | gridWindowHandoffSwc st =>
      cases h
      have held : DispatchLaw ((s.dev.took (.gridWindowHandoffSwc st)).modSwc fun c => { c with window := st }) := law.congr rfl
      exact held.swcEnd
    | periodExpiry p =>
      cases h
      have restarted : DispatchLaw (s.dev.modPort p fun r => { r with periodIn := s.dev.periodOf p }) := law.modPort p rfl
      refine Device.when_keeps restarted fun law => ?_
      exact Device.when_keeps (Device.when_keeps law fun law => law.miss p _) fun law => law.modPort p rfl
    | deadlineExpiry p => cases h; exact Device.when_keeps law fun law => law.miss p _
    | siteCapWrite p dir f => cases dir <;> cases event
    | ratingWrite p dir f => cases dir <;> cases event
    | deratingWrite p via j f => cases via <;> cases event
    | expectationRewrite p n e f => cases e <;> cases event
    | _ => simp [touches, requestOf] at apart event

/-- The requests that touch ENV, DU, SWC or SDM: READ, WRITE, ANSWER, SELECT, OPERATE, CANCEL, CLEAR_SWITCH and RESTART. -/
theorem request_movesView {kind index : Nat} (h : ¬(.env ∉ routeTouches kind index ∧ .du ∉ routeTouches kind index ∧
      .swc ∉ routeTouches kind index ∧ .sdm ∉ routeTouches kind index)) :
    kind = 1 ∨ kind = 2 ∨ kind = 4 ∨ kind = 6 ∨ kind = 7 ∨ kind = 8 ∨ kind = 3 ∧ (index = 7 ∨ index = 19) := by
  unfold routeTouches at h
  split at h <;> simp at h ⊢
  unfold serviceTouches at h
  split at h <;> simp [restartTouches] at h ⊢

theorem dispatchLaw_route (p : Port) (f : Frame) (d : Device) (law : DispatchLaw d) : DispatchLaw (route p f d).1 := by
  by_cases apart : .env ∉ routeTouches f.kind.toNat f.index.toNat ∧ .du ∉ routeTouches f.kind.toNat f.index.toNat ∧
      .swc ∉ routeTouches f.kind.toNat f.index.toNat ∧ .sdm ∉ routeTouches f.kind.toNat f.index.toNat
  · exact law.only (route_only d p f) apart
  · obtain kind | kind | kind | kind | kind | kind | ⟨kind, index | index⟩ := request_movesView apart <;>
      simp only [route, kind]
    · exact law.portRead p _ _
    · exact law.portWrite p _ _ _
    · exact law.sdmAnswer p _
    · exact law.pifSelect p _
    · exact law.pifOperate p _
    · exact law.swcCancel p
    · simp only [service, index]
      exact law.swcClear p _
    · simp only [service, index]
      exact law.stoRestart p

/-- The clock leaves a timer that runs running. -/
theorem DispatchLaw.tick {d : Device} (law : DispatchLaw d) : DispatchLaw d.tick := by
  have runs : d.tick.du.rampTimer.isSome = d.du.rampTimer.isSome := Option.isSome_map
  exact law.congr (congrArg (fun b => { d.dispatchView with ramps := b }) runs)

end Sys2Proof.Machine

section
open Sys2Proof Sys2Proof.Machine

/-- Settles O6: whatever moves DU's order, the envelope or a forcing cause refreshes DU in the same event, and a refresh establishes the
law. -/
theorem dispatchLawKept : Obligations.DispatchLawKept := fun _ _ =>
  step_keeps (P := DispatchLaw) (fun _ => DispatchLaw.tick) (fun _ _ _ => dispatchLaw_event) (fun only law => law.only only) dispatchLaw_route

end

end

section
/-! SUPPORT. What the events at DU leave, where its law stands before them (R64 to R68, R71, R74, R79). -/

namespace Sys2Proof.Machine

/-! ## A refresh and an order -/

/-- R65, R68, R79: a refresh that finds no grant under a forcing cause sets the target and the ramp-step timer alone. -/
theorem Device.duRefresh_settled {d : Device} (grant : d.forced = true → d.du.granted = 0) : d.duRefresh = { d with
    du := { d.du with
      target := d.targetFor d.du.order
      rampTimer := d.rampFor d.du.granted (d.targetFor d.du.order) } } := by
  have kept : (if d.forced then 0 else d.du.granted) = d.du.granted := by
    split
    · next forced => exact (grant forced).symm
    · rfl
  rw [Device.duRefresh_eq, kept]
  rfl

/-- R67: a refresh under a forcing cause withdraws the grant. -/
theorem Device.duRefresh_forced {d : Device} (forced : d.forced = true) :
    d.duRefresh = { d with du := { d.du with granted := 0, target := 0, rampTimer := none } } := by
  rw [Device.duRefresh_eq]
  simp only [forced, Bool.true_eq_false, false_and, ↓reduceIte]

/-- DU with an effective order from the source that the Site Port's standing, as DU holds it, gives (R64, R65, R68, R79). -/
def Device.withOrder (order : Int) (d : Device) : Device :=
  { d with du := { d.du with
    order := order
    source := if d.du.siteStanding = .inStanding ∨ d.du.siteStanding = .lapsed then .site else .fallback
    target := d.targetFor order
    rampTimer := d.rampFor d.du.granted (d.targetFor order) } }

/-- R64: the site order while the Site Port is trusted, and else the fallback. -/
def Device.siteOrFallback (d : Device) : Int :=
  if d.du.siteStanding = .inStanding ∨ d.du.siteStanding = .lapsed then d.item .t5 0 else d.item .t5 2

theorem Device.duOrder_eq (d : Device) : d.duOrder = { d with du := { d.du with
    order := d.siteOrFallback
    source := if d.du.siteStanding = .inStanding ∨ d.du.siteStanding = .lapsed then .site else .fallback } } := by
  have trusted := Standing.trusted_iff d.du.siteStanding
  unfold Device.duOrder Device.siteOrFallback
  by_cases site : d.du.siteStanding = .inStanding ∨ d.du.siteStanding = .lapsed
  · simp only [trusted.mpr site, site, ↓reduceIte]; rfl
  · simp only [mt trusted.mp site, site, ↓reduceIte]; rfl

/-- R64, R65, R68, R79: the order set afresh, and the refresh that follows. -/
theorem Device.duOrder_duRefresh {d : Device} (grant : d.forced = true → d.du.granted = 0) :
    d.duOrder.duRefresh = d.withOrder d.siteOrFallback := by
  rw [Device.duOrder_eq]
  exact Device.duRefresh_settled grant

/-- R65: DU's target is that of its order. -/
theorem DispatchLaw.target_eq {d : Device} (law : DispatchLaw d) : d.du.target = d.targetFor d.du.order := by
  obtain ⟨withdrawn, follows, -⟩ := law
  unfold Device.targetFor
  split
  · next forced => exact (withdrawn forced).2
  · next free => exact follows (eq_false_of_ne_true free)

/-- R67: a forcing cause leaves no grant. -/
theorem DispatchLaw.no_grant {d : Device} (law : DispatchLaw d) (forced : d.forced = true) : d.du.granted = 0 := (law.1 forced).1

/-! ## An expiry at DU -/

section
variable {s : State} (timer : Device → Option Nat) {act : Device → Device}

/-- An expiry of a timer that does not run changes nothing (Log 3). -/
theorem next_expiry_idle (idle : timer s.dev = none) : (s.next fun d => d.when (timer d).isSome act) = .next s := by
  have stopped : ¬(timer s.dev).isSome = true := by simp [idle]
  exact congrArg (fun d : Device => (.next ⟨s.pending, d⟩ : Out)) (if_neg stopped)

theorem next_expiry_acts (runs : timer s.dev ≠ none) {e : Device} (acts : act s.dev = e) :
    (s.next fun d => d.when (timer d).isSome act) = .next ⟨s.pending, e⟩ :=
  congrArg (fun d : Device => (.next ⟨s.pending, d⟩ : Out)) ((if_pos (Option.isSome_iff_ne_none.mpr runs)).trans acts)

end

/-! ## The ramp step (R68) -/

/-- The grant as a ramp step moves it, its timer run out, before DU's refresh. -/
def Device.movedTo (g : Int) (d : Device) : Device := d.modDu fun u => { u with granted := g, rampTimer := none }

/-- R68: a grant that ramps to g keeps its target, and the timer runs on for 100 ms unless g has reached it. -/
theorem DispatchLaw.ramped {d : Device} (law : DispatchLaw d) (runs : d.du.rampTimer ≠ none) (g : Int) :
    (d.movedTo g).duRefresh =
      { d with du := { d.du with granted := g, rampTimer := if g = d.du.target then none else some 100 } } := by
  obtain ⟨-, -, ramps⟩ := id law
  obtain ⟨free, standing, reported, -⟩ := ramps.mp (Option.isSome_iff_ne_none.mpr runs)
  have timer : (d.movedTo g).rampFor g d.du.target = if g = d.du.target then none else some 100 := by
    by_cases arrived : g = d.du.target
    · exact (if_neg fun ⟨_, _, _, apart⟩ => apart arrived).trans (if_pos arrived).symm
    · exact (if_pos ⟨free, standing, reported, arrived⟩).trans (if_neg arrived).symm
  rw [← timer]
  refine (Device.duRefresh_settled (d := d.movedTo g) fun forced => absurd (free.symm.trans forced) nofun).trans ?_
  exact congrArg (fun t => { d with du := { d.du with granted := g, target := t, rampTimer := (d.movedTo g).rampFor g t } })
    law.target_eq.symm

section
variable {s : State}

theorem rampStep_idle (idle : s.dev.du.rampTimer = none) : exec .rampStep s = .next s :=
  next_expiry_idle (·.du.rampTimer) idle

theorem rampStep_ramps (law : DispatchLaw s.dev) (runs : s.dev.du.rampTimer ≠ none) :
    let g := rampToward (s.dev.item .t5 1) s.dev.du.granted s.dev.du.target
    exec .rampStep s = .next ⟨s.pending, { s.dev with
      du := { s.dev.du with granted := g, rampTimer := if g = s.dev.du.target then none else some 100 } }⟩ :=
  next_expiry_acts (·.du.rampTimer) runs (law.ramped runs _)

/-! ## The report-stale timer (R71) -/

theorem reportStaleExpiry_idle (idle : s.dev.du.reportTimer = none) : exec .reportStaleExpiry s = .next s :=
  next_expiry_idle (·.du.reportTimer) idle

theorem reportStaleExpiry_quiet (runs : s.dev.du.reportTimer ≠ none)
    (quiet : ¬(s.dev.sw .g).state = .closed ∨ s.dev.du.reportStale = true) :
    exec .reportStaleExpiry s = .next ⟨s.pending, { s.dev with du := { s.dev.du with reportTimer := none } }⟩ := by
  have still : ¬(s.dev.breakerClosed && !s.dev.du.reportStale) = true := by
    have closed : s.dev.breakerClosed = true ↔ (s.dev.sw .g).state = .closed := beq_iff_eq
    rw [Bool.and_eq_true, closed, Bool.not_eq_true']
    rintro ⟨shut, fresh⟩
    exact quiet.elim (· shut) fun stale => absurd (fresh.symm.trans stale) nofun
  exact next_expiry_acts (·.du.reportTimer) runs (if_neg still)

/-- R71, R67: staleness is a forcing cause, so the grant goes in its event. -/
theorem reportStaleExpiry_forces (runs : s.dev.du.reportTimer ≠ none) (closed : (s.dev.sw .g).state = .closed)
    (fresh : s.dev.du.reportStale = false) : exec .reportStaleExpiry s = .next ⟨s.pending, { s.dev with
      du := { s.dev.du with
        reportTimer := none, reportStale := true, overrunTimer := none, granted := 0, target := 0, rampTimer := none }
      handoffs := s.dev.handoffs ++ [.eventOccurrence ⟨.converterOverrun, .port .converter, some 2, false⟩] }⟩ := by
  have begins : (s.dev.breakerClosed && !s.dev.du.reportStale) = true := by
    have shut : s.dev.breakerClosed = true := beq_iff_eq.mpr closed
    rw [shut, fresh]; rfl
  have forced : (s.dev.modDu fun u =>
      { u with reportTimer := none, reportStale := true, overrunTimer := none }).forced = true := Bool.or_true _
  have withdrawn := congrArg (·.raise .converterOverrun (.port .converter) (some 2)) (Device.duRefresh_forced forced)
  exact next_expiry_acts (·.du.reportTimer) runs ((if_pos begins).trans withdrawn)

/-! ## The overrun timer (R74) -/

theorem overrunExpiry_idle (idle : s.dev.du.overrunTimer = none) : exec .overrunExpiry s = .next s :=
  next_expiry_idle (·.du.overrunTimer) idle

theorem overrunExpiry_opens (runs : s.dev.du.overrunTimer ≠ none) : exec .overrunExpiry s = .next ⟨s.pending, { s.dev with
    du := { s.dev.du with overrunTimer := none }
    handoffs := s.dev.handoffs ++
      [.eventOccurrence ⟨.converterOverrun, .port .converter, some 1, false⟩, .forcedOpen] }⟩ := by
  have raised : ((s.dev.modDu fun u => { u with overrunTimer := none }).raise .converterOverrun (.port .converter)
      (some 1)).post .forcedOpen = { s.dev with
        du := { s.dev.du with overrunTimer := none }
        handoffs := s.dev.handoffs ++
          [.eventOccurrence ⟨.converterOverrun, .port .converter, some 1, false⟩, .forcedOpen] } := by
    simp only [Device.post, Device.raise, Device.modDu, List.append_assoc, List.cons_append, List.nil_append]
  exact next_expiry_acts (·.du.overrunTimer) runs raised

end

end Sys2Proof.Machine

section
open Sys2Proof Sys2Proof.Machine

/-- Settles O46: each timer's expiry by its own lemma, and the site's standing as `Device.duOrder_duRefresh` has it. -/
theorem dispatchEventsMoveTheGrant : Obligations.DispatchEventsMoveTheGrant := by
  intro s law d u closed du
  have quiet : ∀ v, du v [] = .next ⟨s.pending, { d with du := v }⟩ := fun v => by simp only [du, List.append_nil]
  refine ⟨rampStep_idle, fun runs => ?_, reportStaleExpiry_idle, fun runs away => ?_, fun runs shut fresh => ?_,
    overrunExpiry_idle, fun runs => ?_, fun st => ?_⟩
  · exact (rampStep_ramps law runs).trans (quiet _).symm
  · exact (reportStaleExpiry_quiet runs away).trans (quiet _).symm
  · exact reportStaleExpiry_forces runs shut fresh
  · exact overrunExpiry_opens runs
  · intro site order
    let held := (s.dev.took (.siteStandingHandoff st)).modDu fun u => { u with siteStanding := st }
    have chosen : held.siteOrFallback = order := (apply_ite (d.item .t5) site 0 2).symm
    have acts : exec (.siteStandingHandoff st) s = .next ⟨s.pending, held.duOrder.duRefresh⟩ := rfl
    rw [acts, Device.duOrder_duRefresh (d := held) law.no_grant, chosen]
    rfl

end

end

section
/-! SUPPORT. The order writes of table 5 (R63, R64, R165). -/

namespace Sys2Proof.Machine

-- Bodies elaborated side by side would each hold a thread while a default argument waits for the kernel.
set_option Elab.async false

/-- What a taken order write of v at item k of table 5 leaves (R63, R64, R65, R68). -/
def Device.orderWritten (k : Nat) (v : Int) (d : Device) : Device :=
  let items := (d.settings.get .t5).set k v
  let site := d.du.siteStanding = .inStanding ∨ d.du.siteStanding = .lapsed
  let order := if site then items.getD 0 0 else items.getD 2 0
  let target := d.targetFor order
  { d.wrote .t5 k v with
    du := { d.du with
      order := order
      source := if site then .site else .fallback
      target := target
      rampTimer := d.rampFor d.du.granted target }
    handoffs := d.handoffs ++ [.envelopeRecomputation .settings] }

theorem storeItem_order {d : Device} (grant : d.forced = true → d.du.granted = 0) {k : Nat} (hk : k ≤ 2) (v : Int) :
    d.storeItem .t5 k v = d.orderWritten k v := by
  have expects : expectationOf .t5 k = none := if_neg nofun
  have orders : feedsOrder .t5 k = true := decide_eq_true hk
  have ordered := Device.duOrder_duRefresh (d := d.wrote .t5 k v) grant
  unfold Device.storeItem
  rw [expects, orders, Device.setItem_wrote]
  exact congrArg (·.post (.envelopeRecomputation .settings)) ordered

/-- R165: the rows of the gate, and the store of an order write that the owner takes. -/
theorem orderWrite_of_owner {s : State} (law : DispatchLaw s.dev) {p : Port} {f : Frame} {k : Nat} {w : Word} {v : Int}
    (hrun : (s.dev.link p).running = true) (hchk : f.check = crc8 f.body) (kind : f.kind = 2) (hk : k ≤ 2)
    (owner : ∀ d : Device, d.writeStored .t5 k (signed w) = (d.storeItem .t5 k v, .ok v)) :
    OrderWrite s (s.on (·.request p f (portWrite p 5 k w))) p k v := by
  have writable : (ItemRef.mk StoredTable.t5.num k).writable = true := decide_eq_true (Nat.le_trans hk (by decide) : k ≤ 6)
  obtain ⟨stopped, passed⟩ := portWrite_gate (s.dev.clockOut p) p k w .t5 (Nat.lt_of_le_of_lt hk (by decide)) writable nofun
  unfold OrderWrite
  rw [← kind]
  refine ⟨fun r h => request_refuses hrun hchk r (stopped r h.clockOut), fun pass => ?_⟩
  refine request_replies hrun hchk (s.dev.orderWritten k v) (.ok v) rfl ((passed pass).trans ?_)
  rw [owner, storeItem_order (d := s.dev.clockOut p) law.no_grant hk]
  rfl

/-- R63: the site order and the ramp rate saturate. -/
theorem writeStored_saturates {k : Nat} (hk : k ≤ 1) (w : Int) (d : Device) :
    d.writeStored .t5 k w = (d.storeItem .t5 k (max (rangeOf .t5 k).lo (min (rangeOf .t5 k).hi w)),
      .ok (max (rangeOf .t5 k).lo (min (rangeOf .t5 k).hi w))) :=
  if_pos (decide_eq_true hk)

/-- R64: FALLBACK_ORDER is stored within its range and refused outside. -/
theorem writeStored_fallback (w : Int) (d : Device) : d.writeStored .t5 2 w =
    if -9999 ≤ w ∧ w ≤ 9999 then (d.storeItem .t5 2 w, .ok w) else (d, .no .range) := by
  have range : (rangeOf .t5 2).has w = true ↔ -9999 ≤ w ∧ w ≤ 9999 := by
    simp [rangeOf, range5, Range.has]
  have orders : d.ordered .t5 2 w = true := rfl
  by_cases within : -9999 ≤ w ∧ w ≤ 9999
  · simp [Device.writeStored, saturates, range.mpr within, orders, within]
  · simp [Device.writeStored, saturates, mt range.mp within, within]

end Sys2Proof.Machine

section
open Sys2Proof Sys2Proof.Machine

/-- Settles O20: the rows of R165, the owner's saturation or range check, and the store as `storeItem_order` has it. -/
theorem orderWritesSetTheTarget : Obligations.OrderWritesSetTheTarget := by
  intro p f s law
  refine ⟨fun h => ?_, fun h => ?_, fun h => ?_⟩ <;> obtain ⟨r, hr, hrun, hchk⟩ := h <;> cases hr
  · exact ⟨_, rfl, orderWrite_of_owner law hrun hchk rfl (by decide) (writeStored_saturates (by decide) _)⟩
  · exact ⟨_, rfl, orderWrite_of_owner law hrun hchk rfl (by decide) (writeStored_saturates (by decide) _)⟩
  · refine ⟨_, rfl, fun low high => ?_, fun outside => ?_⟩
    · exact orderWrite_of_owner law hrun hchk rfl (by decide) fun d =>
        (writeStored_fallback _ d).trans (if_pos ⟨low, high⟩)
    · obtain ⟨stopped, passed⟩ := portWrite_gate (s.dev.clockOut p) p 2 f.value .t5 (by decide) rfl nofun
      have refused := (writeStored_fallback (signed f.value) (s.dev.clockOut p)).trans
        (if_neg fun within => by unfold signed at within; omega)
      exact ⟨fun r hr => request_refuses hrun hchk r (stopped r hr.clockOut),
        fun pass => request_refuses hrun hchk .range ((passed pass).trans refused)⟩

end

end

section
/-! SUPPORT. What an opening, a forced open and the isolation sequence leave of the switches (R91, R93, R99). -/

namespace Sys2Proof

theorem SwitchId.mem_all (n : SwitchId) : n ∈ SwitchId.all := by cases n <;> decide

end Sys2Proof

namespace Sys2Proof.Machine

/-! ## One switch (R91, R93) -/

/-- R91: a switch's record once an opening has begun, or has ended at once where the feedback shows open. -/
def SwitchRec.openingAt (n : SwitchId) (shut : Bool) (r : SwitchRec) : SwitchRec :=
  if shut then { r with state := .opening, selection := none, openDelay := none, timer := some (if n = .g then 150 else 200) }
  else { r with
    state := .opened, selection := none, openDelay := none, timer := none
    lastResult := if r.lastResult = .aborted then .aborted else .done }

/-- R93: a switch's record after a forced open. -/
def SwitchRec.forcedAt (n : SwitchId) (shut : Bool) (r : SwitchRec) : SwitchRec :=
  match r.state with
  | .closed => r.openingAt n shut
  | .precharging | .closing => { r with lastResult := .aborted }.openingAt n shut
  | .opened | .opening | .welded => { r with selection := none }

theorem SwitchSet.sw {d m : Device} {n : SwitchId} {r : SwitchRec} {hs : List Instr} (h : SwitchSet d m n r hs) (k : SwitchId) :
    m.sw k = if k = n then r else d.sw k := by
  rw [Device.sw, h.1]
  exact PerSwitch.get_set _ _ _ _

theorem Device.setResult_sw (d : Device) (n k : SwitchId) (x : LastResult) :
    (d.setResult n x).sw k = if k = n then { d.sw n with lastResult := x } else d.sw k := d.modSw_sw n k _

theorem Device.dropSelection_sw (d : Device) (n k : SwitchId) :
    (d.dropSelection n).sw k = if k = n then { d.sw n with selection := none } else d.sw k := d.modSw_sw n k _

theorem Device.enterOpening_sw (d : Device) (n k : SwitchId) :
    (d.enterOpening n).sw k = if k = n then (d.sw n).openingAt n (d.pins.feedback.get n) else d.sw k := by
  obtain ⟨shut, clear⟩ := d.enterOpening_set n
  cases h : d.pins.feedback.get n with
  | true => exact (shut h).sw k
  | false => exact (clear h).sw k

theorem Device.forceOpen_sw (d : Device) (n k : SwitchId) :
    (d.forceOpen n).sw k = if k = n then (d.sw n).forcedAt n (d.pins.feedback.get n) else d.sw k := by
  have aborted : ((d.setResult n .aborted).enterOpening n).sw k =
      if k = n then { d.sw n with lastResult := .aborted }.openingAt n (d.pins.feedback.get n) else d.sw k := by
    rw [Device.enterOpening_sw, Device.setResult_sw, if_pos rfl]
    split
    · rfl
    · next other => rw [Device.setResult_sw, if_neg other]
  unfold Device.forceOpen
  split <;> next state => simp only [SwitchRec.forcedAt, state, d.enterOpening_sw, aborted, d.dropSelection_sw]

/-! ## Several switches in turn -/

/-- Steps that each move one switch, as its feedback and its record have it, move each switch of the list as it stood before. -/
theorem Device.each_sw {f : SwitchId → Device → Device} {g : SwitchId → Bool → SwitchRec → SwitchRec}
    (pins : ∀ n e, (f n e).pins = e.pins)
    (acts : ∀ n e k, (f n e).sw k = if k = n then g n (e.pins.feedback.get n) (e.sw n) else e.sw k)
    {xs : List SwitchId} (nodup : xs.Nodup) (d : Device) (k : SwitchId) :
    (d.each xs f).sw k = if k ∈ xs then g k (d.pins.feedback.get k) (d.sw k) else d.sw k := by
  induction xs generalizing d with
  | nil => rfl
  | cons x xs ih =>
    obtain ⟨fresh, nodup⟩ := List.nodup_cons.mp nodup
    have rest : (d.each (x :: xs) f).sw k = _ := ih nodup (f x d)
    rw [rest, pins, acts]
    by_cases here : k = x
    · subst here; simp [fresh]
    · simp [here]

theorem Device.each_map {α β : Type} (g : α → β) (f : β → Device → Device) (xs : List α) (d : Device) :
    d.each xs (fun x => f (g x)) = d.each (xs.map g) f :=
  (List.foldl_map (f := g) (g := fun d y => f y d)).symm

/-- Of part d the switches alone differ, and hand-offs have been made. -/
structure SwitchesOnly (d m : Device) : Prop where
  only : Only [.handoffs, .swc] d m
  swc : m.swc = { d.swc with switches := m.swc.switches }

theorem SwitchesOnly.refl (d : Device) : SwitchesOnly d d := ⟨.refl _ d, rfl⟩

theorem SwitchesOnly.trans {d m e : Device} (h : SwitchesOnly d m) (k : SwitchesOnly m e) : SwitchesOnly d e :=
  ⟨h.only.trans k.only, k.swc.trans (by rw [h.swc])⟩

theorem SwitchesOnly.modSw (d : Device) (n : SwitchId) (f : SwitchRec → SwitchRec) : SwitchesOnly d (d.modSw n f) :=
  ⟨(modSw_only d n f).mono (by decide), rfl⟩

/-- R97: a string's change of state does not reach DU. -/
theorem SwitchSet.switchesOnly {d m : Device} {n : SwitchId} {r : SwitchRec} {hs : List Instr} (h : SwitchSet d m n r hs)
    (string : n ≠ .g) : SwitchesOnly d m := by
  obtain ⟨hm, hd⟩ := h
  rw [if_neg string] at hm hd
  rw [hm, hd]
  refine ⟨fun b hb => ?_, rfl⟩
  cases b <;> simp at hb <;> rfl

theorem Device.enterOpening_string (d : Device) {n : SwitchId} (string : n ≠ .g) : SwitchesOnly d (d.enterOpening n) := by
  obtain ⟨shut, clear⟩ := d.enterOpening_set n
  cases h : d.pins.feedback.get n with
  | true => exact (shut h).switchesOnly string
  | false => exact (clear h).switchesOnly string

theorem Device.forceOpen_string (d : Device) {n : SwitchId} (string : n ≠ .g) : SwitchesOnly d (d.forceOpen n) := by
  unfold Device.forceOpen
  split
  · exact d.enterOpening_string string
  · exact (SwitchesOnly.modSw d n _).trans (Device.enterOpening_string _ string)
  · exact (SwitchesOnly.modSw d n _).trans (Device.enterOpening_string _ string)
  all_goals exact .modSw d n _

/-! ## The isolation sequence (R99) -/

/-- R99, step 3: every CLOSED string forced open. -/
def Device.stringsOpened (d : Device) : Device :=
  d.each StringId.all fun s e => e.when ((e.sw s.switch).state == .closed) (·.forceOpen s.switch)

theorem StringId.mem_switches (n : SwitchId) : n ∈ StringId.all.map StringId.switch ↔ n ≠ .g := by
  cases n <;> decide

theorem Device.stringsOpened_sw (d : Device) (n : SwitchId) : d.stringsOpened.sw n =
    if n ≠ .g ∧ (d.sw n).state = .closed then (d.sw n).openingAt n (d.pins.feedback.get n) else d.sw n := by
  have each := Device.each_sw (f := fun n e => e.when ((e.sw n).state == .closed) (·.forceOpen n))
    (g := fun n shut r => if r.state = .closed then r.openingAt n shut else r)
    (fun n e => by
      unfold Device.when
      split
      · exact forceOpen_only e n .pins (by decide)
      · rfl)
    (fun n e k => by
      by_cases closed : (e.sw n).state = .closed
      · simp [Device.when, closed, Device.forceOpen_sw, SwitchRec.forcedAt]
      · simp only [Device.when, beq_iff_eq, closed, ↓reduceIte]
        split
        · next same => rw [same]
        · rfl)
    (xs := StringId.all.map StringId.switch) (by decide) d n
  rw [Device.stringsOpened, Device.each_map StringId.switch (fun n e => e.when ((e.sw n).state == .closed) (·.forceOpen n)), each]
  simp only [StringId.mem_switches, ite_and]

theorem Device.stringsOpened_only (d : Device) : SwitchesOnly d d.stringsOpened :=
  Device.each_keeps (.refl d) fun s _ h => Device.when_keeps h fun h => h.trans (Device.forceOpen_string _ s.switch_ne_g)

/-- R99: the part once an isolation sequence has looked at the strings: they open while the breaker rests. -/
def Device.isolationOpens (d : Device) : Device := d.when (d.atRest .g) Device.stringsOpened

theorem Device.isolationOpens_sw (d : Device) (n : SwitchId) : d.isolationOpens.sw n =
    if d.atRest .g = true ∧ n ≠ .g ∧ (d.sw n).state = .closed then (d.sw n).openingAt n (d.pins.feedback.get n) else d.sw n := by
  unfold Device.isolationOpens Device.when
  rw [ite_and, ← d.stringsOpened_sw]
  split <;> rfl

theorem Device.isolationOpens_only (d : Device) : SwitchesOnly d d.isolationOpens :=
  Device.when_keeps (.refl d) fun _ => d.stringsOpened_only

/-- R99, step 4: the sequence is at its end once every switch rests. -/
theorem Device.isolationStep_isolating {d : Device} (h : d.swc.isolation = .isolating) : d.isolationStep =
    d.isolationOpens.when (SwitchId.all.all d.isolationOpens.atRest) (·.inIsolation .isolated) := by
  unfold Device.isolationStep
  simp only [h, Device.when]
  rfl

theorem Device.isolationStep_other {d : Device} (h : d.swc.isolation ≠ .isolating) : d.isolationStep = d :=
  Device.isolationStep_idle fun on => absurd on h

theorem Device.all_atRest_iff (d : Device) : SwitchId.all.all d.atRest = true ↔ ∀ n, Resting d n := by
  simp [List.all_eq_true, SwitchId.mem_all, Device.atRest_iff]

/-- R99: while the breaker is not at rest the sequence waits. -/
theorem Device.isolationStep_waits {d : Device} (h : ¬(d.swc.isolation = .isolating ∧ Resting d .g)) : d.isolationStep = d :=
  Device.isolationStep_idle fun on => ⟨⟨.g, fun rest => h ⟨on, rest⟩⟩, fun rest => absurd ⟨on, rest⟩ h⟩

/-- R99: what the sequence leaves of each switch. -/
theorem Device.isolationStep_sw (d : Device) (n : SwitchId) : d.isolationStep.sw n =
    if (d.swc.isolation = .isolating ∧ d.atRest .g = true) ∧ n ≠ .g ∧ (d.sw n).state = .closed then
      (d.sw n).openingAt n (d.pins.feedback.get n) else d.sw n := by
  by_cases on : d.swc.isolation = .isolating
  · rw [Device.isolationStep_isolating on]
    simp only [on, true_and, ← d.isolationOpens_sw]
    unfold Device.when
    split <;> rfl
  · rw [Device.isolationStep_other on, if_neg fun h => on h.1.1]

/-- R99: of SWC the switches and the status alone may differ. -/
theorem Device.isolationStep_swc (d : Device) : d.isolationStep.swc =
    { d.swc with switches := d.isolationStep.swc.switches, isolation := d.isolationStep.swc.isolation } := by
  by_cases on : d.swc.isolation = .isolating
  · rw [Device.isolationStep_isolating on]
    unfold Device.when
    split
    · exact congrArg (fun c : Swc => { c with isolation := .isolated }) d.isolationOpens_only.swc
    · exact d.isolationOpens_only.swc.trans (by rw [d.isolationOpens_only.swc])
  · rw [Device.isolationStep_other on]

theorem Device.isolationStep_handed (d : Device) : Only [.handoffs, .swc] d d.isolationStep := by
  by_cases on : d.swc.isolation = .isolating
  · rw [Device.isolationStep_isolating on]
    exact d.isolationOpens_only.only.when _ _ fun _ h => h.modSwc _
  · rw [Device.isolationStep_other on]
    exact .refl _ d

/-- R99, step 4: the status once the sequence has looked at the switches. -/
theorem Device.isolationStep_status {d : Device} (on : d.swc.isolation = .isolating) :
    ((∀ n, Resting d.isolationStep n) ∧ d.isolationStep.swc.isolation = .isolated) ∨
      ((∃ n, ¬Resting d.isolationStep n) ∧ d.isolationStep.swc.isolation = .isolating) := by
  have status : d.isolationOpens.swc.isolation = .isolating := by rw [d.isolationOpens_only.swc, on]
  rw [Device.isolationStep_isolating on]
  by_cases rest : ∀ n, Resting d.isolationOpens n
  · rw [d.isolationOpens.all_atRest_iff.mpr rest]
    exact .inl ⟨rest, rfl⟩
  · rw [Bool.eq_false_iff.mpr (mt d.isolationOpens.all_atRest_iff.mp rest)]
    exact .inr ⟨not_forall.mp rest, status⟩

/-! ## The end of an event at SWC (R82, R83, R99) -/

theorem Device.swcEnd_sw (d : Device) (n : SwitchId) :
    d.swcEnd.sw n = { d.isolationStep.sw n with inhibits := (d.swcEnd.sw n).inhibits } := by
  rw [Device.swcEnd, d.isolationStep.deriveInhibits_sw]

theorem Device.swcEnd_resting (d : Device) (n : SwitchId) : Resting d.swcEnd n ↔ Resting d.isolationStep n := by
  unfold Resting
  rw [d.swcEnd_sw]

/-- R82: MISMATCH derived afresh. -/
theorem Device.deriveInhibits_mismatch (d : Device) : MismatchDerived d.deriveInhibits := by
  intro n v
  have derived : (d.deriveInhibits.sw n.switch).inhibits.mismatch = d.mismatched n := by
    rw [d.deriveInhibits_sw]
    cases n <;> rfl
  have voltage : v = d.stringVoltage n := by
    change (match d.swc.samples.get n with | some x => x.voltage | none => 0) = _
    unfold Device.stringVoltage
    cases d.swc.samples.get n <;> rfl
  have other : (StringId.all.any fun o => o != n && (d.sw o.switch).state == .closed) = true ↔
      ∃ m : StringId, m ≠ n ∧ (d.deriveInhibits.sw m.switch).state = .closed := by
    simp only [List.any_eq_true, Bool.and_eq_true, bne_iff_ne, beq_iff_eq, d.deriveInhibits_sw]
    exact ⟨fun ⟨m, _, h⟩ => ⟨m, h⟩, fun ⟨m, h⟩ => ⟨m, by cases m <;> decide, h⟩⟩
  rw [derived, voltage, ← other, Device.mismatched, Bool.and_eq_true, decide_eq_true_iff]
  rfl

end Sys2Proof.Machine

section
open Sys2Proof Sys2Proof.Machine

/-- Settles O47: the isolation sequence as `Device.isolationStep_sw` and `Device.isolationStep_status` have it, and then the inhibits. -/
theorem switchingEventsEndAlike : Obligations.SwitchingEventsEndAlike := by
  intro d e follows
  have only : Only [.handoffs, .swc] d e := d.isolationStep_handed.deriveInhibits
  have sw : ∀ n, e.sw n = { d.isolationStep.sw n with inhibits := (e.sw n).inhibits } := d.swcEnd_sw
  refine ⟨Device.deriveInhibits_law _, Device.deriveInhibits_mismatch _, only, fun idle => ⟨fun n => ?_, ?_⟩,
    fun on n => ⟨fun other => ?_, fun closed string => ?_⟩, fun on => ?_, fun off => ?_, ?_⟩
  · rw [sw, Device.isolationStep_waits idle]
  · exact congrArg (·.handoffs) (Device.isolationStep_waits idle)
  · rw [sw, d.isolationStep_sw, if_neg fun h => other.elim (· h.2.2) h.2.1]
  · rw [sw, d.isolationStep_sw, if_pos ⟨⟨on.1, (d.atRest_iff .g).mpr on.2⟩, string, closed⟩]
    cases d.pins.feedback.get n <;> simp [SwitchRec.openingAt, string]
  · have rests : ∀ n, Resting e n ↔ Resting d.isolationStep n := d.swcEnd_resting
    have kept : e.swc.isolation = d.isolationStep.swc.isolation := rfl
    simp only [rests, kept]
    obtain ⟨rest, status⟩ | ⟨waits, status⟩ := d.isolationStep_status on
    · simp [status, rest]
    · simpa [status] using waits
  · exact congrArg (·.swc.isolation) (Device.isolationStep_other off)
  · exact congrArg (fun c : Swc => { c with switches := e.swc.switches }) d.isolationStep_swc

end
end

section
/-! SUPPORT. Laws of the switches through SWC's operations: a law that bears every change of hand-offs, every mark and every move that an
event makes of a switch bears every operation made of them (R81, R88 to R94, R99). -/

namespace Sys2Proof.Machine

/-! ## The moves of a switch -/

/-- R81, R88 to R93: the moves that an event makes of a switch's state with no request of a port. -/
inductive Moves : SwitchState → SwitchState → Prop where
  | opened (st : SwitchState) : Moves st .opened
  | welded (st : SwitchState) : Moves st .welded
  | opens : Moves .closed .opening
  | abortsPrecharge : Moves .precharging .opening
  | abortsClose : Moves .closing .opening
  | joins : Moves .precharging .closing
  | makes : Moves .closing .closed

/-- From CLOSED or on the way there an opening may begin. -/
theorem Moves.opening {st : SwitchState} (h : st = .closed ∨ st = .precharging ∨ st = .closing) : Moves st .opening := by
  rcases h with rfl | rfl | rfl
  · exact .opens
  · exact .abortsPrecharge
  · exact .abortsClose

/-- A switch that is neither closed nor on the way there moves to rest alone. -/
theorem Moves.rests {a b : SwitchState} (h : Moves a b) (away : a ≠ .precharging ∧ a ≠ .closing ∧ a ≠ .closed) :
    b = .opened ∨ b = .welded := by
  cases h <;> simp at away ⊢

/-! ## The events of one switch -/

/-- The part with the level of one feedback input changed. -/
def Device.withFeedback (n : SwitchId) (shut : Bool) (d : Device) : Device :=
  { d with pins := { d.pins with feedback := d.pins.feedback.set n shut } }

theorem withFeedback_only (d : Device) (n : SwitchId) (shut : Bool) : Only [.pins] d (d.withFeedback n shut) :=
  withPins_only d _

/-- R81: what SWC does at a feedback that has changed, by the switch's state, before the end of the event. -/
def Device.feedbackActs (n : SwitchId) (shut : Bool) (d : Device) : Device :=
  match (d.sw n).state, shut with
  | .opened, true | .precharging, true => d.weld n
  | .closing, true =>
    ((d.changeState n .closed none).modSw n fun r => { r with badJoin := false, lastResult := .done }).raise
      .switchDone (.switch n) (some 1)
  | .closed, false => d.failOpen n 4
  | .opening, false => d.finishOpen n
  | .welded, false => (d.changeState n .opened none).raise .switchDone (.switch n) (some 3)
  | _, _ => d

theorem execFeedbackChange_eq (n : SwitchId) (shut : Bool) (s : State) : exec (.feedbackChange n shut) s =
    .next ⟨s.pending, s.dev.when (s.dev.pins.feedback.get n != shut) fun d =>
      ((d.withFeedback n shut).feedbackActs n shut).swcEnd⟩ := rfl

theorem execSelectExpiry_eq (n : SwitchId) (s : State) : exec (.selectExpiry n) s =
    .next ⟨s.pending, s.dev.when (s.dev.sw n).selection.isSome fun d => (d.dropSelection n).setResult n .selectExpired⟩ := rfl

/-- The part with the isolation timer stopped. -/
def Device.timerStopped (d : Device) : Device := d.modSwc fun c => { c with isolationTimer := none }

theorem execIsolationTimerExpiry_eq (s : State) : exec .isolationTimerExpiry s =
    .next ⟨s.pending, s.dev.when s.dev.swc.isolationTimer.isSome fun d => (d.timerStopped.forceOpen .g).swcEnd⟩ := rfl

theorem execIsolationConverterReport_eq (kw : Int) (s : State) : exec (.isolationConverterReport kw) s =
    .next ⟨s.pending, (s.dev.took (.isolationConverterReport kw)).when
      (s.dev.swc.isolationTimer.isSome && decide ((kw.natAbs : Int) ≤ s.dev.item .t5 5)) fun d =>
        (d.timerStopped.forceOpen .g).swcEnd⟩ := rfl

/-- R99, step 2: every switch on its way to CLOSED forced open. -/
def Device.closingAborted (d : Device) : Device :=
  d.each SwitchId.all fun n e => e.when ((e.sw n).state == .precharging || (e.sw n).state == .closing) (·.forceOpen n)

/-- R99: the isolation timer full. -/
def Device.timerStarted (d : Device) : Device := d.modSwc fun c => { c with isolationTimer := some 2000 }

theorem Device.isolationStart_steps (d : Device) : d.isolationStart =
    ((d.inIsolation .isolating).closingAborted.when (d.inIsolation .isolating).closingAborted.breakerClosed Device.timerStarted).swcEnd :=
  rfl

theorem Device.closingAborted_sw (d : Device) (n : SwitchId) : d.closingAborted.sw n =
    if (d.sw n).state = .precharging ∨ (d.sw n).state = .closing then (d.sw n).forcedAt n (d.pins.feedback.get n) else d.sw n := by
  have each := Device.each_sw
    (f := fun n e => e.when ((e.sw n).state == .precharging || (e.sw n).state == .closing) (·.forceOpen n))
    (g := fun n shut r => if r.state = .precharging ∨ r.state = .closing then r.forcedAt n shut else r)
    (fun n e => by
      unfold Device.when
      split
      · exact forceOpen_only e n .pins (by decide)
      · rfl)
    (fun n e k => by
      by_cases closing : (e.sw n).state = .precharging ∨ (e.sw n).state = .closing
      · simp [Device.when, closing, Device.forceOpen_sw]
      · simp only [Device.when, Bool.or_eq_true, beq_iff_eq, closing, ↓reduceIte]
        split
        · next same => rw [same]
        · rfl)
    (xs := SwitchId.all) (by decide) d n
  exact each.trans (if_pos n.mem_all)

/-- A law of the part that rests on SWC, the settings and the standings, and that marks on a switch and moves of it keep. -/
structure SwitchingInvariant (Q : Device → Prop) : Prop where
  apart : ∀ {bs : List Block} {d e : Device}, Only bs d e → .settings ∉ bs ∧ .swc ∉ bs ∧ .sdm ∉ bs → Q d → Q e
  mark : ∀ {d : Device} {n : SwitchId} {f : SwitchRec → SwitchRec}, (f (d.sw n)).state = (d.sw n).state →
    (f (d.sw n)).selection = (d.sw n).selection ∨ (f (d.sw n)).selection = none → Q d → Q (d.modSw n f)
  move : ∀ {d : Device} {n : SwitchId} {st : SwitchState} {timer : Option Nat}, Moves (d.sw n).state st → Q d →
    Q (d.changeState n st timer)

namespace SwitchingInvariant
variable {Q : Device → Prop} (k : SwitchingInvariant Q) {d : Device} (h : Q d)
include k h

theorem post (i : Instr) : Q (d.post i) := k.apart (post_only d i) (by decide) h

theorem raise (c : EventClass) (u : Subject) (x : Option Nat) : Q (d.raise c u x) := k.apart (raise_only d c u x) (by decide) h

theorem setResult (n : SwitchId) (x : LastResult) : Q (d.setResult n x) := k.mark rfl (.inl rfl) h

theorem dropSelection (n : SwitchId) : Q (d.dropSelection n) := k.mark rfl (.inr rfl) h

theorem failOpen (n : SwitchId) (detail : Nat) : Q (d.failOpen n detail) :=
  k.raise (k.mark rfl (.inl rfl) (k.move (.opened _) h)) _ _ _

theorem finishOpen (n : SwitchId) : Q (d.finishOpen n) := k.raise (k.mark rfl (.inl rfl) (k.move (.opened _) h)) _ _ _

theorem enterOpening {n : SwitchId} (may : Moves (d.sw n).state .opening) : Q (d.enterOpening n) := by
  unfold Device.enterOpening
  split
  · exact k.move may h
  · exact k.finishOpen h n

theorem weld (n : SwitchId) : Q (d.weld n) := by
  have welded := k.raise (k.setResult (k.move (timer := none) (.welded (d.sw n).state) h) n .failed) .switchFailed (.switch n) (some 3)
  unfold Device.weld
  dsimp only
  split
  · exact k.post welded _
  · exact k.mark rfl (.inl rfl) welded

theorem forceOpen (n : SwitchId) : Q (d.forceOpen n) := by
  have aborted (may : Moves (d.sw n).state .opening) : Q ((d.setResult n .aborted).enterOpening n) :=
    k.enterOpening (k.setResult h n .aborted) (by rw [d.setResult_sw, if_pos rfl]; exact may)
  unfold Device.forceOpen
  split
  · next closed => exact k.enterOpening h (.opening (.inl closed))
  · next precharging => exact aborted (.opening (.inr (.inl precharging)))
  · next closing => exact aborted (.opening (.inr (.inr closing)))
  all_goals exact k.dropSelection h n

theorem judgeMatch (s : StringId) : Q (d.judgeMatch s) := by
  unfold Device.judgeMatch Device.when
  split
  · next found =>
    have state : (d.sw s.switch).state = .precharging := beq_iff_eq.mp (Bool.and_eq_true_iff.mp found).1
    exact k.move (state ▸ .joins) h
  · exact h

theorem softTrip (s : StringId) (x : Health) : Q (d.softTrip s x) := by
  have interrupted : Q (d.when (x == .absent) (·.modSw s.switch fun r => { r with interrupted := true })) :=
    Device.when_keeps h (k.mark rfl (.inl rfl))
  unfold Device.softTrip
  dsimp only
  split
  · exact Device.when_keeps h fun h => k.post (k.mark rfl (.inl rfl) h) _
  · exact k.forceOpen interrupted _
  · exact k.forceOpen interrupted _
  all_goals exact h

theorem isolationOpens : Q d.isolationOpens :=
  Device.when_keeps h fun h => Device.each_keeps h fun s _ h => Device.when_keeps h fun h => k.forceOpen h s.switch

theorem closingAborted : Q d.closingAborted := Device.each_keeps h fun n _ h => Device.when_keeps h fun h => k.forceOpen h n

theorem feedbackActs (n : SwitchId) (shut : Bool) : Q (d.feedbackActs n shut) := by
  unfold Device.feedbackActs
  split
  · exact k.weld h _
  · exact k.weld h _
  · next closing => exact k.raise (k.mark rfl (.inl rfl) (k.move (closing ▸ .makes) h)) _ _ _
  · exact k.failOpen h _ _
  · exact k.finishOpen h _
  · exact k.raise (k.move (.opened _) h) _ _ _
  · exact h

end SwitchingInvariant

/-! ## A law of SWC that holds between events -/

/-- A law P that holds between events, kept within an event as Q: what every event of the part keeps of P rests on what an event at SWC
does of its own (R82, R93, R98, R99), on a change of standing and on the resets. -/
structure EventInvariant (P Q : Device → Prop) : Prop where
  within : SwitchingInvariant Q
  begins : ∀ {d : Device}, P d → Q d
  ends : ∀ {d : Device}, Q d → P d.swcEnd
  inputs : ∀ {d : Device} {f : Swc → Swc}, (f d.swc).switches = d.swc.switches → (f d.swc).isolation = d.swc.isolation →
    ((f d.swc).isolationTimer = d.swc.isolationTimer ∨ (f d.swc).isolationTimer = none) → (f d.swc).health = d.swc.health →
    (f d.swc).fireStage = d.swc.fireStage → Q d → Q (d.modSwc f)
  health : ∀ {s t : State} {n : StringId} {x : Health}, exec (.healthHandoffSwc n x) s = .next t → P s.dev → P t.dev
  fire : ∀ {s t : State} {st : FireStage}, exec (.fireStageHandoffSwc st) s = .next t → P s.dev → P t.dev
  apart : ∀ {bs : List Block} {d e : Device}, Only bs d e → .settings ∉ bs ∧ .swc ∉ bs ∧ .sdm ∉ bs → P d → P e
  note : ∀ {d : Device} {n : SwitchId} {f : SwitchRec → SwitchRec}, (f (d.sw n)).state = (d.sw n).state →
    (f (d.sw n)).failure = (d.sw n).failure → (f (d.sw n)).inhibits = (d.sw n).inhibits →
    (f (d.sw n)).selection = (d.sw n).selection ∨ (f (d.sw n)).selection = none → P d → P (d.modSw n f)
  item : ∀ {d : Device} {t : StoredTable} {i : Nat} {v : Int}, ¬(t = .t11 ∧ i = 16) → P d → P (d.setItem t i v)
  port : ∀ {d : Device} {p : Port} {f : PortStanding → PortStanding}, (f (d.port p)).standing = (d.port p).standing →
    P d → P (d.modPort p f)
  standing : ∀ {d : Device} {p : Port} {st : Standing}, P d → P (d.setStanding p st)
  starts : ∀ {d : Device} {stages : PerStage CoolStage}, ReadyToStart d stages → (∀ n, (d.sw n).selection = none) → P d.startBlocks

namespace EventInvariant
variable {P Q : Device → Prop} (k : EventInvariant P Q) {d : Device} (h : P d)
include k h

theorem dropSelection (n : SwitchId) : P (d.dropSelection n) := k.note rfl rfl rfl (.inr rfl) h

theorem setResult (n : SwitchId) (x : LastResult) : P (d.setResult n x) := k.note rfl rfl rfl (.inl rfl) h

theorem dropSelections (p : Port) : P (d.dropSelections p) :=
  Device.each_keeps h fun n _ h => Device.when_keeps h fun h => k.dropSelection h n

/-- An event at SWC that acts where a condition holds. -/
theorem acts {b : Bool} {f : Device → Device} (within : ∀ {e}, Q e → Q (f e)) : P (d.when b fun d => (f d).swcEnd) :=
  Device.when_keeps h fun h => k.ends (within (k.begins h))

omit h in
/-- R99: the isolation timer stops. -/
theorem timerStopped (h : Q d) : Q d.timerStopped :=
  k.inputs rfl rfl (.inr rfl) rfl rfl h

omit h in
/-- R107: a warm restart leaves no selection. -/
theorem restarts (d : Device) : P d.restart := by
  have r := d.restart_ready
  rw [Device.restart_eq]
  refine k.starts r.ready fun n => ?_
  rw [Device.sw, r.only .swc (by decide), ← Device.sw, d.restartedTo_sw, restartSwitch_eq]

omit h in
/-- R107: a power-on reset leaves no selection. -/
theorem powers (d : Device) : P d.powerOn := by
  rw [Device.powerOn_eq]
  refine k.starts d.loaded_ready fun n => ?_
  change (d.load.sw n).selection = none
  rw [d.load_sw]
  cases d.pins.feedback.get n <;> rfl

theorem settle : P d.settle := Device.when_keeps h fun _ => k.restarts _

theorem miss (p : Port) (kind : MissKind) : P (d.miss p kind) := k.standing (k.port rfl h)

theorem readmit (p : Port) : P (d.readmit p) := k.standing (k.port rfl h)

end EventInvariant

/-- A law of SWC holds after every event, where it held before. -/
theorem EventInvariant.event {P Q : Device → Prop} (k : EventInvariant P Q) {i : Instr} {s t : State}
    (event : requestOf i = none) (h : exec i s = .next t) (law : P s.dev) : P t.dev := by
  have w := k.within
  by_cases apart : .settings ∉ touches i ∧ .swc ∉ touches i ∧ .sdm ∉ touches i
  · obtain ⟨e, he, only⟩ := event_completes event s
    cases h.symm.trans he
    exact k.apart only apart law
  · cases i with
    | powerOnReset => cases h; exact k.powers _
    | warmRestart => cases h; exact k.settle law
    | programmingCompletion ok =>
      cases h
      dsimp only [State.on_dev]
      split
      · exact k.settle (k.apart ((Only.refl [.handoffs, .sto] _).storeEnds _ _).proceed (by decide) law)
      · exact law
    | updateCompletion ok =>
      cases h
      dsimp only [State.on_dev]
      split
      · exact k.settle (k.apart ((Only.refl [.handoffs, .sto] _).updateEnds _ _).proceed (by decide) law)
      · exact law
    | integrityCheck upset =>
      cases h
      exact k.settle (k.apart (((Only.refl [.handoffs, .sto] _).modSto _).when _ _ fun _ h => h.selfFailed _) (by decide) law)
    | portReset p =>
      cases h
      have linked := k.apart (modLink_only s.dev p fun l => { l with running := true, pending := none }) (by decide) law
      have cleared := k.apart ((withEvr_only (s.dev.modLink p fun l => { l with running := true, pending := none })
        { s.dev.evr with cursors := s.dev.evr.cursors.set p 0 })) (by decide) linked
      have flagged := k.apart (modEnv_only _ fun e => { e with changed := e.changed.set p true }) (by decide) cleared
      exact k.readmit (k.dropSelections flagged p) p
    | feedbackChange n shut =>
      cases h.symm.trans (execFeedbackChange_eq n shut s)
      exact k.acts (f := fun d => (d.withFeedback n shut).feedbackActs n shut) law fun law =>
        w.feedbackActs (w.apart (withFeedback_only _ n shut) (by decide) law) n shut
    | prechargeExpiry n => cases h; exact k.acts law fun h => w.failOpen h _ _
    | closeFeedbackExpiry n => cases h; exact k.acts law fun h => w.failOpen h _ _
    | openFeedbackExpiry n => cases h; exact k.acts law fun h => w.weld h _
    | openDelayExpiry n => cases h; exact k.acts law fun h => w.forceOpen h _
    | selectExpiry n =>
      cases h.symm.trans (execSelectExpiry_eq n s)
      exact Device.when_keeps (f := fun d => (d.dropSelection n).setResult n .selectExpired) law fun law =>
        k.setResult (k.dropSelection law n) n _
    | isolationTimerExpiry =>
      cases h.symm.trans (execIsolationTimerExpiry_eq s)
      exact k.acts (f := fun d => d.timerStopped.forceOpen .g) law fun h => w.forceOpen (k.timerStopped h) .g
    | isolationConverterReport kw =>
      cases h.symm.trans (execIsolationConverterReport_eq kw s)
      have taken := k.apart (took_only s.dev (.isolationConverterReport kw)) (by decide) law
      exact k.acts (f := fun d => d.timerStopped.forceOpen .g) taken fun h => w.forceOpen (k.timerStopped h) .g
    | swcScanRecord n current voltage =>
      cases h.symm.trans (execSwcScanRecord_eq n current voltage s)
      have taken := k.begins (k.apart (took_only s.dev (.swcScanRecord n current voltage)) (by decide) law)
      have sampled : Q (s.dev.sampled n current voltage) :=
        k.inputs (f := fun c => { c with samples := c.samples.set n (some ⟨current, voltage⟩) }) rfl rfl (.inl rfl) rfl rfl taken
      exact k.ends (Device.when_keeps (f := fun d => d.forceOpen n.switch) sampled fun h => w.forceOpen h n.switch)
    | swcBusRecord dc =>
      cases h
      have taken := k.begins (k.apart (took_only s.dev (.swcBusRecord dc)) (by decide) law)
      have held := k.inputs (f := fun c => { c with busVoltage := dc, busStale := false }) rfl rfl (.inl rfl) rfl rfl taken
      exact k.ends (Device.each_keeps held fun n _ h => w.judgeMatch h n)
    | swcMonitorLoss n =>
      cases h
      have taken := k.begins (k.apart (took_only s.dev (.swcMonitorLoss n)) (by decide) law)
      have lost := k.inputs (f := fun c => { c with samples := c.samples.set n none }) rfl rfl (.inl rfl) rfl rfl taken
      exact k.ends (Device.when_keeps lost fun h => w.mark rfl (.inl rfl) h)
    | swcBusStale =>
      cases h
      have taken := k.begins (k.apart (took_only s.dev .swcBusStale) (by decide) law)
      exact k.ends (k.inputs (f := fun c => { c with busStale := true }) rfl rfl (.inl rfl) rfl rfl taken)
    | healthHandoffSwc n x => exact k.health h law
    | fireStageHandoffSwc st => exact k.fire h law
    | forcedOpen =>
      cases h
      exact k.ends (w.forceOpen (k.begins (k.apart (took_only s.dev .forcedOpen) (by decide) law)) .g)
    | gridWindowHandoffSwc st =>
      cases h
      have taken := k.begins (k.apart (took_only s.dev (.gridWindowHandoffSwc st)) (by decide) law)
      exact k.ends (k.inputs (f := fun c => { c with window := st }) rfl rfl (.inl rfl) rfl rfl taken)
    | periodExpiry p =>
      cases h
      dsimp only [State.on_dev]
      have restarted := k.port (p := p) (f := fun r => { r with periodIn := s.dev.periodOf p }) rfl law
      refine Device.when_keeps restarted fun h => ?_
      exact Device.when_keeps (Device.when_keeps h fun h => k.miss h p _) fun h => k.port rfl h
    | deadlineExpiry p => cases h; exact Device.when_keeps law fun h => k.miss h p _
    | siteCapWrite p dir f => cases dir <;> cases event
    | ratingWrite p dir f => cases dir <;> cases event
    | deratingWrite p via j f => cases via <;> cases event
    | expectationRewrite p n e f => cases e <;> cases event
    | _ => simp [touches, requestOf] at apart event

/-! ## The requests -/

namespace EventInvariant
variable {P Q : Device → Prop} (k : EventInvariant P Q) {d : Device} (h : P d)
include k h

theorem storeItem {t : StoredTable} {i : Nat} (v : Int) (other : ¬(t = .t11 ∧ i = 16)) : P (d.storeItem t i v) := by
  have stored := k.item (v := v) other h
  unfold Device.storeItem
  refine k.apart (((Only.refl [.handoffs, .du] _).when _ _ fun _ o => o.duOrder.duRefresh).postIf _ _) (by decide) ?_
  split
  · exact k.apart (expectationRewritten_only _ _) (by decide) stored
  · exact stored

theorem writeStored (t : StoredTable) (i : Nat) (v : Int) (isolation : ∀ v, P (swcIsolationWrite v d).1) :
    P (d.writeStored t i v).1 := by
  refine row_keeps h ?_
  split
  · next order => exact k.storeItem h _ fun same => by obtain ⟨rfl, -⟩ := same; simp [saturates] at order
  · refine row_keeps h ?_
    split
    · exact isolation v
    · next other => exact k.storeItem h v other

theorem portWrite (p : Port) (table index : Nat) (v : Word) (isolation : ∀ v, P (swcIsolationWrite v d).1) :
    P (portWrite p table index v d).1 := by
  refine row_keeps h ?_
  split
  · exact k.apart (withEvr_only d _) (by decide) h
  · split
    · exact k.apart (evrWriteMask_only d p v) (by decide) h
    · refine row_keeps h (row_keeps h (row_keeps h (row_keeps h ?_)))
      unfold Device.ownerWrite
      split
      · exact k.writeStored h _ _ _ isolation
      · exact k.apart (write6_only d _ _) (by decide) h

theorem refuse (n : SwitchId) : P (d.refuse n).1 :=
  k.note (f := fun r => { r with lastResult := .refused, badJoin := r.badJoin || (d.sw n).inhibits.mismatch }) rfl rfl rfl
    (.inl rfl) h

theorem swcCancel (p : Port) : P (swcCancel p d).1 := by
  unfold Machine.swcCancel
  split
  · exact k.dropSelection h _
  · exact h

theorem swcClear (p : Port) (v : Word) : P (swcClear p v d).1 := by
  unfold Machine.swcClear
  split
  · exact h
  · exact row_keeps h (row_keeps h (row_keeps h (k.ends (k.within.mark rfl (.inl rfl) (k.begins h)))))

theorem sdmAnswer (p : Port) (v : Word) : P (sdmAnswer p v d).1 := by
  refine row_keeps h ?_
  dsimp only
  split
  · exact k.miss h p _
  · split
    · exact k.miss h p _
    · split
      · exact k.miss h p _
      · exact k.standing (k.port rfl h)

theorem stoRestart (p : Port) : P (stoRestart p d).1 :=
  row_keeps h (row_keeps h (k.settle (k.apart (modSto_only d _) (by decide) h)))

/-- R87: an operation that starts, or the row that stops it. -/
theorem pifOperate (p : Port) (f : ItemFrame) (starts : ∀ n a x, (d.sw n).selection = some x → x.action = a →
    (a = .close → (d.sw n).inhibits.any = false) → Q (d.startOperation n a)) : P (pifOperate p f d).1 := by
  refine row_keeps h ?_
  unfold swcOperate
  split
  · exact h
  · next n _ =>
    split
    · exact h
    · next a _ =>
      refine row_keeps h ?_
      split
      · exact Device.when_keeps h fun h => k.dropSelection h n
      · next held =>
        split
        · exact k.refuse (k.dropSelection h n) n
        · next clear =>
          obtain ⟨x, selected, mine⟩ : ∃ x, (d.sw n).selection = some x ∧ (x.holder = p ∧ x.action = a) := by
            simpa [Option.any_eq_true] using held
          exact k.ends (starts n a x selected mine.2 fun close => Bool.eq_false_iff.mpr fun any => clear ⟨close, any⟩)

end EventInvariant

/-- The requests that touch the settings, SWC or SDM. -/
theorem request_switches {kind index : Nat} (h : ¬(.settings ∉ routeTouches kind index ∧ .swc ∉ routeTouches kind index ∧
      .sdm ∉ routeTouches kind index)) :
    kind = 2 ∨ kind = 4 ∨ kind = 6 ∨ kind = 7 ∨ kind = 8 ∨ kind = 3 ∧ (index = 7 ∨ index = 19) := by
  unfold routeTouches at h
  split at h <;> simp at h ⊢
  unfold serviceTouches at h
  split at h <;> simp [restartTouches] at h ⊢

/-- A law of SWC holds after every request, where it held before and where SELECT, OPERATE and the isolation request keep it. -/
theorem EventInvariant.route {P Q : Device → Prop} (k : EventInvariant P Q) {d : Device} (p : Port) (f : Frame) (law : P d)
    (isolation : ∀ v, P (swcIsolationWrite v d).1) (select : P (pifSelect p ⟨f.table, f.index, f.value, f.check⟩ d).1)
    (starts : ∀ n a x, (d.sw n).selection = some x → x.action = a → (a = .close → (d.sw n).inhibits.any = false) →
      Q (d.startOperation n a)) : P (route p f d).1 := by
  by_cases apart : .settings ∉ routeTouches f.kind.toNat f.index.toNat ∧ .swc ∉ routeTouches f.kind.toNat f.index.toNat ∧
      .sdm ∉ routeTouches f.kind.toNat f.index.toNat
  · exact k.apart (route_only d p f) apart law
  · obtain kind | kind | kind | kind | kind | ⟨kind, index | index⟩ := request_switches apart <;>
      simp only [Machine.route, kind]
    · exact k.portWrite law p _ _ _ isolation
    · exact k.sdmAnswer law p _
    · exact select
    · exact k.pifOperate law p _ starts
    · exact k.swcCancel law p
    · simp only [service, index]
      exact k.swcClear law p _
    · simp only [service, index]
      exact k.stoRestart law p

end Sys2Proof.Machine
end

section
/-! SUPPORT. The selections through every command (R85, R86). -/

namespace Sys2Proof.Machine

/-! ## Fewer selections -/

/-- R85: what leaves only selections that stood before, their switches' states and their holders' standings as they were, keeps the law. -/
theorem SelectionLaw.fewer {d e : Device} (h : SelectionLaw d) (each : ∀ n x, (e.sw n).selection = some x →
    ∃ y, (d.sw n).selection = some y ∧ x.holder = y.holder ∧ x.action = y.action ∧ (e.sw n).state = (d.sw n).state ∧
      e.standing x.holder = d.standing x.holder) : SelectionLaw e := by
  obtain ⟨lawful, single⟩ := h
  refine ⟨fun n x hx => ?_, fun n m x y hx hy same => ?_⟩
  · obtain ⟨y, hy, holder, action, state, standing⟩ := each n x hx
    rw [standing, holder, action, state]
    exact lawful n y hy
  · obtain ⟨x', hx', xh, -⟩ := each n x hx
    obtain ⟨y', hy', yh, -⟩ := each m y hy
    exact single n m x' y' hx' hy' (xh.symm.trans (same.trans yh))

/-- R85: a selection that is gone or stands on a switch in its state is none more. -/
theorem SelectionLaw.kept {d e : Device} (h : SelectionLaw d) (standing : e.standing = d.standing)
    (each : ∀ n, (e.sw n).selection = none ∨ (e.sw n).selection = (d.sw n).selection ∧ (e.sw n).state = (d.sw n).state) :
    SelectionLaw e :=
  h.fewer fun n x hx => by
    obtain gone | ⟨same, state⟩ := each n
    · rw [gone] at hx; cases hx
    · exact ⟨x, same ▸ hx, rfl, rfl, state, congrFun standing _⟩

theorem SelectionLaw.congr {d e : Device} (h : SelectionLaw d) (swc : e.swc.switches = d.swc.switches) (sdm : e.sdm = d.sdm) :
    SelectionLaw e :=
  h.kept (by unfold Device.standing; rw [sdm]) fun n => .inr (by unfold Device.sw; rw [swc]; exact ⟨rfl, rfl⟩)

theorem SelectionLaw.none {e : Device} (h : ∀ n, (e.sw n).selection = none) : SelectionLaw e :=
  ⟨fun n x hx => (by rw [h n] at hx; cases hx), fun n m x y hx => (by rw [h n] at hx; cases hx)⟩

theorem SelectionLaw.modSw {d : Device} {n : SwitchId} {f : SwitchRec → SwitchRec} (state : (f (d.sw n)).state = (d.sw n).state)
    (selection : (f (d.sw n)).selection = (d.sw n).selection ∨ (f (d.sw n)).selection = .none) (h : SelectionLaw d) :
    SelectionLaw (d.modSw n f) :=
  h.kept rfl fun k => by
    rw [d.modSw_sw]
    split
    · next same => subst same; exact selection.symm.imp_right fun same => ⟨same, state⟩
    · exact .inr ⟨rfl, rfl⟩

/-- R85: a change of state takes the selection away. -/
theorem SelectionLaw.changeState {d : Device} (h : SelectionLaw d) (n : SwitchId) (st : SwitchState) (timer : Option Nat) :
    SelectionLaw (d.changeState n st timer) := by
  have set := (d.changeState_set n st timer).sw
  refine h.kept (by unfold Device.standing; rw [changeState_only d n st timer .sdm (by decide)]) fun k => ?_
  rw [set k]
  split
  · exact .inl rfl
  · exact .inr ⟨rfl, rfl⟩

theorem selectionLaw_within : SwitchingInvariant SelectionLaw where
  apart only free h := by
    obtain ⟨-, swc, sdm⟩ := free
    exact h.congr (by rw [only .swc swc]) (only .sdm sdm)
  mark := SelectionLaw.modSw
  move _ h := h.changeState _ _ _

/-! ## The end of an event and a change of standing -/

/-- R91: an opening takes the selection away. -/
theorem SwitchRec.openingAt_selection (n : SwitchId) (shut : Bool) (r : SwitchRec) : (r.openingAt n shut).selection = none := by
  unfold SwitchRec.openingAt
  split <;> rfl

theorem SelectionLaw.swcEnd {d : Device} (h : SelectionLaw d) : SelectionLaw d.swcEnd := by
  refine h.kept (by unfold Device.standing; rw [swcEnd_only d .sdm (by decide)]) fun n => ?_
  rw [d.swcEnd_sw, d.isolationStep_sw]
  split
  · exact .inl (SwitchRec.openingAt_selection _ _ _)
  · exact .inr ⟨rfl, rfl⟩

theorem Device.dropSelections_sw (d : Device) (p : Port) (n : SwitchId) :
    (d.dropSelections p).sw n = { d.sw n with selection := (d.sw n).selection.filter fun x => x.holder != p } := by
  have dropped : d.dropSelections p = _ := d.dropHeld_sw p
  rw [dropped]
  cases n <;> rfl

theorem Device.dropSelections_only (d : Device) (p : Port) : Only [.swc] d (d.dropSelections p) :=
  (Only.refl _ d).each _ _ fun _ _ h => h.when _ _ fun _ h => h.dropSelection _

/-- The part once the standing of a port has changed, before SWC hears of it. -/
def Device.restanding (p : Port) (st : Standing) (d : Device) : Device :=
  (d.modPort p fun r => { r with standing := st }).raise .standingChanged (.port p) (some st.code)

theorem Device.restanding_standing (d : Device) (p q : Port) (st : Standing) :
    (d.restanding p st).standing q = if q = p then st else d.standing q := by cases p <;> cases q <;> rfl

/-- R158: a change of standing is SWC's in the same event, and the other blocks hear of it. -/
theorem Device.setStanding_keeps {P : Device → Prop}
    (apart : ∀ {bs : List Block} {d e : Device}, Only bs d e → .settings ∉ bs ∧ .swc ∉ bs ∧ .sdm ∉ bs → P d → P e)
    {d : Device} {p : Port} {st : Standing} (h : P d) (changed : d.standing p ≠ st → P ((d.restanding p st).swcStandingChanged p)) :
    P (d.setStanding p st) := by
  unfold Device.setStanding
  by_cases same : d.standing p = st
  · simpa [Device.when, same] using h
  · have moved : (d.standing p != st) = true := bne_iff_ne.mpr same
    rw [moved]
    exact apart (((((Only.refl [.handoffs, .du] _).when _ _ fun _ o => o.duRefresh).post _).post _).postIf _ _) (by decide)
      (changed same)

/-- R85: a change of standing takes the port's selection with it, and a port that comes to stand held none. -/
theorem SelectionLaw.setStanding {d : Device} (h : SelectionLaw d) (p : Port) (st : Standing) : SelectionLaw (d.setStanding p st) := by
  refine Device.setStanding_keeps selectionLaw_within.apart h fun changed => ?_
  have stands : (d.restanding p st).standing p = st := by rw [d.restanding_standing, if_pos rfl]
  have others : ∀ q, q ≠ p → (d.restanding p st).standing q = d.standing q := fun q other => by
    rw [d.restanding_standing, if_neg other]
  by_cases comes : st = .inStanding
  · have idle : (d.restanding p st).swcStandingChanged p = (d.restanding p st).swcEnd := by
      have here : ((d.restanding p st).standing p != .inStanding) = false := by rw [stands, comes]; rfl
      unfold Device.swcStandingChanged
      rw [here]
      rfl
    rw [idle]
    refine (h.fewer (e := d.restanding p st) fun n x hx => ⟨x, hx, rfl, rfl, rfl, others _ fun same => ?_⟩).swcEnd
    exact changed (same ▸ (h.1 n x hx).1.trans comes.symm)
  · have drops : (d.restanding p st).swcStandingChanged p = ((d.restanding p st).dropSelections p).swcEnd := by
      have away : ((d.restanding p st).standing p != .inStanding) = true := by rw [stands]; exact bne_iff_ne.mpr comes
      unfold Device.swcStandingChanged
      rw [away]
      rfl
    rw [drops]
    refine (h.fewer fun n x hx => ?_).swcEnd
    have standing : ((d.restanding p st).dropSelections p).standing = (d.restanding p st).standing := by
      unfold Device.standing
      rw [Device.dropSelections_only _ p .sdm (by decide)]
    rw [Device.dropSelections_sw] at hx ⊢
    obtain ⟨held, other⟩ := Option.filter_eq_some_iff.mp hx
    exact ⟨x, held, rfl, rfl, rfl, (congrFun standing _).trans (others _ (bne_iff_ne.mp other))⟩

theorem Device.modPort_standings {d : Device} {p : Port} {f : PortStanding → PortStanding}
    (same : (f (d.port p)).standing = (d.port p).standing) : (d.modPort p f).standing = d.standing := by
  funext q
  change ((d.modPort p f).port q).standing = _
  rw [d.modPort_port]
  split
  · next here => rw [here, same]; rfl
  · rfl

/-! ## Every command -/

theorem selectionLaw_event : EventInvariant SelectionLaw SelectionLaw where
  within := selectionLaw_within
  begins h := h
  ends := SelectionLaw.swcEnd
  inputs switches _ _ _ _ h := h.congr switches rfl
  health {s t n x} run h := by
    cases run
    have held : SelectionLaw ((s.dev.took (.healthHandoffSwc n x)).modSwc fun c => { c with health := c.health.set n x }) :=
      h.congr rfl rfl
    refine SelectionLaw.swcEnd ?_
    split
    · exact selectionLaw_within.forceOpen held _
    · split
      · exact selectionLaw_within.softTrip held _ _
      · exact held
  fire {s t st} run h := by
    cases run
    have held : SelectionLaw ((s.dev.took (.fireStageHandoffSwc st)).modSwc fun c => { c with fireStage := st }) := h.congr rfl rfl
    exact (Device.when_keeps held fun h => Device.each_keeps h fun n _ h => selectionLaw_within.forceOpen h n).swcEnd
  apart := selectionLaw_within.apart
  note state _ _ selection h := h.modSw state selection
  item _ h := h.congr rfl rfl
  port same h := h.kept (Device.modPort_standings same) fun n => .inr ⟨rfl, rfl⟩
  standing h := h.setStanding _ _
  starts ready none := SelectionLaw.none fun n => by
    have kept := (Device.startBlocks_keeps ready).sw n
    rw [kept]
    exact none n

/-- R84: a SELECT that is taken leaves the law. -/
theorem SelectionLaw.selected {d : Device} (h : SelectionLaw d) {p : Port} {n : SwitchId} {a : Action} {left : Nat}
    (stands : d.standing p = .inStanding) (first : ∀ m x, (d.sw m).selection = some x → x.holder ≠ p)
    (may : a = .close ∧ (d.sw n).state = .opened ∨ a = .opening ∧ (d.sw n).state = .closed) :
    SelectionLaw (d.modSw n fun r => { r with selection := some ⟨p, a, left⟩ }) := by
  obtain ⟨lawful, single⟩ := h
  have sw := fun k => d.modSw_sw n k fun r => { r with selection := some ⟨p, a, left⟩ }
  refine ⟨fun k x hx => ?_, fun k m x y hx hy same => ?_⟩
  · rw [sw] at hx ⊢
    split at hx
    · next here => cases hx; rw [if_pos here]; exact ⟨stands, may⟩
    · next other => rw [if_neg other]; exact lawful k x hx
  · rw [sw] at hx hy
    split at hx <;> split at hy
    · next hk hm => exact hk.trans hm.symm
    · cases hx; exact absurd same.symm (first m y hy)
    · cases hy; exact absurd same (first k x hx)
    · exact single k m x y hx hy same

/-- R84: the rows of SELECT leave an OPEN switch to close, or a CLOSED one to open. -/
theorem Action.starts_from {a : Action} {st : SwitchState} (still : st.moving = false) (move : ¬(st = a.endState ∨ st = .welded)) :
    a = .close ∧ st = .opened ∨ a = .opening ∧ st = .closed := by
  cases a <;> cases st <;> simp [SwitchState.moving, Action.endState] at *

theorem Device.holds_iff (d : Device) (p : Port) (n : SwitchId) :
    d.holds p n = true ↔ ∃ x, (d.sw n).selection = some x ∧ x.holder = p := by
  simp [Device.holds, Option.any_eq_true]

theorem Device.any_holds_iff (d : Device) (p : Port) :
    SwitchId.all.any (d.holds p) = true ↔ ∃ n x, (d.sw n).selection = some x ∧ x.holder = p := by
  simp [List.any_eq_true, SwitchId.mem_all, Device.holds_iff]

theorem SelectionLaw.selectOn {d : Device} (h : SelectionLaw d) (p : Port) (n : SwitchId) (a : Action) :
    SelectionLaw (d.selectOn p n a).1 := by
  refine row_keeps h ?_
  split
  · exact h
  · next stands =>
    split
    · exact h
    · next first =>
      split
      · exact h
      · next still =>
        split
        · exact h
        · next move =>
          split
          · exact selectionLaw_event.refuse h n
          · have quiet : (d.sw n).state.moving = false := by simp at still; exact still.2
            exact h.selected (not_not.mp stands)
              (fun m x held mine => first ((d.any_holds_iff p).mpr ⟨m, x, held, mine⟩)) (Action.starts_from quiet move)

theorem SelectionLaw.pifSelect {d : Device} (h : SelectionLaw d) (p : Port) (f : ItemFrame) : SelectionLaw (pifSelect p f d).1 := by
  refine row_keeps h ?_
  unfold swcSelect
  split
  · exact h
  · split
    · exact h
    · exact h.selectOn p _ _

/-- R99: the start of the isolation sequence takes selections alone. -/
theorem SelectionLaw.isolationStart {d : Device} (h : SelectionLaw d) : SelectionLaw d.isolationStart := by
  have isolating : SelectionLaw (d.inIsolation .isolating) := h.congr rfl rfl
  have aborted := selectionLaw_within.closingAborted isolating
  rw [Device.isolationStart_steps]
  generalize (d.inIsolation .isolating).closingAborted = m at aborted ⊢
  exact (Device.when_keeps (f := Device.timerStarted) aborted fun h => h.congr rfl rfl).swcEnd

/-- R98: the isolation request drops selections alone. -/
theorem SelectionLaw.swcIsolationWrite {d : Device} (h : SelectionLaw d) (v : Int) : SelectionLaw (swcIsolationWrite v d).1 := by
  have taken : SelectionLaw ((d.setItem .t11 16 v).post (.envelopeRecomputation (.isolation (v == 1)))) := h.congr rfl rfl
  unfold Machine.swcIsolationWrite
  dsimp only
  split
  · exact h
  · split
    · exact taken.isolationStart
    · exact taken.swcEnd
  · split
    · exact taken
    · exact (taken.congr (e := Device.modSwc (fun c => { c with isolation := .released }) _) rfl rfl).swcEnd

/-- R87: an operation that starts takes the selection with it. -/
theorem SelectionLaw.startOperation {d : Device} (h : SelectionLaw d) (n : SwitchId) (a : Action) :
    SelectionLaw (d.startOperation n a) := by
  unfold Device.startOperation
  split
  · have ready : SelectionLaw (d.modSw n fun r => { r with interrupted := false }) := h.modSw rfl (.inl rfl)
    split
    · exact ready.changeState _ _ _
    · exact ready.changeState _ _ _
  · unfold Device.enterOpening
    split
    · exact h.changeState _ _ _
    · exact selectionLaw_within.finishOpen h n

theorem selectionLaw_route (p : Port) (f : Frame) (d : Device) (h : SelectionLaw d) : SelectionLaw (route p f d).1 :=
  selectionLaw_event.route p f h h.swcIsolationWrite (h.pifSelect p _) fun n a _ _ _ _ => h.startOperation n a

/-- R86: the select timers run down. -/
theorem SelectionLaw.tick {d : Device} (h : SelectionLaw d) : SelectionLaw d.tick :=
  h.fewer fun n x hx => by
    have sw : d.tick.sw n = (d.sw n).tick := by cases n <;> rfl
    rw [sw] at hx ⊢
    obtain ⟨y, held, rfl⟩ := Option.map_eq_some_iff.mp hx
    exact ⟨y, held, rfl, rfl, rfl, by cases y.holder <;> rfl⟩

end Sys2Proof.Machine

section
open Sys2Proof Sys2Proof.Machine

/-- Settles O9: an event leaves only selections that stood before it, and SELECT adds one to a port that stands and holds none. -/
theorem selectionLawKept : Obligations.SelectionLawKept := fun _ _ =>
  step_keeps (P := SelectionLaw) (fun _ => SelectionLaw.tick) (fun _ _ _ event run h => selectionLaw_event.event event run h)
    (fun only h => selectionLaw_event.apart only (by decide) h)
    selectionLaw_route

end
end

section
/-! SUPPORT. The inhibits, the interlock and the isolation sequence through every command (R82, R83, R93, R98, R99). -/

namespace Sys2Proof.Machine

/-! ## The laws within an event -/

/-- R98, R99: what holds of the isolation sequence at every point of an event at SWC. -/
structure Sequenced (d : Device) : Prop where
  request : d.swc.isolation = .released ↔ d.item .t11 16 ≠ 1
  still : d.swc.isolation ≠ .released → ∀ n, (d.sw n).state ≠ .precharging ∧ (d.sw n).state ≠ .closing
  rested : d.swc.isolation = .isolated → ∀ n, Resting d n
  timed : d.swc.isolationTimer.isSome = true → d.swc.isolation = .isolating ∧ (d.sw .g).state = .closed

theorem IsolationLaw.sequenced {d : Device} (h : IsolationLaw d) : Sequenced d := by
  obtain ⟨request, still, -, rested, timed⟩ := h
  exact ⟨request, still, rested, timed⟩

/-- What the isolation sequence rests on is as it was, but for a timer that may have stopped. -/
theorem Sequenced.congr {d e : Device} (h : Sequenced d) (asked : e.item .t11 16 = d.item .t11 16)
    (states : ∀ n, (e.sw n).state = (d.sw n).state) (isolation : e.swc.isolation = d.swc.isolation)
    (timer : e.swc.isolationTimer = d.swc.isolationTimer ∨ e.swc.isolationTimer = none) : Sequenced e where
  request := by rw [isolation, asked]; exact h.request
  still := by simp only [isolation, states]; exact h.still
  rested := by unfold Resting; simp only [isolation, states]; exact h.rested
  timed := by
    rw [isolation, states]
    obtain same | none := timer
    · rw [same]; exact h.timed
    · rw [none]; exact nofun

/-- R99: without the isolation sequence no timer runs. -/
theorem Sequenced.no_timer {d : Device} (h : Sequenced d) (idle : d.swc.isolation ≠ .isolating) : d.swc.isolationTimer = none := by
  cases timer : d.swc.isolationTimer with
  | none => rfl
  | some x => exact absurd (h.timed (by rw [timer]; rfl)).1 idle

/-- What a change of state leaves of SWC beside the switch. -/
theorem Device.changeState_swc (d : Device) (n : SwitchId) (st : SwitchState) (timer : Option Nat) :
    (d.changeState n st timer).swc = { d.swc with
      switches := (d.changeState n st timer).swc.switches
      isolationTimer := if n = .g then none else d.swc.isolationTimer } := by
  rw [(d.changeState_set n st timer).1]
  rfl

theorem Device.changeState_state (d : Device) (n k : SwitchId) (st : SwitchState) (timer : Option Nat) :
    ((d.changeState n st timer).sw k).state = if k = n then st else (d.sw k).state := by
  rw [(d.changeState_set n st timer).sw k]
  split <;> rfl

/-- R99: a switch moves without breaking the sequence where it closes in RELEASED alone and an ISOLATED one stays at rest. -/
theorem Sequenced.changeState {d : Device} (h : Sequenced d) {n : SwitchId} {st : SwitchState} {timer : Option Nat}
    (closes : st = .precharging ∨ st = .closing → d.swc.isolation ≠ .released → False)
    (rests : d.swc.isolation = .isolated → st = .opened ∨ st = .welded) : Sequenced (d.changeState n st timer) := by
  have swc := d.changeState_swc n st timer
  have settings := changeState_only d n st timer .settings (by decide)
  have isolation : (d.changeState n st timer).swc.isolation = d.swc.isolation := by rw [swc]
  have stops : (d.changeState n st timer).swc.isolationTimer = if n = .g then none else d.swc.isolationTimer := by rw [swc]
  refine ⟨?_, fun on k => ?_, fun on k => ?_, fun runs => ?_⟩
  · unfold Device.item; rw [isolation, settings]; exact h.request
  · rw [isolation] at on
    rw [d.changeState_state]
    split
    · exact ⟨fun same => closes (.inl same) on, fun same => closes (.inr same) on⟩
    · exact h.still on k
  · rw [isolation] at on
    unfold Resting
    rw [d.changeState_state]
    split
    · exact rests on
    · exact h.rested on k
  · rw [stops] at runs
    rw [isolation, d.changeState_state]
    by_cases breaker : n = .g
    · rw [if_pos breaker] at runs; cases runs
    · rw [if_neg breaker] at runs
      rw [if_neg (Ne.symm breaker)]
      exact h.timed runs

/-- R88: without a request a switch comes nearer to CLOSED from PRECHARGING alone. -/
theorem Moves.nearer {a b : SwitchState} (h : Moves a b) (closes : b = .precharging ∨ b = .closing) : a = .precharging := by
  cases h <;> simp at closes ⊢

theorem sequenced_within : SwitchingInvariant Sequenced where
  apart only free h := by
    obtain ⟨settings, swc, -⟩ := free
    have same := only .swc swc
    exact h.congr (by unfold Device.item; rw [only .settings settings]) (fun n => by unfold Device.sw; rw [same]) (by rw [same])
      (.inl (by rw [same]))
  mark {d n f} state _ h := h.congr rfl (fun k => by
    rw [d.modSw_sw]
    split
    · next here => rw [here]; exact state
    · rfl) rfl (.inl rfl)
  move {d n st timer} moves h := h.changeState
    (fun closes on => (h.still on n).1 (moves.nearer closes))
    (fun on => moves.rests (by obtain r | r := h.rested on n <;> simp [r]))

/-- R93: a switch that a forced open has reached stays away from CLOSED. -/
theorem away_within (n : SwitchId) : SwitchingInvariant (Away · n) where
  apart only free h := by
    obtain ⟨-, swc, -⟩ := free
    unfold Away Resting Device.sw at *
    rw [only .swc swc]
    exact h
  mark {d k f} state _ h := by
    unfold Away Resting
    rw [d.modSw_sw]
    split
    · next here => subst here; rw [state]; exact h
    · exact h
  move {d k st timer} moves h := by
    unfold Away Resting
    rw [d.changeState_state]
    split
    · next here => subst here; exact .inl (moves.rests h.still)
    · exact h

/-- The causes of forced opens that SWC holds (R93). -/
structure SameCauses (d e : Device) : Prop where
  health : e.swc.health = d.swc.health
  fireStage : e.swc.fireStage = d.swc.fireStage

theorem sameCauses_within (d : Device) : SwitchingInvariant (SameCauses d) where
  apart only free h := by
    obtain ⟨-, swc, -⟩ := free
    have same := only .swc swc
    exact ⟨by rw [same]; exact h.health, by rw [same]; exact h.fireStage⟩
  mark _ _ h := ⟨h.health, h.fireStage⟩
  move {e n st timer} _ h := by
    have swc := e.changeState_swc n st timer
    exact ⟨by rw [swc]; exact h.health, by rw [swc]; exact h.fireStage⟩

theorem InterlockLaw.congr {d e : Device} (h : InterlockLaw d) (causes : SameCauses d e) (away : ∀ n, Away d n → Away e n) :
    InterlockLaw e := by
  obtain ⟨locked, forced⟩ := h
  refine ⟨fun s out => away _ (locked s ?_), fun on n => away n (forced ?_ n)⟩
  · rw [← causes.health]; exact out
  · rw [← causes.fireStage]; exact on

theorem interlockLaw_within : SwitchingInvariant InterlockLaw where
  apart {_ d _} only free h :=
    h.congr ((sameCauses_within d).apart only free ⟨rfl, rfl⟩) fun n => (away_within n).apart only free
  mark {d _ _} state selection h :=
    h.congr ((sameCauses_within d).mark state selection ⟨rfl, rfl⟩) fun k => (away_within k).mark state selection
  move {d _ _ _} moves h :=
    h.congr ((sameCauses_within d).move moves ⟨rfl, rfl⟩) fun k => (away_within k).move moves

theorem SwitchingInvariant.and {P Q : Device → Prop} (k : SwitchingInvariant P) (l : SwitchingInvariant Q) :
    SwitchingInvariant fun d => P d ∧ Q d where
  apart only free h := ⟨k.apart only free h.1, l.apart only free h.2⟩
  mark state selection h := ⟨k.mark state selection h.1, l.mark state selection h.2⟩
  move moves h := ⟨k.move moves h.1, l.move moves h.2⟩

theorem SwitchingInvariant.dropSelections {Q : Device → Prop} (k : SwitchingInvariant Q) {d : Device} (h : Q d) (p : Port) :
    Q (d.dropSelections p) :=
  Device.each_keeps h fun n _ h => Device.when_keeps h fun h => k.dropSelection h n

/-! ## The end of an event -/

/-- The three laws of SWC. -/
structure SwitchingLaws (d : Device) : Prop where
  inhibits : InhibitLaw d
  interlock : InterlockLaw d
  isolation : IsolationLaw d

/-- R91: an opening leaves the switch OPENING or OPEN. -/
theorem SwitchRec.openingAt_state (n : SwitchId) (shut : Bool) (r : SwitchRec) :
    (r.openingAt n shut).state = if shut then .opening else .opened := by
  unfold SwitchRec.openingAt
  split <;> rfl

theorem Device.isolationStep_away {d : Device} {n : SwitchId} (h : Away d n) : Away d.isolationStep n := by
  unfold Away Resting
  rw [d.isolationStep_sw]
  split
  · rw [SwitchRec.openingAt_state]
    cases d.pins.feedback.get n <;> simp
  · exact h

/-- R99: the sequence leaves the breaker. -/
theorem Device.isolationStep_breaker (d : Device) : d.isolationStep.sw .g = d.sw .g := by
  rw [d.isolationStep_sw, if_neg fun h => h.2.1 rfl]

/-- R99: the sequence brings no switch nearer to CLOSED. -/
theorem Device.isolationStep_state {d : Device} {n : SwitchId} {st : SwitchState} (h : (d.isolationStep.sw n).state = st)
    (closes : st = .precharging ∨ st = .closing ∨ st = .closed) : (d.sw n).state = st := by
  rw [d.isolationStep_sw] at h
  split at h
  · rw [SwitchRec.openingAt_state] at h
    subst h
    split at closes <;> simp at closes
  · exact h

/-- R98, R99: the isolation law once the sequence has looked at the switches. -/
theorem Sequenced.isolationStep {d : Device} (h : Sequenced d) : IsolationLaw d.isolationStep := by
  have item : d.isolationStep.item = d.item := by
    funext t i; unfold Device.item; rw [d.isolationStep_handed .settings (by decide)]
  have timer : d.isolationStep.swc.isolationTimer = d.swc.isolationTimer := by rw [d.isolationStep_swc]
  unfold IsolationLaw
  rw [item, timer, d.isolationStep_breaker]
  by_cases on : d.swc.isolation = .isolating
  · have requested : ¬d.item .t11 16 ≠ 1 := fun off => by rw [h.request.mpr off] at on; cases on
    have still : ∀ n, (d.isolationStep.sw n).state ≠ .precharging ∧ (d.isolationStep.sw n).state ≠ .closing := fun n => by
      obtain ⟨charge, close⟩ := h.still (by rw [on]; decide) n
      exact ⟨fun same => charge (Device.isolationStep_state same (.inl rfl)),
        fun same => close (Device.isolationStep_state same (.inr (.inl rfl)))⟩
    obtain ⟨rest, status⟩ | ⟨waits, status⟩ := Device.isolationStep_status on
    · refine ⟨by simpa [status] using requested, fun _ => still, by simp [status], fun _ => rest, fun runs => ?_⟩
      have breaker := rest .g
      unfold Resting at breaker
      rw [d.isolationStep_breaker, (h.timed runs).2] at breaker
      simp at breaker
    · refine ⟨by simpa [status] using requested, fun _ => still, fun _ => ⟨waits, fun rest s closed => ?_⟩, by simp [status],
        fun runs => ⟨status, (h.timed runs).2⟩⟩
      have breaker : d.atRest .g = true := (d.atRest_iff .g).mpr (by unfold Resting at *; rwa [d.isolationStep_breaker] at rest)
      have was := Device.isolationStep_state closed (.inr (.inr rfl))
      rw [d.isolationStep_sw, if_pos ⟨⟨on, breaker⟩, s.switch_ne_g, was⟩, SwitchRec.openingAt_state] at closed
      cases hf : d.pins.feedback.get s.switch <;> simp [hf] at closed
  · rw [Device.isolationStep_other on]
    exact ⟨h.request, h.still, fun h => absurd h on, h.rested, h.timed⟩

/-- The isolation law rests on SWC's states, its status and timer, and the request. -/
theorem IsolationLaw.congr {d e : Device} (h : IsolationLaw d) (asked : e.item .t11 16 = d.item .t11 16)
    (states : ∀ n, (e.sw n).state = (d.sw n).state) (isolation : e.swc.isolation = d.swc.isolation)
    (timer : e.swc.isolationTimer.isSome = d.swc.isolationTimer.isSome) : IsolationLaw e := by
  unfold IsolationLaw Resting at *
  simp only [asked, isolation, timer, states]
  exact h

/-- R82, R83, R99: the end of an event makes the inhibits and the isolation law, and keeps the interlock. -/
theorem SwitchingLaws.ofEnd {d : Device} (sequenced : Sequenced d) (interlock : InterlockLaw d) : SwitchingLaws d.swcEnd where
  inhibits := d.isolationStep.deriveInhibits_law
  interlock := by
    have swc := d.isolationStep_swc
    refine interlock.congr ⟨congrArg (·.health) swc, congrArg (·.fireStage) swc⟩ fun n away => ?_
    have stepped := Device.isolationStep_away away
    unfold Away Resting at *
    rw [d.swcEnd_sw]
    exact stepped
  isolation := sequenced.isolationStep.congr rfl (fun n => by rw [d.swcEnd_sw]) rfl rfl

/-! ## What leaves the laws as they stand -/

/-- What the three laws read of the part, beside the inhibits and the failure flags of the switches. -/
structure SameSwitching (d e : Device) : Prop where
  asked : e.item .t11 16 = d.item .t11 16
  standing : e.standing .converter = d.standing .converter
  states : ∀ n, (e.sw n).state = (d.sw n).state
  inputs : e.swc = { d.swc with switches := e.swc.switches, isolationTimer := e.swc.isolationTimer }
  timed : e.swc.isolationTimer.isSome = d.swc.isolationTimer.isSome

theorem SwitchingLaws.congr {d e : Device} (h : SwitchingLaws d) (same : SameSwitching d e)
    (flags : ∀ n, (e.sw n).inhibits = (d.sw n).inhibits ∧ (e.sw n).failure = (d.sw n).failure) : SwitchingLaws e := by
  obtain ⟨asked, standing, states, inputs, timed⟩ := same
  have inhibits : ∀ n, (e.sw n).inhibits = (d.sw n).inhibits := fun n => (flags n).1
  have failure : ∀ n, (e.sw n).failure = (d.sw n).failure := fun n => (flags n).2
  have fire : e.swc.fireStage = d.swc.fireStage := by rw [inputs]
  have health : e.swc.health = d.swc.health := by rw [inputs]
  have stale : e.swc.busStale = d.swc.busStale := by rw [inputs]
  have window : e.swc.window = d.swc.window := by rw [inputs]
  refine ⟨?_, h.interlock.congr ⟨health, fire⟩ fun n => ?_, h.isolation.congr asked states (by rw [inputs]) timed⟩
  · have law := h.inhibits
    unfold InhibitLaw at *
    simp only [inhibits, failure, states, asked, standing, fire, health, stale, window]
    exact law
  · unfold Away Resting
    rw [states]
    exact id

theorem SwitchingLaws.modSw {d : Device} {n : SwitchId} {f : SwitchRec → SwitchRec} (h : SwitchingLaws d)
    (state : (f (d.sw n)).state = (d.sw n).state) (failure : (f (d.sw n)).failure = (d.sw n).failure)
    (inhibits : (f (d.sw n)).inhibits = (d.sw n).inhibits) : SwitchingLaws (d.modSw n f) := by
  have sw := fun k => d.modSw_sw n k f
  refine h.congr ⟨rfl, rfl, fun k => ?_, rfl, rfl⟩ fun k => ?_
  · rw [sw]
    split
    · next here => rw [here]; exact state
    · rfl
  · rw [sw]
    split
    · next here => rw [here]; exact ⟨inhibits, failure⟩
    · exact ⟨rfl, rfl⟩

theorem SwitchingLaws.settled {d e : Device} (h : SwitchingLaws d) (asked : e.item .t11 16 = d.item .t11 16)
    (standing : e.standing .converter = d.standing .converter) (swc : e.swc = d.swc) : SwitchingLaws e := by
  have sw : ∀ n, e.sw n = d.sw n := fun n => by unfold Device.sw; rw [swc]
  exact h.congr ⟨asked, standing, fun n => by rw [sw], by rw [swc], by rw [swc]⟩ fun n => by rw [sw]; exact ⟨rfl, rfl⟩

theorem Device.setItem_other (d : Device) {t u : StoredTable} {i j : Nat} (v : Int) (other : ¬(t = u ∧ i = j)) :
    (d.setItem t i v).item u j = d.item u j := by
  unfold Device.item
  rw [Device.setItem_settings, PerTable.get_set]
  split
  · next here =>
    subst here
    rw [List.getD_eq_getElem?_getD, List.getElem?_set_ne fun same => other ⟨rfl, same⟩, ← List.getD_eq_getElem?_getD]
  · rfl

/-- R158: SWC takes a change of standing where the sequence and the interlock hold. -/
theorem SwitchingLaws.setStanding {d : Device} (h : SwitchingLaws d) (p : Port) (st : Standing) : SwitchingLaws (d.setStanding p st) := by
  have within := sequenced_within.and interlockLaw_within
  refine Device.setStanding_keeps (fun only free h => ?_) h fun _ => ?_
  · obtain ⟨settings, swc, sdm⟩ := free
    exact h.settled (by unfold Device.item; rw [only .settings settings]) (by unfold Device.standing; rw [only .sdm sdm]) (only .swc swc)
  · have moved : Sequenced (d.restanding p st) ∧ InterlockLaw (d.restanding p st) :=
      ⟨h.isolation.sequenced.congr rfl (fun _ => rfl) rfl (.inl rfl), h.interlock.congr ⟨rfl, rfl⟩ fun _ => id⟩
    obtain ⟨sequenced, interlock⟩ := Device.when_keeps (P := fun d => Sequenced d ∧ InterlockLaw d)
      (b := (d.restanding p st).standing p != .inStanding) (f := (·.dropSelections p)) moved fun moved =>
      within.dropSelections moved p
    exact .ofEnd sequenced interlock

/-! ## The forced opens of a health and of a fire stage (R93) -/

/-- R93: a forced open leaves its switch OPEN, OPENING or WELDED. -/
theorem SwitchRec.forcedAt_state (n : SwitchId) (shut : Bool) (r : SwitchRec) :
    ((r.forcedAt n shut).state = .opened ∨ (r.forcedAt n shut).state = .welded) ∨ (r.forcedAt n shut).state = .opening := by
  have opens : ∀ r : SwitchRec, ((r.openingAt n shut).state = .opened ∨ (r.openingAt n shut).state = .welded) ∨
      (r.openingAt n shut).state = .opening := fun r => by
    rw [SwitchRec.openingAt_state]
    cases shut <;> simp
  unfold SwitchRec.forcedAt
  split
  · exact opens _
  · exact opens _
  · exact opens _
  all_goals simp [*]

theorem Device.forceOpen_away (d : Device) (n : SwitchId) : Away (d.forceOpen n) n := by
  unfold Away Resting
  rw [d.forceOpen_sw, if_pos rfl]
  exact SwitchRec.forcedAt_state _ _ _

/-- The part with the health of a string held at SWC. -/
def Device.healthHeard (n : StringId) (h : Health) (d : Device) : Device :=
  { d.took (.healthHandoffSwc n h) with swc := { d.swc with health := d.swc.health.set n h } }

/-- What a change from an old health to h asks of the string's switch (R31, R32). -/
def Device.healthActs (n : StringId) (old h : Health) (d : Device) : Device :=
  if h = .lockedOut ∧ old ≠ .lockedOut then d.forceOpen n.switch
  else if old = .available ∧ h ≠ .available then d.softTrip n h
  else d

theorem execHealthHandoffSwc_eq (n : StringId) (h : Health) (s : State) : exec (.healthHandoffSwc n h) s =
    .next ⟨s.pending, ((s.dev.healthHeard n h).healthActs n (s.dev.swc.health.get n) h).swcEnd⟩ := rfl

/-- R32, R93: the health of one string changes, and what it asks of the switch follows. -/
theorem switchingLaws_health {s t : State} {n : StringId} {x : Health} (run : exec (.healthHandoffSwc n x) s = .next t)
    (h : SwitchingLaws s.dev) : SwitchingLaws t.dev := by
  cases run.symm.trans (execHealthHandoffSwc_eq n x s)
  have sequenced : Sequenced (s.dev.healthHeard n x) := h.isolation.sequenced.congr rfl (fun _ => rfl) rfl (.inl rfl)
  have health : ∀ k, (s.dev.healthHeard n x).swc.health.get k = if k = n then x else s.dev.swc.health.get k :=
    fun _ => PerString.get_set _ _ _ _
  have fireStage : (s.dev.healthHeard n x).swc.fireStage = s.dev.swc.fireStage := rfl
  have was : ∀ k, Away s.dev k → Away (s.dev.healthHeard n x) k := fun _ => id
  generalize s.dev.healthHeard n x = m at sequenced health fireStage was
  -- The interlock stands again once the string itself is away where its health asks for it.
  have follows : ∀ e, Sequenced e → SameCauses m e → (∀ k, Away m k → Away e k) →
      (x = .lockedOut → Away e n.switch) → SwitchingLaws e.swcEnd := fun e sequenced causes kept locked => by
    refine .ofEnd sequenced ⟨fun k out => ?_, fun on k => ?_⟩
    · rw [causes.health, health] at out
      split at out
      · next here => rw [here]; exact locked out
      · exact kept _ (was _ (h.interlock.1 k out))
    · rw [causes.fireStage, fireStage] at on
      exact kept _ (was _ (h.interlock.2 on k))
  dsimp only [Device.healthActs]
  split
  · exact follows _ (sequenced_within.forceOpen sequenced _) ((sameCauses_within m).forceOpen ⟨rfl, rfl⟩ _)
      (fun k away => (away_within k).forceOpen away _) fun _ => m.forceOpen_away _
  · next entered =>
    have locked : x = .lockedOut → Away m n.switch := fun out => was _ (h.interlock.1 n (not_not.mp fun free => entered ⟨out, free⟩))
    split
    · exact follows _ (sequenced_within.softTrip sequenced _ _) ((sameCauses_within m).softTrip ⟨rfl, rfl⟩ _ _)
        (fun k away => (away_within k).softTrip away _ _) fun out => (away_within _).softTrip (locked out) _ _
    · exact follows _ sequenced ⟨rfl, rfl⟩ (fun _ => id) locked

/-- Every switch forced open. -/
def Device.allForced (d : Device) : Device := d.each SwitchId.all Device.forceOpen

theorem Device.allForced_sw (d : Device) (n : SwitchId) : d.allForced.sw n = (d.sw n).forcedAt n (d.pins.feedback.get n) := by
  have each := Device.each_sw (f := Device.forceOpen) (g := SwitchRec.forcedAt) (fun n e => forceOpen_only e n .pins (by decide))
    (fun n e k => e.forceOpen_sw n k) (xs := SwitchId.all) (by decide) d n
  exact each.trans (if_pos n.mem_all)

theorem SwitchingInvariant.allForced {Q : Device → Prop} (k : SwitchingInvariant Q) {d : Device} (h : Q d) : Q d.allForced :=
  Device.each_keeps h fun n _ h => k.forceOpen h n

/-- The part with a fire stage held at SWC. -/
def Device.fireHeard (st : FireStage) (d : Device) : Device :=
  { d.took (.fireStageHandoffSwc st) with swc := { d.swc with fireStage := st } }

theorem execFireStageHandoffSwc_eq (st : FireStage) (s : State) : exec (.fireStageHandoffSwc st) s =
    .next ⟨s.pending, ((s.dev.fireHeard st).when (st.forces && s.dev.swc.fireStage != st) Device.allForced).swcEnd⟩ := rfl

/-- R93: the fire stage changes, and entry into ALARM or RELEASED forces all five open. -/
theorem switchingLaws_fire {s t : State} {st : FireStage} (run : exec (.fireStageHandoffSwc st) s = .next t)
    (h : SwitchingLaws s.dev) : SwitchingLaws t.dev := by
  cases run.symm.trans (execFireStageHandoffSwc_eq st s)
  have sequenced : Sequenced (s.dev.fireHeard st) := h.isolation.sequenced.congr rfl (fun _ => rfl) rfl (.inl rfl)
  have health : (s.dev.fireHeard st).swc.health = s.dev.swc.health := rfl
  have fireStage : (s.dev.fireHeard st).swc.fireStage = st := rfl
  have was : ∀ k, Away s.dev k → Away (s.dev.fireHeard st) k := fun _ => id
  generalize s.dev.fireHeard st = m at sequenced health fireStage was
  dsimp only
  by_cases entered : (st.forces && s.dev.swc.fireStage != st) = true
  · have away : ∀ n, Away m.allForced n := fun n => by
      unfold Away Resting
      rw [m.allForced_sw]
      exact SwitchRec.forcedAt_state _ _ _
    have whole : m.when true Device.allForced = m.allForced := rfl
    rw [entered, whole]
    exact .ofEnd (sequenced_within.allForced sequenced) ⟨fun s _ => away s.switch, fun _ => away⟩
  · rw [Bool.eq_false_iff.mpr entered]
    refine .ofEnd sequenced ⟨fun k out => was _ (h.interlock.1 k (health ▸ out)), fun on k => was _ (h.interlock.2 ?_ k)⟩
    change m.swc.fireStage.forces = true at on
    rw [fireStage] at on
    have held : s.dev.swc.fireStage = st := by simpa [on] using entered
    rw [held]
    exact on

/-! ## Every command -/

/-- R107: the blocks start with the three laws. -/
theorem SwitchingLaws.started {d : Device} {stages : PerStage CoolStage} (ready : ReadyToStart d stages) : SwitchingLaws d.startBlocks := by
  have started := Device.startBlocks_started ready
  have away : ∀ n, Away d.startBlocks n := fun n => by
    have was := ready.away n
    unfold Away Resting at *
    rw [(Device.startBlocks_keeps ready).sw n]
    exact was
  obtain ⟨-, -, swc, off, rest, wait, inhibits, -⟩ := started
  have timer : d.startBlocks.swc.isolationTimer = none := by rw [swc]
  refine ⟨inhibits, ⟨fun s _ => away s.switch, fun _ => away⟩, ?_⟩
  unfold IsolationLaw
  rw [timer]
  by_cases on : d.startBlocks.item .t11 16 = 1
  · by_cases resting : ∀ n, Resting d.startBlocks n
    · simp [rest on resting, on, resting, (away _).still]
    · have waits := not_forall.mp resting
      simp [wait on waits, on, waits, (away _).still]
  · simp [off on, on]

theorem switchingLaws_event : EventInvariant SwitchingLaws fun d => Sequenced d ∧ InterlockLaw d where
  within := sequenced_within.and interlockLaw_within
  begins h := ⟨h.isolation.sequenced, h.interlock⟩
  ends h := .ofEnd h.1 h.2
  inputs {d f} switches isolation timer health fireStage h := by
    have sw : ∀ n, (d.modSwc f).sw n = d.sw n := fun n => congrArg (·.get n) switches
    exact ⟨h.1.congr rfl (fun n => by rw [sw]) isolation timer,
      h.2.congr ⟨health, fireStage⟩ fun n => by unfold Away Resting; rw [sw]; exact id⟩
  health := switchingLaws_health
  fire := switchingLaws_fire
  apart only free h := by
    obtain ⟨settings, swc, sdm⟩ := free
    exact h.settled (by unfold Device.item; rw [only .settings settings]) (by unfold Device.standing; rw [only .sdm sdm]) (only .swc swc)
  note state failure inhibits _ h := h.modSw state failure inhibits
  item other h := h.settled (Device.setItem_other _ _ other) rfl rfl
  port same h := h.settled rfl (congrFun (Device.modPort_standings same) _) rfl
  standing h := h.setStanding _ _
  starts ready _ := .started ready

/-! ## The isolation request and OPERATE -/

/-- R98: the request holds the value written. -/
theorem Device.setItem_isolation {d : Device} (long : 16 < (d.settings.get .t11).length) (v : Int) :
    (d.setItem .t11 16 v).item .t11 16 = v := by
  unfold Device.item
  rw [Device.setItem_settings, PerTable.get_set, if_pos rfl, List.getD_eq_getElem?_getD, List.getElem?_set_self long]
  rfl

/-- The isolation request has its place in a sound table 11. -/
theorem SettingsLaw.isolation_length {d : Device} (h : SettingsLaw d) : 16 < (d.settings.get .t11).length := by
  have length : (d.settings.get .t11).length = 20 := (h.1 .t11).1.1
  rw [length]
  decide

/-- R99: the sequence has begun, its timer not yet. -/
structure Isolating (d : Device) : Prop where
  asked : d.item .t11 16 = 1
  status : d.swc.isolation = .isolating
  idle : d.swc.isolationTimer = none

theorem isolating_within : SwitchingInvariant Isolating where
  apart only free h := by
    obtain ⟨settings, swc, -⟩ := free
    have same := only .swc swc
    exact ⟨by unfold Device.item; rw [only .settings settings]; exact h.asked, by rw [same]; exact h.status, by rw [same]; exact h.idle⟩
  mark _ _ h := ⟨h.asked, h.status, h.idle⟩
  move {d n st timer} _ h := by
    refine ⟨?_, ?_, ?_⟩
    · unfold Device.item
      rw [changeState_only d n st timer .settings (by decide)]
      exact h.asked
    · rw [d.changeState_swc]
      exact h.status
    · rw [d.changeState_swc]
      simp [h.idle]

/-- R99, step 2: no switch is left on its way to CLOSED. -/
theorem Device.closingAborted_still (d : Device) (n : SwitchId) :
    (d.closingAborted.sw n).state ≠ .precharging ∧ (d.closingAborted.sw n).state ≠ .closing := by
  rw [d.closingAborted_sw]
  split
  · obtain (h | h) | h := SwitchRec.forcedAt_state n (d.pins.feedback.get n) (d.sw n) <;> simp [h]
  · next other => exact not_or.mp other

/-- R99: the start of the isolation sequence, the request on. -/
theorem SwitchingLaws.isolationStart {d : Device} (on : d.item .t11 16 = 1) (idle : d.swc.isolationTimer = none)
    (interlock : InterlockLaw d) : SwitchingLaws d.isolationStart := by
  obtain ⟨asked, isolating, timer⟩ := isolating_within.closingAborted (d := d.inIsolation .isolating) ⟨on, rfl, idle⟩
  have locked : InterlockLaw (d.inIsolation .isolating).closingAborted :=
    interlockLaw_within.closingAborted (interlock.congr ⟨rfl, rfl⟩ fun _ => id)
  have still := (d.inIsolation .isolating).closingAborted_still
  rw [Device.isolationStart_steps]
  generalize (d.inIsolation .isolating).closingAborted = m at asked isolating timer locked still ⊢
  have begun : ∀ b : Bool, (b = true → (m.sw .g).state = .closed) → Sequenced (m.when b Device.timerStarted) := fun b closed => by
    cases b with
    | false => exact ⟨by simp [Device.when, isolating, asked], fun _ => still, by simp [Device.when, isolating],
        by simp [Device.when, timer]⟩
    | true => exact ⟨by simp [Device.when, Device.timerStarted, isolating]; exact asked, fun _ => still,
        by simp [Device.when, Device.timerStarted, isolating], fun _ => ⟨isolating, closed rfl⟩⟩
  exact .ofEnd (begun _ beq_iff_eq.mp) (Device.when_keeps (f := Device.timerStarted) locked fun h => h.congr ⟨rfl, rfl⟩ fun _ => id)

theorem SwitchingLaws.swcIsolationWrite {d : Device} (settings : SettingsLaw d) (h : SwitchingLaws d) (v : Int) :
    SwitchingLaws (swcIsolationWrite v d).1 := by
  have asked : ((d.setItem .t11 16 v).post (.envelopeRecomputation (.isolation (v == 1)))).item .t11 16 = v :=
    Device.setItem_isolation settings.isolation_length v
  have sequenced := h.isolation.sequenced
  have interlock : InterlockLaw ((d.setItem .t11 16 v).post (.envelopeRecomputation (.isolation (v == 1)))) :=
    h.interlock.congr ⟨rfl, rfl⟩ fun _ => id
  unfold Machine.swcIsolationWrite
  dsimp only
  split
  · exact h
  · next released =>
    have idle := sequenced.no_timer (by rw [released]; decide)
    split
    · next on => exact .isolationStart (asked.trans (beq_iff_eq.mp on)) idle interlock
    · next off =>
      refine .ofEnd ⟨?_, fun on => absurd released on, fun on => ?_, fun runs => ?_⟩ interlock
      · exact iff_of_true released (by rw [asked]; exact fun on => off (beq_iff_eq.mpr on))
      · cases released.symm.trans on
      · change d.swc.isolationTimer.isSome = true at runs
        rw [idle] at runs
        cases runs
  · next isolated =>
    have idle := sequenced.no_timer (by rw [isolated]; decide)
    have requested : d.item .t11 16 = 1 := not_not.mp fun off => by rw [sequenced.request.mpr off] at isolated; cases isolated
    split
    · next on => exact h.settled (asked.trans ((beq_iff_eq.mp on).trans requested.symm)) rfl rfl
    · next off =>
      refine .ofEnd ⟨?_, fun on => absurd rfl on, nofun, fun runs => ?_⟩ (interlock.congr ⟨rfl, rfl⟩ fun _ => id)
      · exact iff_of_true rfl fun on => off (beq_iff_eq.mpr (asked.symm.trans on))
      · change d.swc.isolationTimer.isSome = true at runs
        rw [idle] at runs
        cases runs

/-- R84: a SELECT marks and selects, and SWC's laws read neither. -/
theorem SwitchingLaws.selectOn {d : Device} (h : SwitchingLaws d) (p : Port) (n : SwitchId) (a : Action) :
    SwitchingLaws (d.selectOn p n a).1 := by
  refine row_keeps h (row_keeps h (row_keeps h (row_keeps h (row_keeps h ?_))))
  split
  · exact switchingLaws_event.refuse h n
  · exact h.modSw (f := fun r => { r with selection := some ⟨p, a, 1000 * d.itemNat .t11 17⟩ }) rfl rfl rfl

theorem SwitchingLaws.pifSelect {d : Device} (h : SwitchingLaws d) (p : Port) (f : ItemFrame) : SwitchingLaws (pifSelect p f d).1 := by
  refine row_keeps h ?_
  unfold swcSelect
  split
  · exact h
  · split
    · exact h
    · exact h.selectOn p _ _

/-- R82: a switch without an inhibit has no cause that forces it open, and the station is not isolated. -/
theorem SwitchingLaws.free {d : Device} (h : SwitchingLaws d) {n : SwitchId} (clear : (d.sw n).inhibits.any = false) :
    d.swc.isolation = .released ∧ d.swc.fireStage.forces = false ∧
      ∀ s : StringId, s.switch = n → d.swc.health.get s ≠ .lockedOut := by
  obtain ⟨common, strings, -⟩ := h.inhibits
  obtain ⟨fire, -, isolation, -⟩ := common n
  simp only [Inhibits.any, Bool.or_eq_false_iff] at clear
  obtain ⟨⟨⟨⟨⟨⟨⟨⟨noHealth, noFire⟩, -⟩, noIsolation⟩, -⟩, -⟩, -⟩, -⟩, -⟩ := clear
  refine ⟨h.isolation.1.mpr fun on => ?_, ?_, fun s here out => ?_⟩
  · rw [isolation.mpr on] at noIsolation; cases noIsolation
  · have calm : ¬d.swc.fireStage.grave = true := fun grave => by rw [fire.mpr grave] at noFire; cases noFire
    cases stage : d.swc.fireStage <;> simp [stage, FireStage.grave, FireStage.forces] at calm ⊢
  · subst here
    rw [(strings s).1.mpr (by rw [out]; decide)] at noHealth
    cases noHealth

/-- R87, R88, R90: a switch that nothing forces open begins to close. -/
theorem SwitchingLaws.closes {d : Device} (h : SwitchingLaws d) {n : SwitchId} (clear : (d.sw n).inhibits.any = false)
    (st : SwitchState) (timer : Option Nat) :
    Sequenced (d.changeState n st timer) ∧ InterlockLaw (d.changeState n st timer) := by
  obtain ⟨released, calm, available⟩ := h.free clear
  have swc := d.changeState_swc n st timer
  have others : ∀ k, k ≠ n → Away d k → Away (d.changeState n st timer) k := fun k other => by
    unfold Away Resting
    rw [d.changeState_state, if_neg other]
    exact id
  refine ⟨h.isolation.sequenced.changeState (fun _ on => on released) (fun on => ?_), fun s out => ?_, fun on => ?_⟩
  · cases released.symm.trans on
  · rw [swc] at out
    exact others _ (fun here => available s here out) (h.interlock.1 s out)
  · rw [swc] at on
    cases calm.symm.trans on

/-- R87: an operation that starts. -/
theorem SwitchingLaws.startOperation {d : Device} (h : SwitchingLaws d) (selection : SelectionLaw d) {n : SwitchId} {a : Action}
    {x : Selection} (held : (d.sw n).selection = some x) (act : x.action = a) (clear : a = .close → (d.sw n).inhibits.any = false) :
    Sequenced (d.startOperation n a) ∧ InterlockLaw (d.startOperation n a) := by
  unfold Device.startOperation
  split
  · have ready : SwitchingLaws (d.modSw n fun r => { r with interrupted := false }) := h.modSw rfl rfl rfl
    have still : ((d.modSw n fun r => { r with interrupted := false }).sw n).inhibits.any = false := by
      rw [Device.modSw_sw, if_pos rfl]
      exact clear rfl
    split
    · exact ready.closes still _ _
    · exact ready.closes still _ _
  · have closed : (d.sw n).state = .closed := by
      obtain ⟨-, ⟨close, -⟩ | ⟨-, closed⟩⟩ := selection.1 n x held
      · rw [act] at close; cases close
      · exact closed
    exact (sequenced_within.and interlockLaw_within).enterOpening ⟨h.isolation.sequenced, h.interlock⟩ (.opening (.inl closed))

theorem SwitchingLaws.tick {d : Device} (h : SwitchingLaws d) : SwitchingLaws d.tick := by
  have sw : ∀ n, d.tick.sw n = (d.sw n).tick := fun n => by cases n <;> rfl
  exact h.congr ⟨rfl, rfl, fun n => by rw [sw]; rfl, rfl, Option.isSome_map⟩ fun n => by rw [sw]; exact ⟨rfl, rfl⟩

/-- The three laws with what they rest on: the settings in their ranges and the selections. -/
structure Switching (d : Device) : Prop where
  settings : SettingsLaw d
  selections : SelectionLaw d
  laws : SwitchingLaws d

theorem switching_route (p : Port) (f : Frame) (d : Device) (h : Switching d) : Switching (route p f d).1 where
  settings := settingsLaw_route p f d h.settings
  selections := selectionLaw_route p f d h.selections
  laws := switchingLaws_event.route p f h.laws (h.laws.swcIsolationWrite h.settings) (h.laws.pifSelect p _)
    fun _ _ _ held act clear => h.laws.startOperation h.selections held act clear

end Sys2Proof.Machine

section
open Sys2Proof Sys2Proof.Machine

/-- Settles O10: an event keeps the sequence and the interlock to its end, where the sequence follows and the inhibits are derived. -/
theorem switchingLawsKept : Obligations.SwitchingLawsKept := by
  intro s t run settings selections inhibits interlock isolation
  have kept : Switching t.dev := step_keeps (P := Switching)
    (fun _ h => ⟨h.settings.congr rfl rfl rfl, h.selections.tick, h.laws.tick⟩)
    (fun _ _ _ event run h => ⟨settingsLaw_event event run h.settings, selectionLaw_event.event event run h.selections,
      switchingLaws_event.event event run h.laws⟩)
    (fun only h => ⟨h.settings.only only, selectionLaw_event.apart only (by decide) h.selections,
      switchingLaws_event.apart only (by decide) h.laws⟩)
    switching_route run ⟨settings, selections, ⟨inhibits, interlock, isolation⟩⟩
  exact ⟨kept.laws.inhibits, kept.laws.interlock, kept.laws.isolation⟩

end
end

section
/-! SUPPORT. The switching requests between the links: what SWC does of them does not read the replies that stand at the ports (R84 to R87,
R96, R163). -/

namespace Sys2Proof

theorem SwitchId.ofNum_of_lt {k : Nat} (h : 4 < k) : SwitchId.ofNum k = none := by
  obtain ⟨j, rfl⟩ := Nat.exists_eq_add_of_lt h
  rw [Nat.add_assoc, Nat.add_comm 4]
  rfl

end Sys2Proof

namespace Sys2Proof.Machine

/-! ## SWC reads no link -/

/-- What an operation does, it does whatever stands at the ports. -/
def LinksApart (f : Device → Device) : Prop := ∀ (d : Device) (l : Pif), f { d with pif := l } = { f d with pif := l }

theorem LinksApart.comp {f g : Device → Device} (hf : LinksApart f) (hg : LinksApart g) : LinksApart fun d => f (g d) :=
  fun d l => (congrArg f (hg d l)).trans (hf (g d) l)

theorem LinksApart.when {f : Device → Device} {b : Device → Bool} (hf : LinksApart f) (hb : ∀ d l, b { d with pif := l } = b d) :
    LinksApart fun d => d.when (b d) f := fun d l => by
  dsimp only
  rw [hb]
  cases b d with
  | true => exact hf d l
  | false => rfl

theorem LinksApart.each {α : Type} {f : α → Device → Device} (hf : ∀ x, LinksApart (f x)) (xs : List α) :
    LinksApart fun d => d.each xs f := by
  induction xs with
  | nil => exact fun _ _ => rfl
  | cons x xs ih => exact ih.comp (hf x)

theorem linksApart_breakerChanged : LinksApart Device.duBreakerChanged := fun d l => by
  have same : ({ d with pif := l } : Device).breakerClosed = d.breakerClosed := rfl
  simp only [Device.duBreakerChanged, Device.duRefresh_eq, same]
  cases d.breakerClosed <;> rfl

theorem linksApart_changeState (n : SwitchId) (st : SwitchState) (timer : Option Nat) : LinksApart (·.changeState n st timer) := by
  intro d l
  cases n with
  | g =>
    exact linksApart_breakerChanged ((((d.modSw .g fun r =>
      { r with state := st, selection := none, openDelay := none, timer := timer }).modSwc fun c =>
        { c with isolationTimer := none }).post (.envelopeRecomputation (.breaker st))).post (.breakerReportGwm st)) l
  | _ => rfl

theorem linksApart_enterOpening (n : SwitchId) : LinksApart (·.enterOpening n) := by
  intro d l
  have finish : LinksApart (·.finishOpen n) := fun d l => by
    simp only [Device.finishOpen, linksApart_changeState n .opened none d l]
    rfl
  simp only [Device.enterOpening]
  cases d.pins.feedback.get n with
  | true => exact linksApart_changeState n _ _ d l
  | false => exact finish d l

theorem linksApart_forceOpen (n : SwitchId) : LinksApart (·.forceOpen n) := by
  intro d l
  have state : (({ d with pif := l } : Device).sw n).state = (d.sw n).state := rfl
  have aborts := linksApart_enterOpening n (d.setResult n .aborted) l
  simp only [Device.forceOpen, state]
  cases (d.sw n).state with
  | closed => exact linksApart_enterOpening n d l
  | precharging | closing => exact aborts
  | _ => rfl

/-- R82, R99: the end of an event. -/
theorem linksApart_swcEnd : LinksApart Device.swcEnd := by
  have strings : LinksApart Device.stringsOpened :=
    LinksApart.each (fun n : StringId => (linksApart_forceOpen n.switch).when
      (b := fun d => (d.sw n.switch).state == .closed) fun _ _ => rfl) _
  have opens : LinksApart Device.isolationOpens := strings.when (b := fun d => d.atRest .g) fun _ _ => rfl
  have ends : LinksApart fun d : Device => d.when (SwitchId.all.all d.atRest) (·.inIsolation .isolated) :=
    LinksApart.when (fun _ _ => rfl) fun _ _ => rfl
  intro d l
  have step : ({ d with pif := l } : Device).isolationStep = { d.isolationStep with pif := l } := by
    by_cases on : d.swc.isolation = .isolating
    · rw [Device.isolationStep_isolating on, Device.isolationStep_isolating (d := { d with pif := l }) on]
      exact ends.comp opens d l
    · rw [Device.isolationStep_other on, Device.isolationStep_other (d := { d with pif := l }) on]
  rw [Device.swcEnd, step]
  rfl

/-- A switch that moves moves so whatever stands at the ports before and after. -/
theorem SwitchMoved.links {d e : Device} {n : SwitchId} {r : SwitchRec} {hs : List Instr} {l l' : Pif}
    (h : SwitchMoved { d with pif := l } e n r hs) : SwitchMoved d { e with pif := l' } n r hs := by
  obtain ⟨m, ⟨set, du⟩, ends⟩ := h
  refine ⟨{ m with pif := d.pif }, ⟨?_, du⟩, ?_⟩
  · rw [set]; rfl
  · rw [linksApart_swcEnd, ends]

theorem Opened.links {d e : Device} {n : SwitchId} {r : SwitchRec} {l l' : Pif}
    (h : Opened { d with pif := l } e n r) : Opened d { e with pif := l' } n r :=
  ⟨fun shut => (h.1 shut).links, fun clear => (h.2 clear).links⟩

/-! ## The checks of the requests -/

/-- R167: the switching right. -/
theorem Device.mayRight_iff (d : Device) (p : Port) (n : SwitchId) : d.mayRight p n = true ↔ MaySwitch d p n := by
  unfold MaySwitch Device.mayRight
  cases n <;> simp [or_comm]

theorem boolNat_eq_zero (b : Bool) : boolNat b = 0 ↔ b = false := by cases b <;> decide

/-- R82: a set of inhibits is not empty exactly where its code is not 0. -/
theorem Inhibits.any_iff (x : Inhibits) : x.any = true ↔ x.code ≠ 0 := by
  rw [← Bool.not_eq_false, not_iff_not]
  simp [Inhibits.any, Inhibits.code, boolNat_eq_zero, and_assoc]

/-- The word that names an action. -/
def Action.value (a : Action) : Word := match a with | .close => 1 | .opening => 2

theorem Action.ofValue_value (a : Action) : Action.ofValue a.value = some a := by cases a <;> rfl

theorem Action.ofValue_other {v : Word} (h : v ≠ 1 ∧ v ≠ 2) : Action.ofValue v = none := by
  rw [Action.ofValue, if_neg h.1, if_neg h.2]

/-- A request on which its owner acts whatever stands at the ports. -/
theorem request_applies {s : State} {p : Port} {f : Frame} {act : Device → Device × Answer} {g : Device → Device} {a : Answer}
    (apart : LinksApart g) (keeps : (g s.dev).pif = s.dev.pif) (hrun : (s.dev.link p).running = true) (hchk : f.check = crc8 f.body)
    (hact : act (s.dev.clockOut p) = (g (s.dev.clockOut p), a)) :
    Replies s (s.on (·.request p f act)) p f.kind a.result a.value (g s.dev) := by
  refine request_replies hrun hchk (g s.dev) a (by rw [keeps]) (hact.trans (congrArg (·, a) ?_))
  rw [keeps]
  exact apart s.dev (s.dev.clockOut p).pif

/-- The answer of a request pends at its port. -/
theorem Replies.pending {s t : State} {p : Port} {kind : Byte} {r : Result} {v : Option Word} {d : Device} (h : Replies s t p kind r v d) :
    ∃ x, (t.dev.link p).pending = some ⟨kind, r, x⟩ ∧ ∀ y, v = some y → x = y := by
  obtain ⟨-, x, n, value, stands⟩ := h
  refine ⟨x, ?_, fun y same => (value y same).1⟩
  have link : t.dev.link p = ⟨some ⟨kind, r, x⟩, true, some (s.dev.carriedOut p)⟩ := by
    rw [stands]
    exact (PerPort.get_set _ p p _).trans (if_pos rfl)
  rw [link]

/-- R91: an opening keeps the failure flag. -/
theorem SwitchRec.openingAt_failure (n : SwitchId) (shut : Bool) (r : SwitchRec) : (r.openingAt n shut).failure = r.failure := by
  unfold SwitchRec.openingAt
  split <;> rfl

/-- R82: FAILED stands after an event as the flag stood before its end. -/
theorem Device.swcEnd_failed (d : Device) (n : SwitchId) : (d.swcEnd.sw n).inhibits.failed = (d.sw n).failure := by
  have failed : (d.swcEnd.sw n).inhibits.failed = true ↔ (d.swcEnd.sw n).failure = true := (d.isolationStep.deriveInhibits_law.1 n).2.1
  have kept : (d.swcEnd.sw n).failure = (d.sw n).failure := by
    rw [d.swcEnd_sw, d.isolationStep_sw]
    split
    · exact SwitchRec.openingAt_failure _ _ _
    · rfl
  rw [← kept, Bool.eq_iff_iff, failed]

/-- R96: the flags of one switch cleared. -/
def Device.flagsCleared (n : SwitchId) (d : Device) : Device := d.modSw n fun r => { r with failure := false, interrupted := false }

/-- R96: the rows of CLEAR_SWITCH on a known switch. -/
theorem swcClear_named {n : SwitchId} {v : Word} (named : n.num = v.toNat) (p : Port) (d : Device) : swcClear p v d =
    if ¬MaySwitch d p n then (d, .no .denied)
    else if d.standing p ≠ .inStanding then (d, .no .noStanding)
    else if (d.sw n).state = .welded then (d, .stateOpen)
    else ((d.flagsCleared n).swcEnd, .done) := by
  unfold swcClear
  rw [← named, SwitchId.ofNum_num]
  simp only [Bool.not_eq_true', ← Bool.not_eq_true, d.mayRight_iff]
  rfl

end Sys2Proof.Machine

section
open Sys2Proof Sys2Proof.Machine

/-- Settles O28: the rows in turn; the end of the event derives the FAILED inhibit from the flag that is cleared. -/
theorem clearSwitchClearsTheFlags : Obligations.ClearSwitchClearsTheFlags := by
  intro p f s h
  obtain ⟨r, hr, hrun, hchk⟩ := h
  cases hr
  refine ⟨_, rfl, fun high => ?_, fun n named => ⟨fun no => ?_, fun may no => ?_, fun may on welded => ?_, fun may on free => ?_⟩⟩
  · exact request_refuses hrun hchk .range (by unfold swcClear; rw [SwitchId.ofNum_of_lt high])
  · exact request_refuses hrun hchk .denied ((swcClear_named named _ _).trans (if_pos no))
  · exact request_refuses hrun hchk .noStanding ((swcClear_named named _ _).trans ((if_neg (not_not.mpr may)).trans (if_pos no)))
  · exact request_replies hrun hchk s.dev .stateOpen rfl
      ((swcClear_named named _ _).trans ((if_neg (not_not.mpr may)).trans ((if_neg (not_not.mpr on)).trans (if_pos welded))))
  · have acts := (swcClear_named named p (s.dev.clockOut p)).trans
      ((if_neg (not_not.mpr may)).trans ((if_neg (not_not.mpr on)).trans (if_neg free)))
    have apart : LinksApart fun d => (d.flagsCleared n).swcEnd := linksApart_swcEnd.comp fun _ _ => rfl
    have replied := request_applies (act := swcClear p f.value) (f := f.frame 7) apart (swcEnd_only _ .pif (by decide)) hrun hchk acts
    have failed : ((s.dev.flagsCleared n).swcEnd.sw n).inhibits.failed = false := by
      rw [Device.swcEnd_failed, Device.flagsCleared, Device.modSw_sw, if_pos rfl]
    have csu : (s.dev.flagsCleared n).swcEnd.csu = s.dev.csu := swcEnd_only _ .csu (by decide)
    refine ⟨replied, ?_⟩
    obtain ⟨-, value, k, -, stands⟩ := replied
    exact stands.symm ▸ ⟨failed, csu⟩

end
end

section
/-! SUPPORT. SELECT and CANCEL, row by row (R84 to R86). -/

namespace Sys2Proof.Machine

/-! ## SELECT -/

theorem SwitchState.moving_iff (st : SwitchState) : st.moving = true ↔ st = .precharging ∨ st = .closing ∨ st = .opening := by
  cases st <;> simp [SwitchState.moving]

/-- R84: the switch already stands where the action would bring it, or is WELDED. -/
theorem Action.ends_iff (a : Action) (st : SwitchState) :
    (st = a.endState ∨ st = .welded) ↔ (st = .welded ∨ a = .close ∧ st = .closed ∨ a = .opening ∧ st = .opened) := by
  cases a <;> cases st <;> simp [Action.endState]

/-- R84: the switch whose selection a SELECT takes. -/
def Device.selected (p : Port) (n : SwitchId) (a : Action) (d : Device) : Device :=
  d.modSw n fun r => { r with selection := some ⟨p, a, 1000 * d.itemNat .t11 17⟩ }

section
variable {d : Device} {p : Port} {n : SwitchId} {a : Action}

theorem selectOn_denied (no : ¬MaySwitch d p n) : d.selectOn p n a = (d, .no .denied) := by
  have right : d.mayRight p n = false := Bool.eq_false_iff.mpr (mt (d.mayRight_iff p n).mp no)
  simp [Device.selectOn, right]

variable (may : MaySwitch d p n)
include may

theorem selectOn_noStanding (no : d.standing p ≠ .inStanding) : d.selectOn p n a = (d, .no .noStanding) := by
  simp [Device.selectOn, (d.mayRight_iff p n).mpr may, no]

variable (on : d.standing p = .inStanding)
include on

theorem selectOn_holds (held : ∃ m x, (d.sw m).selection = some x ∧ x.holder = p) : d.selectOn p n a = (d, .stateOpen) := by
  simp only [Device.selectOn, (d.mayRight_iff p n).mpr may, on, (d.any_holds_iff p).mpr held]
  rfl

variable (first : ¬∃ m x, (d.sw m).selection = some x ∧ x.holder = p)
include first

theorem selectOn_busy (busy : (d.sw n).selection ≠ none ∨ (d.sw n).state.moving = true) : d.selectOn p n a = (d, .no .busy) := by
  have rests : ((d.sw n).selection.isSome || (d.sw n).state.moving) = true := by
    simpa [Option.isSome_iff_ne_none] using busy
  simp [Device.selectOn, (d.mayRight_iff p n).mpr may, on, mt (d.any_holds_iff p).mp first, rests]

variable (unselected : (d.sw n).selection = none) (still : ¬(d.sw n).state.moving = true)
include unselected still

theorem selectOn_done (done : (d.sw n).state = a.endState ∨ (d.sw n).state = .welded) : d.selectOn p n a = (d, .stateOpen) := by
  simp [Device.selectOn, (d.mayRight_iff p n).mpr may, on, mt (d.any_holds_iff p).mp first, unselected, still, done]

variable (moves : ¬((d.sw n).state = a.endState ∨ (d.sw n).state = .welded))
include moves

theorem selectOn_refused (refused : a = .close ∧ (d.sw n).inhibits.any = true) : d.selectOn p n a = d.refuse n := by
  obtain ⟨rfl, any⟩ := refused
  simp [Device.selectOn, (d.mayRight_iff p n).mpr may, on, mt (d.any_holds_iff p).mp first, unselected, still, moves, any]

theorem selectOn_selected (free : ¬(a = .close ∧ (d.sw n).inhibits.any = true)) : d.selectOn p n a = (d.selected p n a, .done) := by
  simp [Device.selectOn, (d.mayRight_iff p n).mpr may, on, mt (d.any_holds_iff p).mp first, unselected, still, moves, free,
    Device.selected]

end

/-- R84, R166: a SELECT or an OPERATE reaches the switch and the action that it names. -/
theorem pifSelect_named {f : ItemFrame} {n : SwitchId} {a : Action} (table : f.table = 7) (named : n.num = f.index.toNat)
    (value : f.value = a.value) (p : Port) (d : Device) : pifSelect p f d = d.selectOn p n a := by
  simp only [pifSelect, swcSelect, table, ← named, SwitchId.ofNum_num, value, Action.ofValue_value]
  rfl

theorem pifSelect_unknown {f : ItemFrame} (h : f.table ≠ 7 ∨ 4 < f.index.toNat) (p : Port) (d : Device) :
    pifSelect p f d = (d, .no .unknownItem) := by
  unfold pifSelect swcSelect
  split
  · rfl
  · next table =>
    rw [SwitchId.ofNum_of_lt (h.resolve_left table)]

theorem pifSelect_range {f : ItemFrame} {n : SwitchId} (table : f.table = 7) (named : n.num = f.index.toNat)
    (value : f.value ≠ 1 ∧ f.value ≠ 2) (p : Port) (d : Device) : pifSelect p f d = (d, .no .range) := by
  simp only [pifSelect, swcSelect, table, ← named, SwitchId.ofNum_num, Action.ofValue_other value]
  rfl

/-! ## CANCEL -/

/-- R85: CANCEL with no selection of the port. -/
theorem swcCancel_none {d : Device} {p : Port} (none : ∀ n x, (d.sw n).selection = some x → x.holder ≠ p) :
    swcCancel p d = (d, .stateOpen) := by
  have found : SwitchId.all.find? (d.holds p) = .none := List.find?_eq_none.mpr fun n _ held => by
    obtain ⟨x, selected, mine⟩ := (d.holds_iff p n).mp held
    exact none n x selected mine
  unfold swcCancel
  rw [found]

/-- R85: CANCEL finds the one switch that the port has selected. -/
theorem swcCancel_held {d : Device} {p : Port} {n : SwitchId} {x : Selection} (held : (d.sw n).selection = some x) (mine : x.holder = p)
    (law : SelectionLaw d) : swcCancel p d = (d.dropSelection n, .done) := by
  unfold swcCancel
  cases found : SwitchId.all.find? (d.holds p) with
  | none =>
    have free := List.find?_eq_none.mp found n n.mem_all
    exact absurd ((d.holds_iff p n).mpr ⟨x, held, mine⟩) free
  | some m =>
    obtain ⟨y, other, same⟩ := (d.holds_iff p m).mp (List.find?_some found)
    rw [law.2 m n y x other held (same.trans mine.symm)]

end Sys2Proof.Machine

section
open Sys2Proof Sys2Proof.Machine

/-- Settles O34: the rows of `Device.selectOn` in turn. -/
theorem selectRecordsTheSelection : Obligations.SelectRecordsTheSelection := by
  intro p f s h
  obtain ⟨r, hr, hrun, hchk⟩ := h
  cases hr
  refine ⟨_, rfl, fun unknown => request_refuses hrun hchk .unknownItem (pifSelect_unknown unknown _ _), fun n table named => ?_⟩
  intro r holds moving set
  refine ⟨fun value => request_refuses hrun hchk .range (pifSelect_range table named value _ _), fun a value => ?_⟩
  have acts : ∀ d, pifSelect p f d = d.selectOn p n a := pifSelect_named table named value p
  have moves : r.state.moving = true ↔ moving := SwitchState.moving_iff _
  refine ⟨fun no => ?_, fun may no => ?_, fun may on => ⟨fun held => ?_, fun first busy => ?_, fun first unselected still => ?_⟩⟩
  · exact request_refuses hrun hchk .denied ((acts _).trans (selectOn_denied no))
  · exact request_refuses hrun hchk .noStanding ((acts _).trans (selectOn_noStanding may no))
  · exact request_replies hrun hchk s.dev .stateOpen rfl ((acts _).trans (selectOn_holds may on held))
  · exact request_refuses hrun hchk .busy ((acts _).trans (selectOn_busy may on first (busy.imp_right moves.mpr)))
  · intro refused done
    have any : refused ↔ a = .close ∧ r.inhibits.any = true := and_congr_right fun _ => r.inhibits.any_iff.symm
    have ends : done ↔ r.state = a.endState ∨ r.state = .welded := (a.ends_iff r.state).symm
    have quiet := mt moves.mp still
    refine ⟨fun stands => ?_, fun starts no => ?_, fun starts free => ?_⟩
    · exact request_replies hrun hchk s.dev .stateOpen rfl
        ((acts _).trans (selectOn_done may on first unselected quiet (ends.mp stands)))
    · exact request_replies hrun hchk _ ⟨.refused, some (word r.inhibits.code)⟩ rfl
        ((acts _).trans (selectOn_refused may on first unselected quiet (mt ends.mpr starts) (any.mp no)))
    · exact request_replies hrun hchk _ .done rfl
        ((acts _).trans (selectOn_selected may on first unselected quiet (mt ends.mpr starts) (mt any.mpr free)))

/-- Settles O36: CANCEL finds the one selection that its port holds, and the expiry removes the switch's own. -/
theorem selectionsEndByCancelAndTimeout : Obligations.SelectionsEndByCancelAndTimeout := by
  refine ⟨fun p f s h => ?_, fun n s selected => ?_⟩
  · obtain ⟨r, hr, hrun, hchk⟩ := h
    cases hr
    refine ⟨_, rfl, fun none => ?_, fun n x held mine law => ?_⟩
    · exact request_replies hrun hchk s.dev .stateOpen rfl (swcCancel_none none)
    · exact request_replies hrun hchk _ .done rfl (swcCancel_held held mine law)
  · rw [execSelectExpiry_eq, Option.isSome_iff_ne_none.mpr selected]
    cases n <;> rfl

end
end

section
/-! SUPPORT. OPERATE, row by row (R87, R88, R90, R91). -/

namespace Sys2Proof.Machine

section
variable {d : Device} {p : Port} {n : SwitchId} {a : Action}

theorem operateOn_noStanding (no : d.standing p ≠ .inStanding) : d.operateOn p n a = (d, .no .noStanding) := by
  simp [Device.operateOn, no]

variable (on : d.standing p = .inStanding)
include on

theorem operateOn_unheld (unheld : ¬∃ x, (d.sw n).selection = some x ∧ x.holder = p) : d.operateOn p n a = (d, .stateOpen) := by
  have free : d.holds p n = false := Bool.eq_false_iff.mpr (mt (d.holds_iff p n).mp unheld)
  cases held : (d.sw n).selection with
  | none => simp [Device.operateOn, on, held, free, Device.when]
  | some x =>
    have other : x.holder ≠ p := fun mine => unheld ⟨x, held, mine⟩
    simp [Device.operateOn, on, held, free, other, Device.when]

theorem operateOn_other {x : Selection} (held : (d.sw n).selection = some x) (mine : x.holder = p) (other : x.action ≠ a) :
    d.operateOn p n a = (d.dropSelection n, .stateOpen) := by
  simp [Device.operateOn, on, held, other, Device.holds, mine, Device.when]

variable {x : Selection} (held : (d.sw n).selection = some x) (mine : x.holder = p) (same : x.action = a)
include held mine same

theorem operateOn_refused (refused : a = .close ∧ (d.sw n).inhibits.any = true) :
    d.operateOn p n a = (d.dropSelection n).refuse n := by
  obtain ⟨rfl, any⟩ := refused
  simp [Device.operateOn, on, held, mine, same, any]

theorem operateOn_starts (free : ¬(a = .close ∧ (d.sw n).inhibits.any = true)) :
    d.operateOn p n a = ((d.startOperation n a).swcEnd, .done) := by
  simp [Device.operateOn, on, held, mine, same, free]

end

/-- R87, R88, R90: a close begins. -/
theorem Device.startOperation_close (d : Device) (n : SwitchId) : SwitchMoved d (d.startOperation n .close).swcEnd n
    { d.sw n with
      state := if n = .g then .closing else .precharging
      selection := none
      interrupted := false
      openDelay := none
      timer := some (if n = .g then 150 else 5000) } [] := by
  have begun := fun st timer => (d.modSw n fun r => { r with interrupted := false }).changeState_set n st timer
  refine SwitchMoved.marked (f := fun r => { r with interrupted := false }) ⟨d.startOperation n .close, ?_, rfl⟩
  rw [List.append_nil]
  cases n with
  | g => exact begun .closing (some 150)
  | _ => exact begun .precharging (some 5000)

theorem linksApart_startOperation (n : SwitchId) (a : Action) : LinksApart (·.startOperation n a) := by
  have closes := fun st timer => (linksApart_changeState n st timer).comp (g := fun d => d.modSw n fun r => { r with interrupted := false })
    fun _ _ => rfl
  cases a with
  | opening => exact linksApart_enterOpening n
  | close =>
    cases n with
    | g => exact closes .closing (some 150)
    | _ => exact closes .precharging (some 5000)

/-- R87: the marks of a refused close on the switch whose selection is gone. -/
theorem Device.dropSelection_refuse (d : Device) (n : SwitchId) : (d.dropSelection n).refuse n =
    (d.withSwitch n { d.sw n with
        selection := none, lastResult := .refused, badJoin := (d.sw n).badJoin || (d.sw n).inhibits.mismatch },
      ⟨.refused, some (word (d.sw n).inhibits.code)⟩) := by
  cases n <;> rfl

/-- R87, R166: an OPERATE reaches the switch and the action that it names. -/
theorem pifOperate_named {f : ItemFrame} {n : SwitchId} {a : Action} (table : f.table = 7) (named : n.num = f.index.toNat)
    (value : f.value = a.value) (p : Port) (d : Device) : pifOperate p f d = d.operateOn p n a := by
  simp only [pifOperate, swcOperate, table, ← named, SwitchId.ofNum_num, value, Action.ofValue_value]
  rfl

theorem pifOperate_unknown {f : ItemFrame} (h : f.table ≠ 7 ∨ 4 < f.index.toNat) (p : Port) (d : Device) :
    pifOperate p f d = (d, .no .unknownItem) := by
  unfold pifOperate swcOperate
  split
  · rfl
  · next table =>
    rw [SwitchId.ofNum_of_lt (h.resolve_left table)]

theorem pifOperate_range {f : ItemFrame} {n : SwitchId} (table : f.table = 7) (named : n.num = f.index.toNat)
    (value : f.value ≠ 1 ∧ f.value ≠ 2) (p : Port) (d : Device) : pifOperate p f d = (d, .no .range) := by
  simp only [pifOperate, swcOperate, table, ← named, SwitchId.ofNum_num, Action.ofValue_other value]
  rfl

end Sys2Proof.Machine

section
open Sys2Proof Sys2Proof.Machine

/-- Settles O35: the rows of `Device.operateOn` in turn, and the starts of a close and of an opening. -/
theorem operateStartsTheOperation : Obligations.OperateStartsTheOperation := by
  intro p f s h
  obtain ⟨r, hr, hrun, hchk⟩ := h
  cases hr
  refine ⟨_, rfl, fun unknown => request_refuses hrun hchk .unknownItem (pifOperate_unknown unknown _ _), fun n table named => ?_⟩
  intro r set answers
  refine ⟨fun value => request_refuses hrun hchk .range (pifOperate_range table named value _ _),
    fun a value => ⟨fun no => ?_, fun on => ?_⟩⟩
  all_goals have acts : ∀ d, pifOperate p f d = d.operateOn p n a := pifOperate_named table named value p
  · exact request_refuses hrun hchk .noStanding ((acts _).trans (operateOn_noStanding no))
  intro mine match_ refused
  have any : refused ↔ a = .close ∧ r.inhibits.any = true := and_congr_right fun _ => r.inhibits.any_iff.symm
  refine ⟨fun unheld => ?_, fun held other => ?_, fun held no => ?_, fun held free => ?_⟩
  · exact request_replies hrun hchk s.dev .stateOpen rfl ((acts _).trans (operateOn_unheld on unheld))
  · obtain ⟨x, selected, holder⟩ := held
    have differs : x.action ≠ a := fun same => other ⟨x, selected, holder, same⟩
    exact request_replies hrun hchk _ .stateOpen rfl ((acts _).trans (operateOn_other on selected holder differs))
  · obtain ⟨x, selected, holder, same⟩ := held
    have marks := (acts (s.dev.clockOut p)).trans
      ((operateOn_refused (d := s.dev.clockOut p) on selected holder same (any.mp no)).trans ((s.dev.clockOut p).dropSelection_refuse n))
    exact request_replies hrun hchk (set _) ⟨.refused, some (word r.inhibits.code)⟩ rfl marks
  · obtain ⟨x, selected, holder, same⟩ := held
    have starts := (acts (s.dev.clockOut p)).trans (operateOn_starts (d := s.dev.clockOut p) on selected holder same (mt any.mpr free))
    have apart : LinksApart fun d => (d.startOperation n a).swcEnd := linksApart_swcEnd.comp (linksApart_startOperation n a)
    have keeps : (s.dev.startOperation n a).swcEnd.pif = s.dev.pif :=
      ((startOperation_only s.dev n a).swcEnd) .pif (by decide)
    have replied := request_applies (act := pifOperate p f) (f := f.frame kindOperate) apart keeps hrun hchk starts
    obtain ⟨v, pends, -⟩ := replied.pending
    obtain ⟨-, _, _, -, stands⟩ := replied
    refine ⟨⟨⟨7, .ok, v⟩, pends, rfl, rfl⟩, fun close => ?_, fun opens => ?_⟩
    · rw [stands]
      subst close
      exact (s.dev.startOperation_close n).links (l := s.dev.pif)
    · rw [stands]
      subst opens
      exact (s.dev.enterOpening_opened n).links (l := s.dev.pif)

end
end

section
/-! SUPPORT. The isolation request (R98, R99). -/

namespace Sys2Proof.Machine

/-! ## What an operation of SWC tells comes after what stood -/

/-- The hand-offs of the part have grown at their end. -/
def Tells (d e : Device) : Prop := ∃ hs, e.handoffs = d.handoffs ++ hs

theorem Tells.refl (d : Device) : Tells d d := ⟨[], (List.append_nil _).symm⟩

theorem Tells.trans {d m e : Device} (h : Tells d m) (k : Tells m e) : Tells d e := by
  obtain ⟨xs, first⟩ := h
  obtain ⟨ys, more⟩ := k
  exact ⟨xs ++ ys, by rw [more, first, List.append_assoc]⟩

theorem SwitchSet.tells {d m : Device} {n : SwitchId} {r : SwitchRec} {hs : List Instr} (h : SwitchSet d m n r hs) : Tells d m :=
  ⟨hs, congrArg (·.handoffs) h.1⟩

theorem Device.enterOpening_tells (d : Device) (n : SwitchId) : Tells d (d.enterOpening n) := by
  obtain ⟨shut, clear⟩ := d.enterOpening_set n
  cases h : d.pins.feedback.get n with
  | true => exact (shut h).tells
  | false => exact (clear h).tells

theorem Device.forceOpen_tells (d : Device) (n : SwitchId) : Tells d (d.forceOpen n) := by
  have aborts : Tells d ((d.setResult n .aborted).enterOpening n) := (d.setResult n .aborted).enterOpening_tells n
  unfold Device.forceOpen
  split
  · exact d.enterOpening_tells n
  · exact aborts
  · exact aborts
  all_goals exact .refl d

theorem Device.swcEnd_tells (d : Device) : Tells d d.swcEnd := by
  have opens : Tells d d.isolationOpens :=
    Device.when_keeps (.refl d) fun _ => Device.each_keeps (.refl d) fun s _ h =>
      Device.when_keeps h fun h => h.trans (Device.forceOpen_tells _ s.switch)
  have steps : Tells d d.isolationStep := by
    by_cases on : d.swc.isolation = .isolating
    · rw [Device.isolationStep_isolating on]
      exact Device.when_keeps (f := (·.inIsolation .isolated)) opens fun h => h
    · rw [Device.isolationStep_other on]
      exact .refl d
  exact steps

/-! ## The start of the sequence (R99) -/

theorem Device.swcEnd_state (d : Device) (n : SwitchId) : (d.swcEnd.sw n).state = (d.isolationStep.sw n).state := by
  rw [d.swcEnd_sw]

theorem Device.swcEnd_status (d : Device) : d.swcEnd.swc.isolation = d.isolationStep.swc.isolation := rfl

theorem Device.swcEnd_timer (d : Device) : d.swcEnd.swc.isolationTimer = d.isolationStep.swc.isolationTimer := rfl

/-- R99, step 1: the isolation timer starts where the breaker is CLOSED. -/
def Device.timerBegun (d : Device) : Device := d.when d.breakerClosed Device.timerStarted

theorem Device.timerBegun_sw (d : Device) (n : SwitchId) : d.timerBegun.sw n = d.sw n := by
  unfold Device.timerBegun Device.when
  split <;> rfl

theorem Device.timerBegun_status (d : Device) : d.timerBegun.swc.isolation = d.swc.isolation := by
  unfold Device.timerBegun Device.when
  split <;> rfl

theorem Device.timerBegun_tells (d : Device) : Tells d d.timerBegun := by
  unfold Device.timerBegun Device.when
  split <;> exact .refl d

theorem Device.timerBegun_timer {d : Device} (closed : (d.sw .g).state = .closed) : d.timerBegun.swc.isolationTimer = some 2000 := by
  have shut : d.breakerClosed = true := beq_iff_eq.mpr closed
  unfold Device.timerBegun
  rw [shut]
  rfl

/-- The part as the sequence starts, before its first look at the switches. -/
def Device.isolationBegun (d : Device) : Device := (d.inIsolation .isolating).closingAborted.timerBegun

theorem Device.isolationStart_begun (d : Device) : d.isolationStart = d.isolationBegun.swcEnd := rfl

theorem Device.isolationStart_tells (d : Device) : Tells d d.isolationStart := by
  have aborts : Tells (d.inIsolation .isolating) (d.inIsolation .isolating).closingAborted :=
    Device.each_keeps (.refl _) fun n _ h => Device.when_keeps h fun h => h.trans (Device.forceOpen_tells _ n)
  rw [Device.isolationStart_begun]
  exact (Tells.trans aborts (Device.timerBegun_tells _)).trans (Device.swcEnd_tells _)

/-- R99: the sequence has begun, whatever the switches do. -/
theorem isolatingStatus_within : SwitchingInvariant (·.swc.isolation = .isolating) where
  apart only free h := by rw [only .swc free.2.1]; exact h
  mark _ _ h := h
  move {d n st timer} _ h := by rw [d.changeState_swc]; exact h

theorem Device.isolationBegun_status (d : Device) : d.isolationBegun.swc.isolation = .isolating := by
  have aborted := isolatingStatus_within.closingAborted (d := d.inIsolation .isolating) rfl
  rw [Device.isolationBegun, Device.timerBegun_status]
  exact aborted

theorem Device.isolationBegun_sw (d : Device) (n : SwitchId) : d.isolationBegun.sw n = (d.inIsolation .isolating).closingAborted.sw n := by
  rw [Device.isolationBegun, Device.timerBegun_sw]

/-- R99: the status has left RELEASED. -/
theorem Device.isolationStart_on (d : Device) : d.isolationStart.swc.isolation ≠ .released := by
  rw [Device.isolationStart_begun, Device.swcEnd_status]
  obtain ⟨-, now⟩ | ⟨-, now⟩ := Device.isolationStep_status d.isolationBegun_status <;> rw [now] <;> decide

theorem Device.isolationStart_still (d : Device) (n : SwitchId) :
    (d.isolationStart.sw n).state ≠ .precharging ∧ (d.isolationStart.sw n).state ≠ .closing := by
  rw [Device.isolationStart_begun, Device.swcEnd_state]
  obtain ⟨charge, close⟩ := (d.inIsolation .isolating).closingAborted_still n
  rw [← d.isolationBegun_sw] at charge close
  exact ⟨fun same => charge (Device.isolationStep_state same (.inl rfl)),
    fun same => close (Device.isolationStep_state same (.inr (.inl rfl)))⟩

/-- R99, steps 1 and 2: a CLOSED breaker stays until the power has gone or the timer runs out. -/
theorem Device.isolationStart_waits {d : Device} (closed : (d.sw .g).state = .closed) :
    d.isolationStart.swc.isolation = .isolating ∧ (d.isolationStart.sw .g).state = .closed ∧
      d.isolationStart.swc.isolationTimer = some 2000 := by
  have kept : ((d.inIsolation .isolating).closingAborted.sw .g).state = .closed := by
    have same : ((d.inIsolation .isolating).sw .g).state = .closed := closed
    rw [Device.closingAborted_sw, if_neg (by simp [same])]
    exact same
  have breaker : (d.isolationBegun.sw .g).state = .closed := by rw [d.isolationBegun_sw]; exact kept
  have timer : d.isolationBegun.swc.isolationTimer = some 2000 := by
    rw [Device.isolationBegun, Device.timerBegun_timer kept]
  have idle : d.isolationBegun.isolationStep = d.isolationBegun := Device.isolationStep_waits fun h => by
    have rest := h.2
    unfold Resting at rest
    simp [breaker] at rest
  rw [Device.isolationStart_begun, Device.swcEnd_state, Device.swcEnd_status, Device.swcEnd_timer, idle]
  exact ⟨d.isolationBegun_status, breaker, timer⟩

theorem Device.isolationStart_rests {d : Device} (rest : ∀ n, Resting d n) : d.isolationStart.swc.isolation = .isolated := by
  obtain ⟨i, ends, -, e⟩ := Device.isolationStart_away fun n => .inl (rest n)
  rw [e]
  exact ends rest

/-! ## The request (R98) -/

/-- R98: the request stored, and ENV told. -/
def Device.requested (v : Int) (d : Device) : Device := (d.setItem .t11 16 v).post (.envelopeRecomputation (.isolation (v == 1)))

/-- R98, R99: what a request that is taken does in a status. -/
def Device.isolationTaken (i : IsolationStatus) (v : Int) (d : Device) : Device :=
  match i with
  | .isolating => d
  | .released => if v = 1 then (d.requested v).isolationStart else (d.requested v).swcEnd
  | .isolated => if v = 1 then d.requested v else ((d.requested v).inIsolation .released).swcEnd

theorem swcIsolationWrite_isolating {d : Device} (on : d.swc.isolation = .isolating) (v : Int) :
    swcIsolationWrite v d = (d, .stateOpen) := by
  unfold swcIsolationWrite
  rw [on]

theorem swcIsolationWrite_taken {d : Device} (idle : d.swc.isolation ≠ .isolating) (v : Int) :
    swcIsolationWrite v d = (d.isolationTaken d.swc.isolation v, .ok v) := by
  have asked : (d.setItem .t11 16 v).post (.envelopeRecomputation (.isolation (v == 1))) = d.requested v := rfl
  unfold swcIsolationWrite Device.isolationTaken
  simp only [asked, beq_iff_eq]
  cases on : d.swc.isolation with
  | isolating => exact absurd on idle
  | released | isolated => by_cases one : v = 1 <;> simp only [one, ↓reduceIte, Device.inIsolation]

theorem linksApart_isolationStart : LinksApart Device.isolationStart := by
  have aborted : LinksApart Device.closingAborted :=
    LinksApart.each (fun n : SwitchId => (linksApart_forceOpen n).when
      (b := fun d => (d.sw n).state == .precharging || (d.sw n).state == .closing) fun _ _ => rfl) _
  have timed : LinksApart Device.timerBegun :=
    LinksApart.when (f := Device.timerStarted) (b := Device.breakerClosed) (fun _ _ => rfl) fun _ _ => rfl
  have begun := timed.comp (aborted.comp (g := (·.inIsolation .isolating)) fun _ _ => rfl)
  intro d l
  rw [Device.isolationStart_begun, Device.isolationStart_begun]
  exact linksApart_swcEnd.comp begun d l

theorem linksApart_isolationTaken (i : IsolationStatus) (v : Int) : LinksApart (·.isolationTaken i v) := by
  have requested : LinksApart (·.requested v) := fun _ _ => rfl
  unfold Device.isolationTaken
  cases i with
  | isolating => exact fun _ _ => rfl
  | released =>
    dsimp only
    split
    · exact linksApart_isolationStart.comp requested
    · exact linksApart_swcEnd.comp requested
  | isolated =>
    dsimp only
    split
    · exact requested
    · exact linksApart_swcEnd.comp (g := fun d => (d.requested v).inIsolation .released) fun _ _ => rfl

theorem Device.isolationTaken_only (d : Device) (i : IsolationStatus) (v : Int) :
    Only [.handoffs, .swc, .du, .settings, .sto] d (d.isolationTaken i v) := by
  have requested : Only [.handoffs, .swc, .du, .settings, .sto] d (d.requested v) := ((Only.refl _ d).setItem _ _ _).post _
  unfold Device.isolationTaken
  split
  · exact .refl _ d
  · split
    · exact requested.isolationStart
    · exact requested.swcEnd
  · split
    · exact requested
    · exact (requested.modSwc _).swcEnd

/-- R98, R174: the table's kept check follows the request in every status. -/
theorem Device.isolationTaken_stored (d : Device) {i : IsolationStatus} (idle : i ≠ .isolating) (v : Int) :
    (d.isolationTaken i v).sto = (d.requested v).sto ∧ (d.isolationTaken i v).settings = (d.requested v).settings := by
  have starts := isolationStart_only (d.requested v)
  have ends := swcEnd_only (d.requested v)
  have released := ((Only.refl [.handoffs, .swc, .du] (d.requested v)).modSwc fun c => { c with isolation := .released }).swcEnd
  unfold Device.isolationTaken
  split
  · exact absurd rfl idle
  · split
    · exact ⟨starts .sto (by decide), starts .settings (by decide)⟩
    · exact ⟨ends .sto (by decide), ends .settings (by decide)⟩
  · split
    · exact ⟨rfl, rfl⟩
    · exact ⟨released .sto (by decide), released .settings (by decide)⟩

/-- R98: turned off, the request moves no switch. -/
theorem Device.isolationTaken_off (d : Device) {i : IsolationStatus} (status : d.swc.isolation = i) (idle : i ≠ .isolating) :
    let e := d.isolationTaken i 0
    e.swc.isolation = .released ∧ e.handoffs = d.handoffs ++ [.envelopeRecomputation (.isolation false)] ∧
      ∀ n, e.sw n = { d.sw n with inhibits := (e.sw n).inhibits } := by
  have ends : ∀ m : Device, m.swc.isolation = .released → m.swcEnd.swc.isolation = .released ∧ m.swcEnd.handoffs = m.handoffs ∧
      ∀ n, m.swcEnd.sw n = { m.sw n with inhibits := (m.swcEnd.sw n).inhibits } := fun m released => by
    have still : m.isolationStep = m := Device.isolationStep_other (by rw [released]; decide)
    refine ⟨by rw [m.swcEnd_status, still, released], ?_, fun n => by rw [m.swcEnd_sw, still]⟩
    rw [Device.swcEnd, still]
    rfl
  cases i with
  | isolating => exact absurd rfl idle
  | released => exact ends (d.requested 0) status
  | isolated => exact ends ((d.requested 0).inIsolation .released) rfl

theorem writeStored_isolation (d : Device) (v : Int) : d.writeStored .t11 16 v =
    if (rangeOf .t11 16).has v && d.ordered .t11 16 v then swcIsolationWrite v d else (d, .no .range) := by
  have plain : saturates .t11 16 = false := rfl
  unfold Device.writeStored
  simp only [plain, ← Bool.not_and, reduceCtorEq, false_and, and_self, Bool.false_eq_true, ↓reduceIte]
  cases (rangeOf .t11 16).has v && d.ordered .t11 16 v <;> rfl

theorem Admits.isolation {d : Device} {v : Int} (h : Admits d .t11 16 v) : v = 0 ∨ v = 1 := by
  have range : 0 ≤ v ∧ v ≤ 1 := by simpa [rangeOf, range11, Range.has] using h.1
  omega

theorem word_signed (v : Word) : word (signed v) = v := BitVec.ofInt_toInt

end Sys2Proof.Machine

section
open Sys2Proof Sys2Proof.Machine

/-- Settles O22: the rows of R165, then the status, and what the request starts or ends in it. -/
theorem isolationRequestStartsTheSequence : Obligations.IsolationRequestStartsTheSequence := by
  intro p f s long h
  obtain ⟨r, hr, hrun, hchk⟩ := h
  cases hr
  obtain ⟨stopped, passed⟩ := portWrite_gate (s.dev.clockOut p) p 16 f.value .t11 (by decide) rfl nofun
  refine ⟨_, rfl, fun r hr => request_refuses hrun hchk r (stopped r hr.clockOut), fun pass out => ?_, fun pass admits => ?_⟩
  · refine request_refuses hrun hchk .range ((passed pass).trans ((writeStored_isolation _ _).trans (if_neg fun both => out ?_)))
    exact Bool.and_eq_true_iff.mp both
  have reaches := (passed pass).trans
    ((writeStored_isolation (s.dev.clockOut p) (signed f.value)).trans (if_pos (Bool.and_eq_true_iff.mpr admits)))
  refine ⟨fun on => ?_, fun idle => ?_⟩
  · exact request_replies hrun hchk s.dev .stateOpen rfl (reaches.trans (swcIsolationWrite_isolating (d := s.dev.clockOut p) on _))
  obtain ⟨i, status⟩ : ∃ i, s.dev.swc.isolation = i := ⟨_, rfl⟩
  rw [status] at idle ⊢
  have taken : swcIsolationWrite (signed f.value) (s.dev.clockOut p) =
      ((s.dev.clockOut p).isolationTaken i (signed f.value), .ok (signed f.value)) := by
    have same : (s.dev.clockOut p).swc.isolation = i := status
    rw [swcIsolationWrite_taken (by rw [same]; exact idle), same]
  have replied := request_applies (act := portWrite p 11 16 f.value) (f := f.frame kindWrite 11 16)
    (linksApart_isolationTaken i (signed f.value)) (s.dev.isolationTaken_only _ _ .pif (by decide)) hrun hchk (reaches.trans taken)
  obtain ⟨x, pends, told⟩ := replied.pending
  have value : x = f.value := (told _ rfl).trans (word_signed _)
  obtain ⟨sto, settings⟩ := s.dev.isolationTaken_stored idle (signed f.value)
  have item : (s.dev.isolationTaken i (signed f.value)).item .t11 16 = signed f.value := by
    unfold Device.item
    rw [settings]
    exact Device.setItem_isolation long _
  have answer : (Answer.ok (signed f.value)).value = some f.value := congrArg some (word_signed _)
  rw [answer] at replied
  obtain ⟨-, _, _, -, stands⟩ := id replied
  refine ⟨⟨_, pends, by rw [value]; rfl⟩, ?_, fun ⟨one, isolated⟩ => ?_, fun ⟨one, released⟩ => ?_, fun zero => ?_⟩
  · rw [stands, ← Device.setItem_wrote]
    exact sto
  · have on : signed f.value = 1 := by rw [one]; rfl
    have requested : s.dev.isolationTaken i (signed f.value) =
        { s.dev.wrote .t11 16 1 with handoffs := s.dev.handoffs ++ [.envelopeRecomputation (.isolation true)] } := by
      rw [on, isolated, ← Device.setItem_wrote]
      rfl
    exact requested ▸ replied
  · have on : signed f.value = 1 := by rw [one]; rfl
    have starts : s.dev.isolationTaken i (signed f.value) = (s.dev.requested 1).isolationStart := by rw [on, released]; rfl
    rw [starts] at item stands
    rw [on] at item
    obtain ⟨rest, grown⟩ := (s.dev.requested 1).isolationStart_tells
    have told : (s.dev.requested 1).isolationStart.handoffs =
        s.dev.handoffs ++ .envelopeRecomputation (.isolation true) :: rest :=
      grown.trans (List.append_assoc s.dev.handoffs [_] rest)
    have left := (s.dev.requested 1).isolationStart_on
    have still := (s.dev.requested 1).isolationStart_still
    have waits := Device.isolationStart_waits (d := s.dev.requested 1)
    have rests := Device.isolationStart_rests (d := s.dev.requested 1)
    rw [stands]
    generalize (s.dev.requested 1).isolationStart = e at item told left still waits rests
    exact ⟨item, left, ⟨rest, told⟩, still, waits, rests⟩
  · have off : signed f.value = 0 := by rw [zero]; rfl
    rw [off] at item stands
    have ends := s.dev.isolationTaken_off status idle
    rw [stands]
    generalize s.dev.isolationTaken i 0 = e at item ends
    exact ⟨item, ends⟩

end
end

section
/-! SUPPORT. The feedback of a switch and the timers of its operations (R81, R88 to R92). -/

namespace Sys2Proof.Machine

/-! ## An operation and the end of its event -/

theorem Device.weld_welded (d : Device) (n : SwitchId) : Welded d (d.weld n).swcEnd n := ⟨_, d.weld_set n, rfl⟩

theorem Device.failOpen_failed (d : Device) (n : SwitchId) (detail : Nat) : FailedOpen d (d.failOpen n detail).swcEnd n detail :=
  ⟨_, d.failOpen_set n detail, rfl⟩

/-- R91: the end of an opening. -/
theorem Device.finishOpen_moved (d : Device) (n : SwitchId) : SwitchMoved d (d.finishOpen n).swcEnd n
    { d.sw n with
      state := .opened, selection := none, openDelay := none, timer := none
      lastResult := if (d.sw n).lastResult = .aborted then .aborted else .done }
    [.eventOccurrence ⟨.switchDone, .switch n, some 2, false⟩] := ⟨_, d.finishOpen_set n, rfl⟩

/-- R89, R90: the end of a close. -/
def Device.finishClose (n : SwitchId) (d : Device) : Device :=
  ((d.changeState n .closed none).modSw n fun r => { r with badJoin := false, lastResult := .done }).raise .switchDone (.switch n) (some 1)

theorem Device.finishClose_moved (d : Device) (n : SwitchId) : SwitchMoved d (d.finishClose n).swcEnd n
    { d.sw n with
      state := .closed, selection := none, openDelay := none, timer := none, badJoin := false, lastResult := .done }
    [.eventOccurrence ⟨.switchDone, .switch n, some 1, false⟩] :=
  ⟨_, (d.changeState_set n .closed none).then (f := fun r => { r with badJoin := false, lastResult := .done }) rfl _, rfl⟩

/-- R92: a weld that clears. -/
def Device.clearWeld (n : SwitchId) (d : Device) : Device := (d.changeState n .opened none).raise .switchDone (.switch n) (some 3)

theorem Device.clearWeld_moved (d : Device) (n : SwitchId) : SwitchMoved d (d.clearWeld n).swcEnd n
    { d.sw n with state := .opened, selection := none, openDelay := none, timer := none }
    [.eventOccurrence ⟨.switchDone, .switch n, some 3, false⟩] := by
  have same : (d.changeState n .opened none).modSw n id = d.changeState n .opened none := by
    generalize d.changeState n .opened none = m
    cases n <;> rfl
  have set := (d.changeState_set n .opened none).then (f := id) rfl [.eventOccurrence ⟨.switchDone, .switch n, some 3, false⟩]
  rw [same] at set
  exact ⟨_, set, rfl⟩

/-! ## The feedback, by the switch's state (R81) -/

section
variable {d : Device} {n : SwitchId}

theorem feedbackActs_weld (h : (d.sw n).state = .opened ∨ (d.sw n).state = .precharging) : d.feedbackActs n true = d.weld n := by
  unfold Device.feedbackActs
  obtain h | h := h <;> rw [h]

theorem feedbackActs_close (h : (d.sw n).state = .closing) : d.feedbackActs n true = d.finishClose n := by
  unfold Device.feedbackActs
  rw [h]
  rfl

theorem feedbackActs_stays_shut (h : (d.sw n).state = .closed ∨ (d.sw n).state = .opening ∨ (d.sw n).state = .welded) :
    d.feedbackActs n true = d := by
  unfold Device.feedbackActs
  obtain h | h | h := h <;> rw [h]

theorem feedbackActs_dropout (h : (d.sw n).state = .closed) : d.feedbackActs n false = d.failOpen n 4 := by
  unfold Device.feedbackActs
  rw [h]

theorem feedbackActs_open (h : (d.sw n).state = .opening) : d.feedbackActs n false = d.finishOpen n := by
  unfold Device.feedbackActs
  rw [h]

theorem feedbackActs_clear (h : (d.sw n).state = .welded) : d.feedbackActs n false = d.clearWeld n := by
  unfold Device.feedbackActs
  rw [h]
  rfl

theorem feedbackActs_stays_clear (h : (d.sw n).state = .opened ∨ (d.sw n).state = .precharging ∨ (d.sw n).state = .closing) :
    d.feedbackActs n false = d := by
  unfold Device.feedbackActs
  obtain h | h | h := h <;> rw [h]

end

/-- A timer that finds its switch in a state ends the operation, and finds nothing to do in another. -/
theorem expiry_acts {s : State} {i : Instr} {f : Device → Device} {n : SwitchId} {st : SwitchState} {M : Device → Prop}
    (run : exec i s = .next ⟨s.pending, s.dev.when ((s.dev.sw n).state == st) fun d => (f d).swcEnd⟩) (acts : M (f s.dev).swcEnd) :
    ∃ e, exec i s = .next ⟨s.pending, e⟩ ∧ ((s.dev.sw n).state = st → M e) ∧ ((s.dev.sw n).state ≠ st → e = s.dev) := by
  refine ⟨_, run, fun finds => ?_, fun other => ?_⟩
  · rw [beq_iff_eq.mpr finds]
    exact acts
  · rw [beq_eq_false_iff_ne.mpr other]
    rfl

end Sys2Proof.Machine

section
open Sys2Proof Sys2Proof.Machine

/-- Settles O48: by the level and the switch's state, and the three timers by the state in which they find it. -/
theorem feedbackDecidesTheOperation : Obligations.FeedbackDecidesTheOperation := by
  refine ⟨fun n shut s => ⟨fun held => ?_, fun changed => ?_⟩, fun s => ⟨fun n => ?_, fun n => ⟨?_, ?_⟩⟩⟩
  · rw [execFeedbackChange_eq, bne_eq_false_iff_eq.mpr held]
    rfl
  · refine ⟨((s.dev.withFeedback n shut).feedbackActs n shut).swcEnd, ?_, ?_⟩
    · rw [execFeedbackChange_eq, bne_iff_ne.mpr changed]
      rfl
    intro d r done moved
    rw [show s.dev.withFeedback n shut = d from rfl]
    refine ⟨fun level => ?_, fun level => ?_⟩ <;> subst level
    · exact ⟨fun h => feedbackActs_weld h ▸ d.weld_welded n, fun h => feedbackActs_close h ▸ d.finishClose_moved n,
        fun h => congrArg Device.swcEnd (feedbackActs_stays_shut h)⟩
    · exact ⟨fun h => feedbackActs_dropout h ▸ d.failOpen_failed n 4, fun h => feedbackActs_open h ▸ d.finishOpen_moved n,
        fun h => feedbackActs_clear h ▸ d.clearWeld_moved n, fun h => congrArg Device.swcEnd (feedbackActs_stays_clear h)⟩
  · exact expiry_acts (f := (·.failOpen n.switch 1)) rfl (s.dev.failOpen_failed n.switch 1)
  · exact expiry_acts (f := (·.failOpen n 2)) rfl (s.dev.failOpen_failed n 2)
  · exact expiry_acts (f := (·.weld n)) rfl (s.dev.weld_welded n)

end
end

section
/-! SUPPORT. What forces a switch open, and the soft trip (R93 to R95). -/

namespace Sys2Proof.Machine

/-! ## Entry into ALARM or RELEASED -/

theorem FireStage.forces_iff (st : FireStage) : st.forces = true ↔ st = .alarm ∨ st = .released := by
  cases st <;> simp [FireStage.forces]

/-- R93: a switch's record after a forced open, by its state before. -/
theorem SwitchRec.forcedAt_facts (n : SwitchId) (shut : Bool) (r : SwitchRec) :
    let moves := r.state = .closed ∨ r.state = .precharging ∨ r.state = .closing
    let e := r.forcedAt n shut
    e.selection = none ∧ (¬moves → e.state = r.state) ∧
      (moves → e.openDelay = none ∧ e.state = if shut then .opening else .opened) ∧
      (r.state = .precharging ∨ r.state = .closing → e.lastResult = .aborted) := by
  unfold SwitchRec.forcedAt SwitchRec.openingAt
  cases r.state <;> cases shut <;> simp

theorem Device.swcEnd_fireStage (d : Device) : d.swcEnd.swc.fireStage = d.swc.fireStage := congrArg (·.fireStage) d.isolationStep_swc

/-- R93, R99: with every switch forced open nothing is left for the isolation sequence to open. -/
theorem Device.allForced_end (d : Device) (n : SwitchId) : d.allForced.swcEnd.sw n =
    { (d.sw n).forcedAt n (d.pins.feedback.get n) with inhibits := (d.allForced.swcEnd.sw n).inhibits } := by
  have open_ : (d.allForced.sw n).state ≠ .closed := by
    rw [d.allForced_sw]
    obtain (h | h) | h := SwitchRec.forcedAt_state n (d.pins.feedback.get n) (d.sw n) <;> simp [h]
  rw [Device.swcEnd_sw, Device.isolationStep_sw, if_neg fun h => open_ h.2.2, d.allForced_sw]

/-! ## A soft trip (R94, R95) -/

section
variable {d : Device} {n : StringId} {h : Health}

/-- R94: a CLOSED string waits 500 ms before it opens. -/
theorem Device.softTrip_waits (closed : (d.sw n.switch).state = .closed) (fresh : (d.sw n.switch).openDelay = none) :
    d.softTrip n h = { d.withSwitch n.switch { d.sw n.switch with openDelay := some 500 } with
      handoffs := d.handoffs ++ [.envelopeRecomputation (.stringSwitch n .closed true)] } := by
  have report : (d.softTrip n h) = (d.modSw n.switch fun r => { r with openDelay := some 500 }).reportString n := by
    unfold Device.softTrip
    simp only [closed, fresh]
    rfl
  have state : ((d.modSw n.switch fun r => { r with openDelay := some 500 }).sw n.switch).state = .closed := by
    rw [Device.modSw_sw, if_pos rfl, closed]
  have delay : ((d.modSw n.switch fun r => { r with openDelay := some 500 }).sw n.switch).openDelay = some 500 := by
    rw [Device.modSw_sw, if_pos rfl]
  rw [report, Device.reportString, state, delay]
  rfl

/-- R94: one that waits already, or is neither CLOSED nor on the way there, is left. -/
theorem Device.softTrip_stays (quiet : ¬((d.sw n.switch).state = .closed ∧ (d.sw n.switch).openDelay = none))
    (still : ¬((d.sw n.switch).state = .precharging ∨ (d.sw n.switch).state = .closing)) : d.softTrip n h = d := by
  unfold Device.softTrip
  cases state : (d.sw n.switch).state with
  | closed =>
    have waits : (d.sw n.switch).openDelay.isNone = false := by simpa [state, Option.isSome_iff_ne_none] using quiet
    simp only [state, waits]
    rfl
  | precharging | closing => simp [state] at still
  | _ => simp only [state]

/-- R94, R95: a closing string aborts, marked as interrupted where its monitor is gone. -/
theorem Device.softTrip_aborts (closing : (d.sw n.switch).state = .precharging ∨ (d.sw n.switch).state = .closing) :
    d.softTrip n h = (d.withSwitch n.switch
      { d.sw n.switch with interrupted := (d.sw n.switch).interrupted || h == .absent }).forceOpen n.switch := by
  have aborts : d.softTrip n h =
      (d.when (h == .absent) (·.modSw n.switch fun r => { r with interrupted := true })).forceOpen n.switch := by
    unfold Device.softTrip
    obtain state | state := closing <;> simp only [state]
  rw [aborts, Device.when_interrupted]
  rfl

end

end Sys2Proof.Machine

section
open Sys2Proof Sys2Proof.Machine

/-- Settles O49: each cause forces its switch open as `Device.forceOpen_forced` has it, a fire stage all five, a soft trip by the state. -/
theorem forcedOpensReachTheSwitches : Obligations.ForcedOpensReachTheSwitches := by
  intro s d
  refine ⟨⟨_, rfl, Device.forceOpen_forced _ .g⟩, fun n => ⟨_, rfl, fun none => ?_, fun waits => ?_⟩,
    ⟨_, execIsolationTimerExpiry_eq s, fun none => ?_, fun runs => ?_⟩,
    fun kw => ⟨_, execIsolationConverterReport_eq kw s, fun stays => ?_, fun opens => ?_⟩,
    fun st => ⟨_, execFireStageHandoffSwc_eq st s, ?_, fun stays => ?_, fun forces n => ?_⟩,
    fun n h => ⟨_, execHealthHandoffSwc_eq n h s, ?_⟩⟩
  · change d.when (d.sw n.switch).openDelay.isSome _ = d
    rw [none]
    rfl
  · change ForcedOpen d (d.when (d.sw n.switch).openDelay.isSome fun e => (e.forceOpen n.switch).swcEnd) n.switch
    rw [Option.isSome_iff_ne_none.mpr waits]
    exact d.forceOpen_forced n.switch
  · rw [show s.dev.swc.isolationTimer = Option.none from none]
    rfl
  · rw [Option.isSome_iff_ne_none.mpr runs]
    exact d.timerStopped.forceOpen_forced .g
  · have idle : (s.dev.swc.isolationTimer.isSome && decide ((kw.natAbs : Int) ≤ s.dev.item .t5 5)) = false := by
      rw [Bool.eq_false_iff, Ne, Bool.and_eq_true, Option.isSome_iff_ne_none, decide_eq_true_iff]
      exact stays
    rw [idle]
    rfl
  · have due : (s.dev.swc.isolationTimer.isSome && decide ((kw.natAbs : Int) ≤ s.dev.item .t5 5)) = true := by
      rw [Bool.and_eq_true, Option.isSome_iff_ne_none, decide_eq_true_iff]
      exact opens
    rw [due]
    exact (Device.timerStopped _).forceOpen_forced .g
  · rw [Device.swcEnd_fireStage]
    exact Device.when_keeps (P := (·.swc.fireStage = st)) rfl fun held =>
      ((sameCauses_within (s.dev.fireHeard st)).allForced ⟨rfl, rfl⟩).fireStage.trans held
  · have quiet : (st.forces && s.dev.swc.fireStage != st) = false := by
      rw [Bool.eq_false_iff, Ne, Bool.and_eq_true, FireStage.forces_iff, bne_iff_ne]
      exact stays
    rw [quiet]
    rfl
  · have entered : (st.forces && s.dev.swc.fireStage != st) = true := by
      rw [Bool.and_eq_true, FireStage.forces_iff, bne_iff_ne]
      exact forces
    obtain ⟨gone, stays, opens, aborts⟩ := SwitchRec.forcedAt_facts n (d.pins.feedback.get n) (d.sw n)
    have after := (s.dev.fireHeard st).allForced_end n
    rw [entered]
    exact ⟨(congrArg (·.selection) after).trans gone, fun still => (congrArg (·.state) after).trans (stays still),
      fun moves => ⟨(congrArg (·.openDelay) after).trans (opens moves).1, (congrArg (·.state) after).trans (opens moves).2⟩,
      fun closing => (congrArg (·.lastResult) after).trans (aborts closing)⟩
  · intro m old r locks soft closing
    have acts : (s.dev.healthHeard n h).healthActs n (s.dev.swc.health.get n) h = m.healthActs n old h := rfl
    rw [acts]
    have forces (on : locks) : m.healthActs n old h = m.forceOpen n.switch := if_pos on
    have trips (on : soft) : m.healthActs n old h = m.softTrip n h := (if_neg on.2.2).trans (if_pos ⟨on.1, on.2.1⟩)
    refine ⟨fun on => ?_, fun on closed fresh => ?_, fun on moving => ?_, fun no quiet => congrArg Device.swcEnd ?_⟩
    · rw [forces on]
      exact m.forceOpen_forced n.switch
    · rw [trips on, Device.softTrip_waits (d := m) closed fresh]
      rfl
    · rw [trips on, Device.softTrip_aborts (d := m) moving]
      exact Device.forceOpen_forced _ n.switch
    · by_cases on : soft
      · obtain ⟨open_, still⟩ := quiet.resolve_left (not_not.mpr on)
        rw [trips on, Device.softTrip_stays (d := m) open_ still]
      · exact (if_neg no).trans (if_neg fun both => on ⟨both.1, both.2, no⟩)

end
end

section
/-! SUPPORT. The grid window: the class of a record and the moves of the five states (R100 to R104). -/

namespace Sys2Proof.Machine

/-! ## The class of a record (R100) -/

/-- R100: the worse of two phases is one of them, and its band the more severe. -/
theorem PhaseClass.worse_is (a b : PhaseClass) : (a.worse b = a ∨ a.worse b = b) ∧
    ∀ k, (a.worse b).band.code ≤ k ↔ a.band.code ≤ k ∧ b.band.code ≤ k := by
  unfold PhaseClass.worse
  dsimp only
  split
  · split
    · exact ⟨.inr rfl, fun k => by omega⟩
    · exact ⟨.inl rfl, fun k => by omega⟩
  · split
    · split
      · exact ⟨.inr rfl, fun k => by omega⟩
      · exact ⟨.inl rfl, fun k => by omega⟩
    · split
      · exact ⟨.inr rfl, fun k => by omega⟩
      · exact ⟨.inl rfl, fun k => by omega⟩

/-- R105: the orders of the voltage and of the frequency settings. -/
structure GridOrders (d : Device) : Prop where
  volt : d.item .t10 2 < d.item .t10 3 ∧ d.item .t10 3 < d.item .t10 4 ∧ d.item .t10 4 < d.item .t10 5
  freq : d.item .t10 9 < d.item .t10 10 ∧ d.item .t10 10 < d.item .t10 11 ∧ d.item .t10 11 < d.item .t10 12

theorem SettingsLaw.gridOrders {d : Device} (h : SettingsLaw d) : GridOrders d := by
  have orders : ordersOf .t10 (fun i => (d.settings.get .t10).getD i 0) = true := (h.1 .t10).1.2.2
  simp only [ordersOf, ascending, Bool.and_eq_true, decide_eq_true_iff] at orders
  obtain ⟨⟨⟨⟨low, -⟩, -, high, -⟩, apart⟩, f9, f10, f11, -⟩ := orders
  exact ⟨⟨low, apart, high⟩, f9, f10, f11⟩

/-- R100: the severity of a ratio's band by the settings. -/
theorem Device.voltBand_code {d : Device} (h : GridOrders d) (r : Int) :
    ((d.voltBand r).code ≤ 0 ↔ d.item .t10 3 ≤ r ∧ r ≤ d.item .t10 4) ∧
    ((d.voltBand r).code ≤ 1 ↔ d.item .t10 2 ≤ r ∧ r ≤ d.item .t10 4) ∧
    ((d.voltBand r).code ≤ 2 ↔ d.item .t10 2 ≤ r ∧ r ≤ d.item .t10 5) ∧
    ((d.voltBand r).code ≤ 3 ↔ r ≤ d.item .t10 5) := by
  obtain ⟨low, mid, high⟩ := h.volt
  unfold Device.voltBand
  split_ifs <;> simp only [VoltBand.code] <;> omega

/-- R100: a band by its severity. -/
theorem VoltBand.eq_iff (b : VoltBand) :
    (b = .normal ↔ b.code ≤ 0) ∧ (b = .highTrip ↔ ¬b.code ≤ 3) ∧ (b = .lowTrip ↔ ¬b.code ≤ 2 ∧ b.code ≤ 3) ∧
      (b = .highRide ↔ ¬b.code ≤ 1 ∧ b.code ≤ 2) := by
  cases b <;> simp [VoltBand.code]

/-- R100: the ratios of the three phases. -/
def Device.ratios (d : Device) (r : BusRecord) : List Int := [r.phase1, r.phase2, r.phase3].map fun v => 1000 * v / d.item .t10 0

/-- R100: the class of one phase. -/
def Device.phaseClass (d : Device) (v : Int) : PhaseClass :=
  ⟨d.voltBand (1000 * v / d.item .t10 0), 1000 * v / d.item .t10 0⟩

theorem Device.classify_eq (d : Device) (r : BusRecord) :
    let w := ((d.phaseClass r.phase1).worse (d.phaseClass r.phase2)).worse (d.phaseClass r.phase3)
    d.classify r = ⟨w.band, w.ratio, d.freqBand r.freq⟩ := rfl

/-- R100: the class of a record carries one phase's ratio, and the severity of the worst phase. -/
theorem Device.classify_worst (d : Device) (r : BusRecord) : (d.classify r).ratio ∈ d.ratios r ∧
    ∀ k, (d.classify r).volt.code ≤ k ↔ ∀ x ∈ d.ratios r, (d.voltBand x).code ≤ k := by
  obtain ⟨inner, innerCode⟩ := (d.phaseClass r.phase1).worse_is (d.phaseClass r.phase2)
  obtain ⟨outer, outerCode⟩ := ((d.phaseClass r.phase1).worse (d.phaseClass r.phase2)).worse_is (d.phaseClass r.phase3)
  rw [d.classify_eq]
  constructor
  · dsimp only
    obtain same | same := outer
    · rw [same]
      obtain same | same := inner <;> rw [same] <;> simp [Device.ratios, Device.phaseClass]
    · rw [same]
      simp [Device.ratios, Device.phaseClass]
  · intro k
    dsimp only
    rw [outerCode, innerCode]
    simp [Device.ratios, Device.phaseClass, and_assoc]

/-- R100: the frequency band, against the settings brought to 50 Hz. -/
theorem Device.freqBand_is {d : Device} (h : GridOrders d) (freq : Int) :
    let f := freq - if d.item .t10 1 = 1 then 10000 else 0
    (d.freqBand freq = .trip ↔ f < d.item .t10 9 ∨ d.item .t10 12 < f) ∧
    (d.freqBand freq = .normal ↔ d.item .t10 10 ≤ f ∧ f ≤ d.item .t10 11) := by
  obtain ⟨low, mid, high⟩ := h.freq
  unfold Device.freqBand
  dsimp only
  generalize (if d.item .t10 1 = 1 then 10000 else 0 : Int) = raised
  split_ifs <;> simp only [true_iff, false_iff] <;> omega

/-- R100: the class of a record under the settings' orders. -/
theorem Device.classify_is {d : Device} (h : GridOrders d) (r : BusRecord) :
    ((d.classify r).volt = .normal ↔ ∀ x ∈ d.ratios r, d.item .t10 3 ≤ x ∧ x ≤ d.item .t10 4) ∧
    ((d.classify r).volt = .highTrip ↔ ∃ x ∈ d.ratios r, d.item .t10 5 < x) ∧
    ((d.classify r).volt = .lowTrip ↔ (∃ x ∈ d.ratios r, x < d.item .t10 2) ∧ ∀ x ∈ d.ratios r, x ≤ d.item .t10 5) ∧
    ((d.classify r).volt = .highRide ↔
      (∃ x ∈ d.ratios r, d.item .t10 4 < x) ∧ ∀ x ∈ d.ratios r, d.item .t10 2 ≤ x ∧ x ≤ d.item .t10 5) := by
  obtain ⟨normal, highTrip, lowTrip, highRide⟩ := (d.classify r).volt.eq_iff
  have worst := (d.classify_worst r).2
  have upTo0 := fun x => (d.voltBand_code h x).1
  have upTo1 := fun x => (d.voltBand_code h x).2.1
  have upTo2 := fun x => (d.voltBand_code h x).2.2.1
  have upTo3 := fun x => (d.voltBand_code h x).2.2.2
  obtain ⟨low, mid, high⟩ := h.volt
  rw [normal, highTrip, lowTrip, highRide]
  simp only [worst, upTo0, upTo1, upTo2, upTo3]
  simp only [Device.ratios, List.map_cons, List.map_nil, List.mem_cons, List.not_mem_nil, or_false, forall_eq_or_imp, forall_eq,
    exists_eq_or_imp, exists_eq_left]
  generalize 1000 * r.phase1 / d.item .t10 0 = x1
  generalize 1000 * r.phase2 / d.item .t10 0 = x2
  generalize 1000 * r.phase3 / d.item .t10 0 = x3
  exact ⟨trivial, by omega, by omega, by omega⟩

/-! ## A record by the window state (R101, R102) -/

theorem GridClass.isNormal_iff (c : GridClass) : c.isNormal = true ↔ c.volt = .normal ∧ c.freq = .normal := by
  simp [GridClass.isNormal]

section
variable {d : Device} {c : GridClass}

theorem windowRecord_holdOff (w : d.gwm.window = .holdOff) : d.windowRecord c =
    if c.isNormal then d.withGwm { d.gwm with holdOffRunning := true } else d.withGwm (d.gwm.heldOff d) := by
  unfold Device.windowRecord
  rw [w]
  rfl

theorem windowRecord_permitted (w : d.gwm.window = .permitted) : d.windowRecord c = if c.isNormal then d else d.losePermission := by
  unfold Device.windowRecord
  rw [w]

theorem windowRecord_tripped (w : d.gwm.window = .tripped) : d.windowRecord c = d := by
  unfold Device.windowRecord
  rw [w]

theorem windowRecord_inWindow (w : d.gwm.window = .inWindow) : d.windowRecord c =
    if c.isNormal then d else if c.volt = .highTrip then d.gridTrip 1
    else ((d.stopGridTimers).setWindow .rideThrough).rideRecord c := by
  unfold Device.windowRecord
  rw [w]

theorem windowRecord_rideThrough (w : d.gwm.window = .rideThrough) : d.windowRecord c =
    if c.isNormal then (d.stopGridTimers).setWindow .inWindow else if c.volt = .highTrip then d.gridTrip 1 else d.rideRecord c := by
  unfold Device.windowRecord
  rw [w]

end

/-- The part with a classified record held at GWM. -/
def Device.gridHeard (r : BusRecord) (d : Device) : Device :=
  (d.took (.gridRecord r)).withGwm { d.gwm with last := some (d.classify r), busStale := false }

theorem execGridRecord_eq (r : BusRecord) (s : State) : exec (.gridRecord r) s =
    .next ⟨s.pending, (s.dev.gridHeard r).windowRecord (s.dev.classify r)⟩ := rfl

/-! ## Staleness and the breaker's reports (R101, R102, R104) -/

/-- R101, R102: a stale bus record, by the window state. -/
def Device.windowStale (d : Device) : Device :=
  match d.gwm.window with
  | .holdOff => d.fullHoldOff false
  | .permitted => d.losePermission
  | .inWindow => ((d.stopGridTimers).setWindow .rideThrough).staleDelay
  | .rideThrough => d.staleDelay
  | .tripped => d

theorem execGwmBusStale_eq (s : State) : exec .gwmBusStale s =
    .next ⟨s.pending, ((s.dev.took .gwmBusStale).withGwm { s.dev.gwm with busStale := true }).windowStale⟩ := rfl

/-- R104: the breaker's report, by the window state. -/
def Device.windowBreaker (st : SwitchState) (d : Device) : Device :=
  match d.gwm.window with
  | .holdOff => d.postIf (st == .closed) .forcedOpen
  | .permitted => d.when (st == .closed) (·.setWindow .inWindow)
  | .inWindow | .rideThrough | .tripped => d.when (st != .closed) (·.enterHoldOff)

theorem execBreakerReportGwm_eq (st : SwitchState) (s : State) : exec (.breakerReportGwm st) s =
    .next ⟨s.pending, ((s.dev.took (.breakerReportGwm st)).withGwm { s.dev.gwm with breaker := st }).windowBreaker st⟩ := rfl

section
variable {d : Device}

theorem windowStale_holdOff (w : d.gwm.window = .holdOff) : d.windowStale = d.withGwm (d.gwm.heldOff d) := by
  unfold Device.windowStale
  rw [w]
  rfl

theorem windowStale_permitted (w : d.gwm.window = .permitted) : d.windowStale = d.losePermission := by
  unfold Device.windowStale
  rw [w]

theorem windowStale_inWindow (w : d.gwm.window = .inWindow) : WindowMoved d d.windowStale
    { d.gwm with ride := some ⟨0, none⟩, trip := some ⟨0, 200, .busStale⟩ } .rideThrough [] := by
  have moved := d.stopGridTimers.setWindow_moved .rideThrough
  unfold Device.windowStale
  rw [w]
  dsimp only
  rw [moved]
  rfl

theorem windowStale_rideThrough (w : d.gwm.window = .rideThrough) : d.windowStale = d.withGwm
    { d.gwm with ride := some (d.gwm.ride.getD ⟨0, none⟩), trip := some (d.gwm.trip.getD ⟨0, 200, .busStale⟩) } := by
  unfold Device.windowStale
  rw [w]
  rfl

theorem windowStale_tripped (w : d.gwm.window = .tripped) : d.windowStale = d := by
  unfold Device.windowStale
  rw [w]

variable {st : SwitchState}

/-- R104: outside HOLD_OFF and PERMITTED a breaker that stays CLOSED leaves the window, and one that opens leads to HOLD_OFF. -/
theorem windowBreaker_joined (w : d.gwm.window = .inWindow ∨ d.gwm.window = .rideThrough ∨ d.gwm.window = .tripped) :
    d.windowBreaker st = if st = .closed then d else d.enterHoldOff := by
  have acts : d.windowBreaker st = d.when (st != .closed) (·.enterHoldOff) := by
    unfold Device.windowBreaker
    obtain w | w | w := w <;> rw [w]
  rw [acts]
  by_cases closed : st = .closed <;> simp [Device.when, closed]

theorem windowBreaker_holdOff (w : d.gwm.window = .holdOff) :
    d.windowBreaker st = if st = .closed then d.post .forcedOpen else d := by
  unfold Device.windowBreaker
  rw [w]
  by_cases closed : st = .closed <;> simp [Device.postIf, closed]

theorem windowBreaker_permitted (w : d.gwm.window = .permitted) :
    d.windowBreaker st = if st = .closed then d.setWindow .inWindow else d := by
  unfold Device.windowBreaker
  rw [w]
  by_cases closed : st = .closed <;> simp [Device.when, closed]

end

/-- R104: HOLD_OFF at its full time, running where the last record was normal and is fresh. -/
theorem Device.enterHoldOff_moved (d : Device) : WindowMoved d d.enterHoldOff
    { d.gwm with
      ride := none, trip := none, holdOffLeft := 1000 * d.itemNat .t10 15
      holdOffRunning := !d.gwm.busStale && d.gwm.last.any fun c => c.volt == .normal && c.freq == .normal } .holdOff [] := by
  rw [Bool.and_comm]
  exact Device.setWindow_moved _ .holdOff

/-! ## The timers (R101 to R103) -/

/-- R101: the end of the hold-off. -/
def Device.holdOffEnds (d : Device) : Device :=
  ((d.modGwm fun g => { g with holdOffLeft := 0, holdOffRunning := false }).raise .gridReconnectPermitted (.switch .g) none).setWindow
    .permitted

theorem execHoldOffExpiry_eq (s : State) : exec .holdOffExpiry s =
    .next ⟨s.pending, s.dev.when (s.dev.gwm.window == .holdOff && s.dev.gwm.holdOffRunning) Device.holdOffEnds⟩ := rfl

theorem Device.holdOffEnds_moved (d : Device) : WindowMoved d d.holdOffEnds { d.gwm with holdOffLeft := 0, holdOffRunning := false }
    .permitted [.eventOccurrence ⟨.gridReconnectPermitted, .switch .g, none, false⟩] := by
  have moved := ((d.modGwm fun g => { g with holdOffLeft := 0, holdOffRunning := false }).raise
    .gridReconnectPermitted (.switch .g) none).setWindow_moved .permitted
  unfold WindowMoved at *
  rw [Device.holdOffEnds, moved]
  simp [Device.raise, Device.post, Device.modGwm]

/-- R102: the ride-through timer runs with a limit. -/
theorem Device.rideRuns_iff (d : Device) : (d.gwm.window == .rideThrough && d.gwm.ride.any (·.limit.isSome)) = true ↔
    d.gwm.window = .rideThrough ∧ ∃ t x, d.gwm.ride = some t ∧ t.limit = some x := by
  simp [Option.any_eq_true, Option.isSome_iff_exists]

/-- R102, R103: what the expiry of the trip delay does. -/
def Device.tripDelayEnds (d : Device) : Device :=
  match d.gwm.trip with
  | some t => d.when (d.gwm.window == .rideThrough) (·.gridTrip t.cause.detail)
  | none => d

theorem execTripDelayExpiry_eq (s : State) : exec .tripDelayExpiry s = .next ⟨s.pending, s.dev.tripDelayEnds⟩ := rfl

theorem tripDelayEnds_idle {d : Device} (idle : d.gwm.trip = none ∨ d.gwm.window ≠ .rideThrough) : d.tripDelayEnds = d := by
  unfold Device.tripDelayEnds
  split
  · next t runs =>
    have other := idle.resolve_left (by rw [runs]; nofun)
    rw [beq_eq_false_iff_ne.mpr other]
    rfl
  · rfl

theorem tripDelayEnds_trips {d : Device} {t : TripTimer} (runs : d.gwm.trip = some t) (w : d.gwm.window = .rideThrough) :
    d.tripDelayEnds = d.gridTrip t.cause.detail := by
  unfold Device.tripDelayEnds
  rw [runs, w]
  rfl

end Sys2Proof.Machine

section
open Sys2Proof Sys2Proof.Machine

/-- Settles O51: the class by the worst phase, and each event by the window state that it finds. -/
theorem gridWindowMoves : Obligations.GridWindowMoves := by
  refine ⟨fun d r law => ?_, fun s => ?_⟩
  · obtain ⟨normal, highTrip, lowTrip, highRide⟩ := Device.classify_is law.gridOrders r
    exact ⟨normal, highTrip, lowTrip, highRide, (d.classify_worst r).1, d.freqBand_is law.gridOrders r.freq⟩
  intro g
  refine ⟨fun r => ⟨_, execGridRecord_eq r s, ?_⟩, ⟨_, execGwmBusStale_eq s, ?_⟩, fun st => ⟨_, execBreakerReportGwm_eq st s, ?_⟩,
    ⟨_, execHoldOffExpiry_eq s, fun w runs => ?_, fun idle => ?_⟩,
    ⟨_, rfl, fun runs => ?_, fun idle => ?_⟩,
    ⟨_, execTripDelayExpiry_eq s, tripDelayEnds_idle, fun t runs w => ?_⟩⟩
  · intro d c g' normal high
    have quiet : normal → c.isNormal = true := c.isNormal_iff.mpr
    have disturbed : ¬normal → ¬c.isNormal = true := mt c.isNormal_iff.mp
    have abnormal : high → ¬c.isNormal = true := fun h n => by
      have volt := (c.isNormal_iff.mp n).1
      rw [h] at volt; cases volt
    refine ⟨fun w n => ?_, fun w n => ?_, fun w n => ?_, fun w => ?_, fun w n => ?_, fun w h => ?_, fun w n h => ?_, fun w n h => ?_⟩
    · exact (windowRecord_holdOff (d := s.dev.gridHeard r) w).trans (if_pos (quiet n))
    · exact (windowRecord_holdOff (d := s.dev.gridHeard r) w).trans (if_neg (disturbed n))
    · rw [windowRecord_permitted (d := s.dev.gridHeard r) w, if_neg (disturbed n)]
      exact (s.dev.gridHeard r).losePermission_lost
    · obtain w | ⟨w | w, n⟩ := w
      · exact windowRecord_tripped (d := s.dev.gridHeard r) w
      · exact (windowRecord_permitted (d := s.dev.gridHeard r) w).trans (if_pos (quiet n))
      · exact (windowRecord_inWindow (d := s.dev.gridHeard r) w).trans (if_pos (quiet n))
    · rw [windowRecord_rideThrough (d := s.dev.gridHeard r) w, if_pos (quiet n)]
      exact (s.dev.gridHeard r).stopGridTimers.setWindow_moved .inWindow
    · have trips : (s.dev.gridHeard r).windowRecord c = (s.dev.gridHeard r).gridTrip 1 := by
        obtain w | w := w
        · rw [windowRecord_inWindow (d := s.dev.gridHeard r) w, if_neg (abnormal h), if_pos h]
        · rw [windowRecord_rideThrough (d := s.dev.gridHeard r) w, if_neg (abnormal h), if_pos h]
      rw [trips]
      exact (s.dev.gridHeard r).gridTrip_tripped 1
    · rw [windowRecord_inWindow (d := s.dev.gridHeard r) w, if_neg (disturbed n), if_neg h]
      exact ⟨_, (s.dev.gridHeard r).stopGridTimers.setWindow_moved .rideThrough, Device.rideRecord_rides _ c⟩
    · rw [windowRecord_rideThrough (d := s.dev.gridHeard r) w, if_neg (disturbed n), if_neg h]
      exact (s.dev.gridHeard r).rideRecord_rides c
  · intro d g'
    refine ⟨fun w => windowStale_holdOff (d := d.withGwm g') w, fun w => ?_, fun w => windowStale_inWindow (d := d.withGwm g') w,
      fun w => windowStale_rideThrough (d := d.withGwm g') w, fun w => windowStale_tripped (d := d.withGwm g') w⟩
    exact windowStale_permitted (d := d.withGwm g') w ▸ (d.withGwm g').losePermission_lost
  · intro d g' joined
    refine ⟨fun w closed => ?_, fun w closed => ?_, fun w open_ => ?_, fun w closed => ?_, fun w open_ => ?_⟩
    · exact (windowBreaker_holdOff (d := d.withGwm g') w).trans (if_pos closed)
    · exact (windowBreaker_permitted (d := d.withGwm g') w).trans (if_pos closed) ▸ (d.withGwm g').setWindow_moved .inWindow
    · exact (windowBreaker_joined (d := d.withGwm g') w).trans (if_neg open_) ▸ (d.withGwm g').enterHoldOff_moved
    · exact (windowBreaker_joined (d := d.withGwm g') w).trans (if_pos closed)
    · have away : g.window = .holdOff ∨ g.window = .permitted := by
        cases h : g.window <;> simp [joined, h] at w ⊢
      obtain w | w := away
      · exact (windowBreaker_holdOff (d := d.withGwm g') w).trans (if_neg open_)
      · exact (windowBreaker_permitted (d := d.withGwm g') w).trans (if_neg open_)
  · have due : (s.dev.gwm.window == .holdOff && s.dev.gwm.holdOffRunning) = true := by
      rw [Bool.and_eq_true, beq_iff_eq]
      exact ⟨w, runs⟩
    rw [due]
    exact s.dev.holdOffEnds_moved
  · have none : (s.dev.gwm.window == .holdOff && s.dev.gwm.holdOffRunning) = false := by
      rw [Bool.and_eq_false_iff, beq_eq_false_iff_ne]
      exact idle
    rw [none]
    rfl
  · change GridTripped s.dev (s.dev.when _ (·.gridTrip 3)) g 3
    rw [s.dev.rideRuns_iff.mpr runs]
    exact s.dev.gridTrip_tripped 3
  · change s.dev.when _ (·.gridTrip 3) = s.dev
    rw [Bool.eq_false_iff.mpr (mt s.dev.rideRuns_iff.mp idle)]
    rfl
  · have tripped := s.dev.gridTrip_tripped t.cause.detail
    rw [tripDelayEnds_trips runs w]
    cases h : t.cause <;> rw [h] at tripped <;> exact tripped

end
end

section
/-! SUPPORT. The compressor stages of one sample (R113): which stop, which start, and what is told of them. -/

namespace Sys2Proof.Machine

-- Bodies elaborated side by side would each hold a thread while a default argument waits for the kernel.
set_option Elab.async false

/-- The first of a list of stages in order of number that has a property. -/
theorem Stage.find_iff {l : List Stage} (sorted : l.Pairwise (·.num < ·.num)) (p : Stage → Bool) (c : Stage) :
    l.find? p = some c ↔ c ∈ l ∧ p c = true ∧ ∀ b ∈ l, b.num < c.num → p b = false := by
  rw [List.find?_eq_some_iff_append]
  constructor
  · rintro ⟨pc, before, after, rfl, none⟩
    refine ⟨by simp, pc, fun b hb lower => ?_⟩
    obtain hb | rfl | hb : b ∈ before ∨ b = c ∨ b ∈ after := by simpa using hb
    · simpa using none b hb
    · exact absurd lower (lt_irrefl _)
    · have above : c.num < b.num := (List.pairwise_cons.mp (List.pairwise_append.mp sorted).2.1).1 b hb
      exact absurd lower above.asymm
  · rintro ⟨mem, pc, first⟩
    obtain ⟨before, after, rfl⟩ := List.append_of_mem mem
    refine ⟨pc, before, after, rfl, fun b hb => ?_⟩
    have lower : b.num < c.num := (List.pairwise_append.mp sorted).2.2 b hb c (by simp)
    simp [first b (by simp [hb]) lower]

/-- R113: the first available stages, as many as are demanded. -/
def Clc.wanted (x : Clc) : List Stage := x.available.take x.demanded

/-- R122: what is told of a stage that stops. -/
def stageStopped (c : Stage) : Instr := .eventOccurrence ⟨.coolingStageChange, .stage c, some 2, false⟩

/-- R122: what is told of a stage that starts. -/
def stageStarted (c : Stage) : Instr := .eventOccurrence ⟨.coolingStageChange, .stage c, some 1, false⟩

theorem Clc.wanted_sorted (x : Clc) : x.wanted.Pairwise (·.num < ·.num) :=
  List.Pairwise.sublist ((List.take_sublist _ _).trans List.filter_sublist) (by decide)

theorem Clc.wanted_available {x : Clc} {c : Stage} (h : c ∈ x.wanted) : (x.stages.get c).state ≠ .failed := by
  simpa using (List.mem_filter.mp (List.mem_of_mem_take h)).2

/-- R113: a stage of this record stops at a sample, as the wanted set has it. -/
def Clc.stops (x : Clc) (c : Stage) : Bool :=
  (x.stages.get c).state == .running && !x.wanted.contains c && decide (120000 ≤ (x.stages.get c).since)

/-- R113: the stage that is next in the wanted set, if it may start. -/
def Clc.starts (x : Clc) (c : Stage) : Prop :=
  (c ∈ x.wanted ∧ (x.stages.get c).state = .off ∧ ∀ b ∈ x.wanted, b.num < c.num → (x.stages.get b).state = .running) ∧
    x.eligible c = true

theorem Clc.stops_iff (x : Clc) (c : Stage) :
    x.stops c = true ↔ (x.stages.get c).state = .running ∧ c ∉ x.wanted ∧ 120000 ≤ (x.stages.get c).since := by
  simp [Clc.stops, and_assoc]

theorem Clc.eligible_iff (x : Clc) (c : Stage) : x.eligible c = true ↔
    180000 ≤ (x.stages.get c).since ∧ 30000 ≤ x.sinceStart ∧ x.flow = .confirmed ∧ x.batteryFire = false ∧ x.mode ≠ .blind := by
  simp [Clc.eligible, and_assoc]

/-- R113: the next stage is the first wanted one that is OFF. -/
theorem Clc.find_wanted (x : Clc) (c : Stage) : x.wanted.find? (fun c => (x.stages.get c).state == .off) = some c ↔
    c ∈ x.wanted ∧ (x.stages.get c).state = .off ∧ ∀ b ∈ x.wanted, b.num < c.num → (x.stages.get b).state = .running := by
  rw [Stage.find_iff x.wanted_sorted]
  have on : ∀ b ∈ x.wanted, ((x.stages.get b).state == .off) = false ↔ (x.stages.get b).state = .running := fun b hb => by
    have := x.wanted_available hb
    cases h : (x.stages.get b).state <;> simp_all
  refine and_congr_right fun _ => and_congr beq_iff_eq ?_
  exact forall_congr' fun b => forall_congr' fun hb => imp_congr_right fun _ => on b hb

/-- R113: the wanted stages that are OFF start one at a sample. -/
theorem Clc.starts_unique {x : Clc} {b c : Stage} (hb : x.starts b) (hc : x.starts c) : b = c :=
  Option.some.inj (((x.find_wanted b).mpr hb.1).symm.trans ((x.find_wanted c).mpr hc.1))

/-- The part once stages have moved, and hs tells of the moves. -/
def Device.stagesMoved (d : Device) (stages : PerStage CoolStage) (hs : List Instr) : Device :=
  { d with clc := { d.clc with stages := stages }, handoffs := d.handoffs ++ hs }

/-- R113: one stage is stopped. -/
def Device.stageOff (c : Stage) (d : Device) : Device := d.stagesMoved (d.clc.stages.set c ⟨.off, 0, none⟩) [stageStopped c]

theorem Device.stopStage_eq (c : Stage) (d : Device) : d.stopStage c = d.when ((d.stage c).state == .running) (·.stageOff c) := rfl

theorem Device.stageOff_stage (d : Device) (a c : Stage) :
    (d.stageOff a).stage c = if c = a then ⟨.off, 0, none⟩ else d.stage c := PerStage.get_set _ _ _ _

theorem Device.when_when (d : Device) (a : Bool) (b : Device → Bool) (f : Device → Device) :
    d.when a (fun m => m.when (b m) f) = d.when (a && b d) f := by
  cases a <;> rfl

/-- Stages stopped one by one, each where its own record says so. -/
theorem Device.each_stageOff (k : Stage → CoolStage → Bool) {xs : List Stage} (nodup : xs.Nodup) (d : Device) :
    ∃ stages : PerStage CoolStage,
      (∀ c, stages.get c = if c ∈ xs ∧ k c (d.stage c) = true then ⟨.off, 0, none⟩ else d.stage c) ∧
      (d.each xs fun c m => m.when (k c (m.stage c)) (·.stageOff c)) =
        d.stagesMoved stages ((xs.filter fun c => k c (d.stage c)).map stageStopped) := by
  induction xs generalizing d with
  | nil => exact ⟨d.clc.stages, fun c => by simp [Device.stage], by simp [Device.each, Device.stagesMoved]⟩
  | cons a xs ih =>
    obtain ⟨fresh, nodup⟩ := List.nodup_cons.mp nodup
    cases stops : k a (d.stage a) with
    | false =>
      obtain ⟨stages, gets, e⟩ := ih nodup d
      refine ⟨stages, fun c => (gets c).trans ?_, ?_⟩
      · by_cases same : c = a
        · subst same; simp [stops]
        · simp [same]
      · simpa [Device.each, Device.when, stops] using e
    | true =>
      obtain ⟨stages, gets, e⟩ := ih nodup (d.stageOff a)
      have rest : (xs.filter fun c => k c ((d.stageOff a).stage c)) = xs.filter fun c => k c (d.stage c) :=
        List.filter_congr fun c hc => by rw [Device.stageOff_stage, if_neg (ne_of_mem_of_not_mem hc fresh)]
      refine ⟨stages, fun c => (gets c).trans ?_, ?_⟩
      · by_cases same : c = a
        · subst same; simp [stops, fresh, Device.stageOff_stage]
        · simp [same, Device.stageOff_stage]
      · rw [rest] at e
        simpa [Device.each, Device.when, stops, Device.stageOff, Device.stagesMoved] using e

/-- R113: what one sample leaves of the stages and tells of them. -/
structure StagesRan (d : Device) (stages : PerStage CoolStage) (sinceStart : Nat) (moves : List Instr) : Prop where
  stopped : ∀ c, d.clc.stops c = true → stages.get c = ⟨.off, 0, none⟩
  started : ∀ c, d.clc.starts c → stages.get c = ⟨.running, 0, if d.pins.runFeedback.get c then none else some 5000⟩
  others : ∀ c, d.clc.stops c = false → ¬d.clc.starts c → stages.get c = d.stage c
  spacing : (∃ c, d.clc.starts c) → sinceStart = 0
  spaced : (∀ c, ¬d.clc.starts c) → sinceStart = d.clc.sinceStart
  told : ∀ i, i ∈ moves ↔ ∃ c, (d.clc.stops c = true ∧ i = stageStopped c) ∨ (d.clc.starts c ∧ i = stageStarted c)

/-- R113: the stages that stop at a sample. -/
theorem Device.runStages_stops (d : Device) : ∃ stages : PerStage CoolStage,
    (∀ c, stages.get c = if d.clc.stops c = true then ⟨.off, 0, none⟩ else d.stage c) ∧
    (d.each Stage.all fun c m => m.when (!d.clc.wanted.contains c && decide (120000 ≤ (m.stage c).since)) (·.stopStage c)) =
      d.stagesMoved stages ((Stage.all.filter d.clc.stops).map stageStopped) := by
  obtain ⟨stages, gets, e⟩ := d.each_stageOff
    (fun c x => (!d.clc.wanted.contains c && decide (120000 ≤ x.since)) && x.state == .running) (xs := Stage.all) (by decide)
  have same : ∀ c, ((!d.clc.wanted.contains c && decide (120000 ≤ (d.stage c).since)) && (d.stage c).state == .running) =
      d.clc.stops c := fun c => by
    rw [Clc.stops, Bool.and_comm, ← Bool.and_assoc]
    rfl
  have all : ∀ c, c ∈ Stage.all := fun c => by cases c <;> decide
  simp only [same, all, true_and] at gets e
  refine ⟨stages, gets, Eq.trans ?_ e⟩
  simp only [Device.stopStage_eq, Device.when_when _ _ (fun m => (m.stage _).state == .running)]

/-- R113: a stage that starts is demanded. -/
theorem Clc.starts.demanded {x : Clc} {c : Stage} (h : x.starts c) : 0 < x.demanded := by
  obtain ⟨⟨wanted, -⟩, -⟩ := h
  rw [Nat.pos_iff_ne_zero]
  intro none
  simp [Clc.wanted, none] at wanted

/-- R113: a stage that runs after a sample ran before it or starts. -/
theorem StagesRan.running {d : Device} {stages : PerStage CoolStage} {sinceStart : Nat} {moves : List Instr}
    (ran : StagesRan d stages sinceStart moves) {c : Stage} (runs : (stages.get c).state = .running) :
    (d.stage c).state = .running ∨ d.clc.starts c := by
  by_cases starts : d.clc.starts c
  · exact .inr starts
  · cases stops : d.clc.stops c with
    | true => rw [ran.stopped c stops] at runs; cases runs
    | false => exact .inl (ran.others c stops starts ▸ runs)

/-- R113: after the stops, the first wanted stage that is OFF starts, if it may. -/
theorem Device.runStages_next {d m : Device} (stops : (d.each Stage.all fun c m =>
      m.when (!d.clc.wanted.contains c && decide (120000 ≤ (m.stage c).since)) (·.stopStage c)) = m) :
    (∀ c, d.clc.wanted.find? (fun c => (m.stage c).state == .off) = some c →
      d.runStages = m.when (m.clc.eligible c) (·.startStage c)) ∧
    (d.clc.wanted.find? (fun c => (m.stage c).state == .off) = none → d.runStages = m) := by
  subst stops
  unfold Device.runStages
  dsimp only
  rw [← Clc.wanted]
  constructor
  · intro c h
    rw [h]
  · intro h
    rw [h]

/-- R122: the stages that stop, as they are told of. -/
theorem Clc.stops_told (x : Clc) (i : Instr) :
    i ∈ (Stage.all.filter x.stops).map stageStopped ↔ ∃ c, x.stops c = true ∧ i = stageStopped c := by
  have all : ∀ c, c ∈ Stage.all := fun c => by cases c <;> decide
  simp only [List.mem_map, List.mem_filter, all, true_and]
  exact exists_congr fun c => and_congr_right fun _ => eq_comm

/-- R113: the stages to stop stop, and then the next wanted stage starts, if it may; a stop touches no wanted stage. -/
theorem Device.runStages_eq (d : Device) : ∃ stages : PerStage CoolStage,
    (∀ c, stages.get c = if d.clc.stops c = true then ⟨.off, 0, none⟩ else d.stage c) ∧
    let m := d.stagesMoved stages ((Stage.all.filter d.clc.stops).map stageStopped)
    (∀ c, d.clc.starts c → d.runStages = m.startStage c) ∧ ((∀ c, ¬d.clc.starts c) → d.runStages = m) := by
  obtain ⟨stages, gets, stops⟩ := d.runStages_stops
  obtain ⟨next, rests⟩ := Device.runStages_next stops
  generalize hm : d.stagesMoved stages ((Stage.all.filter d.clc.stops).map stageStopped) = m at next rests
  have wanted : ∀ c ∈ d.clc.wanted, m.stage c = d.stage c := fun c hc => by
    subst hm
    exact (gets c).trans (if_neg fun h => ((d.clc.stops_iff c).mp h).2.1 hc)
  have first : (d.clc.wanted.find? fun c => (m.stage c).state == .off) =
      d.clc.wanted.find? fun c => (d.clc.stages.get c).state == .off :=
    List.find?_congr fun c hc => by rw [wanted c hc]; rfl
  have eligible : ∀ c ∈ d.clc.wanted, m.clc.eligible c = d.clc.eligible c := fun c hc => by
    have same : m.clc.stages.get c = d.clc.stages.get c := wanted c hc
    unfold Clc.eligible
    rw [same]
    subst hm
    rfl
  refine ⟨stages, gets, hm ▸ ⟨fun c ⟨is, may⟩ => ?_, fun none => ?_⟩⟩
  · rw [next c (first.trans ((d.clc.find_wanted c).mpr is)), eligible c is.1, may]
    rfl
  · cases h : d.clc.wanted.find? fun c => (d.clc.stages.get c).state == .off with
    | none => exact rests (first.trans h)
    | some c =>
      have is := (d.clc.find_wanted c).mp h
      have waits : d.clc.eligible c = false := Bool.eq_false_iff.mpr fun may => none c ⟨is, may⟩
      rw [next c (first.trans h), eligible c is.1, waits]
      rfl

/-- R113: what a sample leaves of the stages. -/
theorem Device.runStages_ran (d : Device) : ∃ stages sinceStart moves, StagesRan d stages sinceStart moves ∧
    d.runStages = { d with
      clc := { d.clc with stages := stages, sinceStart := sinceStart }
      handoffs := d.handoffs ++ moves } := by
  obtain ⟨stages, gets, starts, waits⟩ := d.runStages_eq
  by_cases starting : ∃ c, d.clc.starts c
  · obtain ⟨c, hc⟩ := starting
    have only : ∀ b, d.clc.starts b ↔ b = c := fun b => ⟨fun h => Clc.starts_unique h hc, fun h => h ▸ hc⟩
    refine ⟨stages.set c ⟨.running, 0, if d.pins.runFeedback.get c then none else some 5000⟩, 0,
      (Stage.all.filter d.clc.stops).map stageStopped ++ [stageStarted c],
      ⟨fun b hb => ?_, fun b hb => ?_, fun b hb no => ?_, fun _ => rfl, fun no => absurd hc (no c), fun i => ?_⟩, ?_⟩
    · have apart : b ≠ c := fun same => ((d.clc.stops_iff b).mp hb).2.1 (same ▸ hc.1.1)
      rw [PerStage.get_set, if_neg apart, gets, if_pos hb]
    · rw [PerStage.get_set, if_pos ((only b).mp hb), (only b).mp hb]
    · rw [PerStage.get_set, if_neg (mt (only b).mpr no), gets, hb, if_neg (by decide)]
    · simp [d.clc.stops_told, only, exists_or]
    · rw [starts c hc, ← List.append_assoc]
      rfl
  · have none : ∀ c, ¬d.clc.starts c := not_exists.mp starting
    refine ⟨stages, d.clc.sinceStart, (Stage.all.filter d.clc.stops).map stageStopped,
      ⟨fun b hb => (gets b).trans (if_pos hb), fun b hb => absurd hb (none b), fun b hb _ => ?_, fun h => absurd h starting,
        fun _ => rfl, fun i => ?_⟩, waits none⟩
    · rw [gets, hb, if_neg (by decide)]
    · simp [d.clc.stops_told, none]

end Sys2Proof.Machine
end

section
/-! SUPPORT. The law of the cooling loop, operation by operation (R113, R116, R117). -/

namespace Sys2Proof.Machine

-- Bodies elaborated side by side would each hold a thread while a default argument waits for the kernel.
set_option Elab.async false

/-! ## What the law reads -/

/-- No stage runs. -/
def Clc.Still (x : Clc) : Prop := ∀ c, (x.stages.get c).state ≠ .running

/-- R113: a stage runs only in CHILL, with flow confirmed and no battery zone in ALARM or beyond. -/
def Clc.ChillsSafely (x : Clc) : Prop :=
  ∀ c, (x.stages.get c).state = .running → x.mode = .chill ∧ x.flow = .confirmed ∧ x.batteryFire = false

/-- R116, R117: a fault alone has a phase, and the pump is on as flow and phase say. -/
def Clc.PumpsInFlow (x : Clc) : Prop :=
  (x.flow = .fault ↔ x.phase ≠ .none) ∧
  (x.pump = true ↔ x.flow = .starting ∨ x.flow = .confirmed ∨ x.phase = .trying ∨ x.phase = .proving)

/-- The law of CLC's record. -/
def Clc.Lawful (x : Clc) : Prop := x.ChillsSafely ∧ x.PumpsInFlow

theorem coolingLaw_iff (d : Device) : CoolingLaw d ↔ d.clc.Lawful := Iff.rfl

theorem Clc.Still.chillsSafely {x : Clc} (h : x.Still) : x.ChillsSafely := fun c runs => absurd runs (h c)

/-- R113: without confirmed flow no stage runs. -/
theorem Clc.ChillsSafely.still {x : Clc} (h : x.ChillsSafely) (flow : x.flow ≠ .confirmed) : x.Still :=
  fun c runs => flow (h c runs).2.1

/-- R117: outside a fault there is no phase. -/
theorem Clc.PumpsInFlow.phase {x : Clc} (h : x.PumpsInFlow) (flow : x.flow ≠ .fault) : x.phase = .none :=
  not_not.mp (mt h.1.mpr flow)

/-- R113: stages stopped. -/
theorem StagesStopped.still {d : Device} {stages : PerStage CoolStage} {hs : List Instr} (h : StagesStopped d stages hs) (c : Stage) :
    (stages.get c).state ≠ .running := by
  rw [h.1]
  split
  · decide
  · assumption

/-- R116: a pump want that is acted on keeps the law. -/
theorem PumpFollows.lawful {d : Device} {y y' : Clc} {hs : List Instr} (h : PumpFollows d y y' hs) (law : y.Lawful) : y'.Lawful := by
  obtain ⟨chills, pumps⟩ := law
  obtain ⟨faulty, sound⟩ := h
  by_cases flow : y.flow = .fault
  · have still := chills.still (by simp [flow])
    obtain ⟨tries, stays, holds⟩ := faulty flow
    by_cases wanted : PumpWanted y
    · by_cases held : y.phase = .held
      · obtain ⟨rfl, -⟩ := tries wanted held
        refine ⟨Clc.Still.chillsSafely still, ?_⟩
        cases f : d.pins.flow <;> simp [Clc.PumpsInFlow, flow]
      · obtain ⟨rfl, -⟩ := stays wanted held
        exact ⟨chills, pumps⟩
    · obtain ⟨rfl, -⟩ := holds wanted
      exact ⟨Clc.Still.chillsSafely still, by simp [Clc.PumpsInFlow, flow]⟩
  · have phase := pumps.phase flow
    obtain ⟨stays, confirms, starts, rests, stops⟩ := sound flow
    by_cases wanted : PumpWanted y <;> cases pump : y.pump
    · have still := chills.still fun confirmed => by simpa [pump] using pumps.2.mpr (.inr (.inl confirmed))
      cases f : d.pins.flow with
      | true =>
        obtain ⟨rfl, -⟩ := confirms wanted pump f
        exact ⟨Clc.Still.chillsSafely still, by simp [Clc.PumpsInFlow, phase]⟩
      | false =>
        obtain ⟨rfl, -⟩ := starts wanted pump f
        exact ⟨Clc.Still.chillsSafely still, by simp [Clc.PumpsInFlow, phase]⟩
    · obtain ⟨rfl, -⟩ := stays wanted pump
      exact ⟨chills, pumps⟩
    · obtain ⟨rfl, -⟩ := rests wanted pump
      exact ⟨chills, pumps⟩
    · obtain ⟨stages, stopped, rfl⟩ := stops wanted pump
      exact ⟨Clc.Still.chillsSafely stopped.still, by simp [Clc.PumpsInFlow, phase]⟩

/-! ## The law through the operations -/

theorem CoolingLaw.congr {d e : Device} (h : CoolingLaw d) (clc : e.clc = d.clc) : CoolingLaw e := by
  rw [coolingLaw_iff, clc]
  exact h

theorem CoolingLaw.only {d e : Device} {bs : List Block} (h : CoolingLaw d) (only : Only bs d e)
    (apart : .clc ∉ bs := by decide) : CoolingLaw e := h.congr (only .clc apart)

theorem CoolingLaw.raise {d : Device} (h : CoolingLaw d) (c : EventClass) (sub : Subject) (n : Option Nat) :
    CoolingLaw (d.raise c sub n) := h

/-- R113: a stage that does not run before it runs after keeps the law. -/
theorem CoolingLaw.modStage {d : Device} (h : CoolingLaw d) (c : Stage) {f : CoolStage → CoolStage}
    (hf : (f (d.stage c)).state = .running → (d.stage c).state = .running) : CoolingLaw (d.modStage c f) :=
  ⟨fun b runs => by
    rw [Device.modStage_stage] at runs
    split at runs
    · exact h.1 c (hf runs)
    · exact h.1 b runs, h.2⟩

theorem CoolingLaw.deriveOutputs {d : Device} (h : CoolingLaw d) : CoolingLaw d.deriveOutputs := h

theorem CoolingLaw.formThermal {d : Device} (h : CoolingLaw d) : CoolingLaw d.formThermal := by
  obtain ⟨x, hs, formed, e⟩ := d.formThermal_formed
  obtain ⟨rfl, -⟩ := formed.2 trivial
  rw [e]
  exact h

theorem CoolingLaw.setHold {d : Device} (h : CoolingLaw d) (tmax : Int) : CoolingLaw (d.setHold tmax) := by
  refine CoolingLaw.only (d := d.modClc fun x => { x with thermalHold := _ }) ?_ (postIf_only _ _ _)
  exact h

theorem CoolingLaw.formPump {d : Device} (h : CoolingLaw d) : CoolingLaw d.formPump := by
  obtain ⟨x, hs, follows, e⟩ := d.formPump_follows
  rw [e]
  exact follows.lawful h

/-- R113: once every stage is stopped, the law of the pump alone is left. -/
theorem CoolingLaw.stopStages {d : Device} (h : d.clc.PumpsInFlow) : CoolingLaw d.stopStages := by
  obtain ⟨stages, hs, stopped, e⟩ := d.stopStages_stopped
  rw [e]
  exact ⟨Clc.Still.chillsSafely stopped.still, h⟩

/-- R117: the pump is tried in a fault. -/
theorem CoolingLaw.tryFlow {d : Device} (h : CoolingLaw d) (fault : d.clc.phase ≠ .none) : CoolingLaw d.tryFlow := by
  obtain ⟨chills, pumps⟩ := (coolingLaw_iff d).mp h
  have flow := pumps.1.mpr fault
  refine ⟨Clc.Still.chillsSafely (chills.still (by simp [flow])), ?_⟩
  cases f : d.pins.flow <;> simp [Device.tryFlow, flow, f]

/-- R117: a fault whose stages are stopped waits. -/
theorem CoolingLaw.waitFlow {d : Device} (still : d.clc.Still) (flow : d.clc.flow = .fault) : CoolingLaw d.waitFlow :=
  ⟨Clc.Still.chillsSafely still, by simp [Device.waitFlow, flow]⟩

/-- R117: a fault in TRYING or PROVING goes back to WAITING. -/
theorem CoolingLaw.waitAgain {d : Device} (h : CoolingLaw d) (fault : d.clc.phase ≠ .none) : CoolingLaw d.waitFlow := by
  obtain ⟨chills, pumps⟩ := (coolingLaw_iff d).mp h
  have flow := pumps.1.mpr fault
  exact CoolingLaw.waitFlow (chills.still (by simp [flow])) flow

/-- R117: a flow fault establishes the law. -/
theorem flowFault_coolingLaw (d : Device) (detail : Nat) : CoolingLaw (d.flowFault detail) := by
  obtain ⟨stages, hs, stopped, e⟩ := (d.modClc fun x => { x with flow := .fault }).stopStages_stopped
  have waits : CoolingLaw (d.modClc fun x => { x with flow := .fault }).stopStages.waitFlow := by
    rw [e]
    exact CoolingLaw.waitFlow (d := { d with clc := { d.clc with flow := .fault, stages := stages }, handoffs := _ }) stopped.still rfl
  exact (waits.raise _ _ _).formThermal.deriveOutputs

/-- R113: the stages of a sample run lawfully where a demand has made the mode CHILL. -/
theorem CoolingLaw.runStages {d : Device} (h : CoolingLaw d) (chill : 0 < d.clc.demanded → d.clc.mode = .chill) :
    CoolingLaw d.runStages := by
  obtain ⟨stages, since, moves, ran, e⟩ := d.runStages_ran
  rw [e]
  refine ⟨fun c runs => ?_, h.2⟩
  obtain ran | starts := ran.running runs
  · exact h.1 c ran
  · obtain ⟨-, -, flow, fire, -⟩ := (d.clc.eligible_iff c).mp starts.2
    exact ⟨chill starts.demanded, flow, fire⟩

/-- R109: a sample without valid data stops every stage, or finds none running in BLIND. -/
theorem CoolingLaw.sampleBlind {d : Device} (h : CoolingLaw d) : CoolingLaw d.sampleBlind :=
  Device.when_keeps h fun h => (CoolingLaw.stopStages
    (d := d.modClc fun x => { x with mode := .blind, demanded := 0, fanAsked := 50, heaterAsked := 0 }) h.2).raise _ _ _

/-- R110: a demand, or a stage that runs, makes the mode CHILL. -/
theorem Device.modeFrom_chill {d : Device} (prev : CoolMode) (tmax tmin : Int)
    (h : 0 < d.clc.demanded ∨ ∃ c, (d.stage c).state = .running) : d.modeFrom prev tmax tmin = .chill := by
  have any : 0 < d.clc.demanded ∨ Stage.all.any (fun c => (d.stage c).state == .running) = true := by
    refine h.imp_right fun ⟨c, runs⟩ => List.any_eq_true.mpr ⟨c, by cases c <;> decide, by simpa using runs⟩
  exact if_pos any

/-- R109: the mode that a sample with valid data starts from. -/
def Clc.modeBefore (x : Clc) : CoolMode := if x.mode = .blind then .idle else x.mode

/-- R109: the demanded count that a sample with valid data starts from. -/
def Clc.countBefore (x : Clc) : Nat := if x.mode = .blind then 0 else x.demanded

/-- R108, R112: the last valid Tmax and the demanded count of a sample. -/
def Device.demandSet (tmax : Int) (d : Device) : Device :=
  d.modClc fun x => { x with lastTmax := some tmax, demanded := d.demandFrom d.clc.countBefore tmax }

/-- R110: the mode of a sample. -/
def Device.modeSet (prev : CoolMode) (tmax tmin : Int) (d : Device) : Device :=
  d.modClc fun x => { x with mode := d.modeFrom prev tmax tmin }

/-- R111: what the mode of a sample asks for. -/
def Device.askedSet (prev : CoolMode) (tmax tmin : Int) (d : Device) : Device :=
  d.modClc fun x => { x with fanAsked := d.fanFrom tmax, heaterAsked := d.heaterFrom prev tmin }

/-- R108: a sample with valid data before its stages move. -/
def Device.sampleSet (tmax tmin : Int) (d : Device) : Device :=
  ((d.demandSet tmax).modeSet d.clc.modeBefore tmax tmin).askedSet d.clc.modeBefore tmax tmin

theorem Device.modClc_thrice (d : Device) (f g h : Clc → Clc) :
    ((d.modClc f).modClc g).modClc h = { d with clc := (((d.modClc f).modClc g).modClc h).clc } := rfl

/-- Before the stages move a sample with valid data changes CLC alone. -/
theorem Device.sampleSet_eq (d : Device) (tmax tmin : Int) :
    d.sampleSet tmax tmin = { d with clc := (d.sampleSet tmax tmin).clc } := by
  unfold sampleSet askedSet modeSet demandSet
  exact Device.modClc_thrice _ _ _ _

/-- Before the stages move a sample with valid data changes five fields of CLC. -/
theorem Device.sampleSet_clc (d : Device) (tmax tmin : Int) : (d.sampleSet tmax tmin).clc = { d.clc with
    lastTmax := some tmax
    demanded := (d.sampleSet tmax tmin).clc.demanded
    mode := (d.sampleSet tmax tmin).clc.mode
    fanAsked := (d.sampleSet tmax tmin).clc.fanAsked
    heaterAsked := (d.sampleSet tmax tmin).clc.heaterAsked } := by
  unfold sampleSet askedSet modeSet demandSet
  rfl

theorem Device.sampleValid_eq (tmax tmin : Int) (d : Device) : d.sampleValid tmax tmin = (d.sampleSet tmax tmin).runStages := rfl

/-- R110: a sample with a demand, or with a stage that runs, is in CHILL. -/
theorem Device.sampleSet_chill {d : Device} {tmax : Int} (tmin : Int)
    (h : 0 < (d.sampleSet tmax tmin).clc.demanded ∨ ∃ c, (d.stage c).state = .running) : (d.sampleSet tmax tmin).clc.mode = .chill :=
  Device.modeFrom_chill (d := d.demandSet tmax) _ _ _ h

theorem CoolingLaw.sampleValid {d : Device} (h : CoolingLaw d) (tmax tmin : Int) : CoolingLaw (d.sampleValid tmax tmin) := by
  have chill := Device.sampleSet_chill (d := d) (tmax := tmax) tmin
  have set : CoolingLaw (d.sampleSet tmax tmin) := by
    rw [d.sampleSet_eq, d.sampleSet_clc]
    generalize (d.sampleSet tmax tmin).clc = x at chill
    refine ⟨fun c runs => ?_, h.2⟩
    obtain ⟨-, flow, fire⟩ := h.1 c runs
    exact ⟨chill (.inr ⟨c, runs⟩), flow, fire⟩
  rw [Device.sampleValid_eq]
  exact set.runStages fun demand => chill (.inl demand)

theorem CoolingLaw.clcFaultClear {d : Device} (h : CoolingLaw d) (p : Port) (v : Word) : CoolingLaw (clcFaultClear p v d).1 := by
  have cleared : ∀ which exhaust, CoolingLaw (d.clearCooling which exhaust) := fun which exhaust =>
    have stages := Device.each_keeps (xs := which) (f := Device.clearStage) h fun c _ h =>
      Device.when_keeps h fun h => h.modStage c nofun
    have exhausted := Device.when_keeps (P := CoolingLaw) (b := exhaust)
      (f := fun m => m.modClc fun x => { x with exhaustFault := false }) stages id
    Device.when_keeps exhausted CoolingLaw.formThermal
  refine row_keeps h (row_keeps h (row_keeps h ?_))
  split
  · next c _ => exact cleared [c] false
  · dsimp only
    exact cleared Stage.all true

/-! ## The resets -/

/-- R125: the blocks start with no stage running and a pump that a fire alone wants. -/
theorem startBlocks_coolingLaw {d : Device} {stages : PerStage CoolStage} (ready : ReadyToStart d stages)
    (still : ∀ c, (stages.get c).state ≠ .running) : CoolingLaw d.startBlocks := by
  obtain ⟨i, y, z, -, -, -, follows, e, -⟩ := Device.startBlocks_eq ready
  have start : ((d.startedTo i).clcStart stages).Lawful := ⟨Clc.Still.chillsSafely still, by simp [Clc.PumpsInFlow, Device.clcStart]⟩
  rw [e]
  exact follows.lawful start

theorem restart_coolingLaw (d : Device) : CoolingLaw d.restart := by
  rw [d.restart_eq]
  refine startBlocks_coolingLaw d.restart_ready.ready fun c => ?_
  rw [Clc.restartedStages, PerStage.get_map]
  split <;> decide

theorem powerOn_coolingLaw (d : Device) : CoolingLaw d.powerOn := by
  rw [d.powerOn_eq]
  exact startBlocks_coolingLaw d.loaded_ready fun c => by rw [PerStage.get_all]; decide

theorem CoolingLaw.settle {d : Device} (h : CoolingLaw d) : CoolingLaw d.settle :=
  Device.when_keeps h fun _ => restart_coolingLaw d

/-! ## Every command -/

/-- R116, R117: a change of the flow switch. -/
theorem CoolingLaw.flowSwitchChange {s t : State} {flow : Bool} (law : CoolingLaw s.dev)
    (h : execFlowSwitchChange flow s = .next t) : CoolingLaw t.dev := by
  cases h
  refine Device.when_keeps law fun law => CoolingLaw.deriveOutputs ?_
  have seen : CoolingLaw { s.dev with pins := { s.dev.pins with flow := flow } } := law
  obtain ⟨chills, pumps⟩ := (coolingLaw_iff _).mp law
  dsimp only
  split
  · next starting =>
    have still := chills.still (by simp [starting])
    have phase := pumps.phase (by simp [starting])
    exact ⟨Clc.Still.chillsSafely still, by simp [phase, pumps.2.mpr (.inl starting)]⟩
  · exact seen
  · exact seen
  · next fault => exact Device.when_keeps seen fun seen => seen.tryFlow (pumps.1.mp fault)
  · next fault => exact Device.when_keeps seen fun seen => seen.waitAgain (pumps.1.mp fault)
  · exact seen

/-- R117: a timer of a fault acts in its phase. -/
theorem Device.when_phase {d : Device} (h : CoolingLaw d) {phase : FlowPhase} {f : Device → Device}
    (hf : d.clc.phase = phase → CoolingLaw (f d)) : CoolingLaw (d.when (d.clc.phase == phase) f) := by
  cases is : d.clc.phase == phase with
  | false => exact h
  | true => exact hf (beq_iff_eq.mp is)

/-- R117: flow is confirmed as a fault ends. -/
theorem CoolingLaw.faultEnds {d : Device} (h : CoolingLaw d) (proving : d.clc.phase = .proving) :
    CoolingLaw (d.modClc fun x => { x with flow := .confirmed, phase := .none, flowTimer := none }) := by
  obtain ⟨chills, pumps⟩ := (coolingLaw_iff d).mp h
  have flow : d.clc.flow = .fault := pumps.1.mpr (by simp [proving])
  exact ⟨Clc.Still.chillsSafely (chills.still (by simp [flow])), by simp [pumps.2.mpr (.inr (.inr (.inr proving)))]⟩

/-- R113: a battery zone that burns stops every stage. -/
theorem CoolingLaw.zonesHeard {d : Device} (h : CoolingLaw d) (zs : PerZone ZoneShown) :
    let m := d.modClc fun x => { x with zones := zs }
    CoolingLaw (m.when m.clc.batteryFire (·.stopStages)) := by
  intro m
  have pumps : m.clc.PumpsInFlow := h.2
  unfold Device.when
  split
  · exact CoolingLaw.stopStages pumps
  · next fire =>
    refine ⟨fun c runs => ?_, pumps⟩
    obtain ⟨mode, flow, -⟩ := h.1 c runs
    exact ⟨mode, flow, Bool.eq_false_iff.mpr fire⟩

/-- A millisecond leaves the states as they are. -/
theorem CoolingLaw.tick (d : Device) (h : CoolingLaw d) : CoolingLaw d.tick := by
  refine ⟨fun c runs => h.1 c ?_, h.2⟩
  have same : (d.tick.stage c).state = (d.stage c).state := by cases c <;> rfl
  exact same ▸ runs

theorem coolingLaw_event {i : Instr} {s t : State} (event : requestOf i = none) (h : exec i s = .next t)
    (law : CoolingLaw s.dev) : CoolingLaw t.dev := by
  by_cases apart : .clc ∉ touches i
  · obtain ⟨d, e, only⟩ := event_completes event s
    cases h.symm.trans e
    exact law.only only apart
  · cases i with
    | powerOnReset => cases h; exact powerOn_coolingLaw _
    | warmRestart => cases h; exact law.settle
    | programmingCompletion ok =>
      cases h
      dsimp only [State.on_dev]
      split
      · exact (law.only ((Only.refl [.handoffs, .sto] _).storeEnds _ _).proceed).settle
      · exact law
    | updateCompletion ok =>
      cases h
      dsimp only [State.on_dev]
      split
      · exact (law.only ((Only.refl [.handoffs, .sto] _).updateEnds _ _).proceed).settle
      · exact law
    | integrityCheck upset =>
      cases h
      exact (law.only (((Only.refl [.handoffs, .sto] _).modSto _).when _ _ fun _ h => h.selfFailed _)).settle
    | coolingSample supply ret ambient =>
      cases h
      have taken : CoolingLaw (s.dev.sampleInputs supply ret ambient) := law
      refine CoolingLaw.deriveOutputs (CoolingLaw.formPump ?_)
      split
      · exact (taken.sampleValid _ _).formThermal.setHold _
      · exact taken.sampleBlind.formThermal
    | runFeedbackChange c running =>
      cases h
      exact Device.when_keeps law fun law => Device.when_keeps (law.only (withPins_only _ _)) fun law => law.modStage c id
    | runFeedbackExpiry c =>
      cases h
      exact Device.when_keeps law fun law => (((law.modStage c (f := fun _ => ⟨.failed, 0, none⟩) nofun).raise _ _ _).raise _ _ _).formThermal.deriveOutputs
    | flowSwitchChange flow => exact law.flowSwitchChange h
    | flowConfirmExpiry => cases h; exact Device.when_keeps law fun _ => flowFault_coolingLaw _ _
    | flowLossExpiry => cases h; exact Device.when_keeps law fun _ => flowFault_coolingLaw _ _
    | retryExpiry =>
      cases h
      exact Device.when_phase law fun waiting => (law.tryFlow (by simp [waiting])).deriveOutputs
    | tryExpiry =>
      cases h
      exact Device.when_phase law fun trying => (law.waitAgain (by simp [trying])).deriveOutputs
    | provingExpiry =>
      cases h
      exact Device.when_phase law fun proving =>
        (CoolingLaw.formThermal (d := Device.modClc _ _) (law.faultEnds proving)).deriveOutputs
    | exhaustFeedbackChange running => cases h; exact Device.when_keeps law fun law => law
    | exhaustFeedbackExpiry => cases h; exact Device.when_keeps law fun law => Device.when_keeps law fun law => law.raise _ _ _
    | zoneStageHandoffClc zs =>
      cases h
      exact ((law.only (took_only _ (.zoneStageHandoffClc zs))).zonesHeard zs).formPump.deriveOutputs
    | stringStateReportClc n st =>
      cases h
      have heard : CoolingLaw ((s.dev.took (.stringStateReportClc n st)).modClc fun x =>
        { x with stringClosed := x.stringClosed.set n (st == .closed) }) := law
      exact heard.formPump.deriveOutputs
    | siteCapWrite p dir f => cases dir <;> cases event
    | deratingWrite p via j f => cases via <;> cases event
    | expectationRewrite p n e f => cases e <;> cases event
    | _ => simp [touches, requestOf] at apart event

/-- The requests that touch CLC: COOLING_FAULT_CLEAR and RESTART. -/
theorem request_clc {kind index : Nat} (h : .clc ∈ routeTouches kind index) : kind = 3 ∧ (index = 18 ∨ index = 19) := by
  unfold routeTouches at h
  split at h <;> simp at h ⊢
  unfold serviceTouches at h
  split at h <;> simp at h ⊢

theorem coolingLaw_route (p : Port) (f : Frame) (d : Device) (law : CoolingLaw d) : CoolingLaw (route p f d).1 := by
  by_cases clc : .clc ∈ routeTouches f.kind.toNat f.index.toNat
  · obtain ⟨kind, index | index⟩ := request_clc clc <;> simp only [route, kind, service, index]
    · exact law.clcFaultClear p f.value
    · exact row_keeps law (row_keeps law (law.only (modSto_only d _)).settle)
  · exact law.only (route_only d p f) clc

end Sys2Proof.Machine

section
open Sys2Proof Sys2Proof.Machine

/-- Settles O11: the clock leaves what the law reads, and each command that touches CLC keeps the law or establishes it. -/
theorem coolingLawKept : Obligations.CoolingLawKept := fun _ _ =>
  step_keeps CoolingLaw.tick (fun _ _ _ => coolingLaw_event) (fun only law => law.only only) coolingLaw_route

end

end

section
/-! SUPPORT. COOLING_FAULT_CLEAR (R115). -/

namespace Sys2Proof.Machine

-- Bodies elaborated side by side would each hold a thread while a default argument waits for the kernel.
set_option Elab.async false

/-! ## The stages cleared -/

/-- R115: a stage after a clear. -/
def CoolStage.cleared (x : CoolStage) : CoolStage := if x.state = .failed then { x with state := .off } else x

theorem CoolStage.cleared_cleared (x : CoolStage) : x.cleared.cleared = x.cleared := by
  by_cases h : x.state = .failed <;> simp [CoolStage.cleared, h]

/-- R115: one stage is cleared. -/
theorem Device.clearStage_eq (c : Stage) (d : Device) :
    d.clearStage c = { d with clc := { d.clc with stages := d.clc.stages.set c (d.stage c).cleared } } := by
  have same : d.clc.stages.set c (d.stage c) = d.clc.stages := by cases c <;> rfl
  unfold Device.clearStage Device.when CoolStage.cleared
  split
  · next failed => rw [if_pos (beq_iff_eq.mp failed)]; rfl
  · next free => rw [if_neg (mt beq_iff_eq.mpr free), same]

/-- R115: stages cleared one after the other. -/
theorem Device.each_clearStage (xs : List Stage) (d : Device) : ∃ stages : PerStage CoolStage,
    (∀ c, stages.get c = if c ∈ xs then (d.stage c).cleared else d.stage c) ∧
    d.each xs Device.clearStage = { d with clc := { d.clc with stages := stages } } := by
  induction xs generalizing d with
  | nil => exact ⟨d.clc.stages, fun c => rfl, rfl⟩
  | cons a xs ih =>
    obtain ⟨stages, gets, e⟩ := ih (d.clearStage a)
    refine ⟨stages, fun c => ?_, ?_⟩
    · have stage : (d.clearStage a).stage c = if c = a then (d.stage a).cleared else d.stage c := by
        rw [d.clearStage_eq a]
        exact PerStage.get_set _ _ _ _
      rw [gets, stage]
      by_cases same : c = a
      · subst same; simp [CoolStage.cleared_cleared]
      · simp [same]
    · rw [d.clearStage_eq a] at e
      rw [Device.each, List.foldl_cons, d.clearStage_eq a]
      exact e

/-- R115: the named stages and, where it is named too, the exhaust flag cleared, before THERMAL is formed. -/
def Device.clearedTo (which : List Stage) (exhaust : Bool) (d : Device) : Device :=
  (d.each which Device.clearStage).when exhaust (·.modClc fun x => { x with exhaustFault := false })

theorem Device.clearCooling_eq (which : List Stage) (exhaust : Bool) (d : Device) : d.clearCooling which exhaust =
    (d.clearedTo which exhaust).when (decide ((d.clearedTo which exhaust).clc.available.length ≠ d.clc.available.length))
      (·.formThermal) := rfl

/-- R118: stages that fail no more than before are as many exactly where none of them failed before and is available after. -/
theorem Clc.available_grows {x y : Clc} (kept : ∀ c, (x.stages.get c).state ≠ .failed → (y.stages.get c).state ≠ .failed) :
    y.available.length ≠ x.available.length ↔ ∃ c, (x.stages.get c).state = .failed ∧ (y.stages.get c).state ≠ .failed := by
  have fewer : List.Sublist x.available y.available :=
    List.monotone_filter_right _ fun c h => by simpa using kept c (by simpa using h)
  have all : ∀ c, c ∈ Stage.all := fun c => by cases c <;> decide
  have mem : ∀ (z : Clc) c, c ∈ z.available ↔ (z.stages.get c).state ≠ .failed := fun z c => by simp [Clc.available, all]
  constructor
  · intro differs
    by_contra none
    push Not at none
    refine differs (congrArg List.length (List.filter_congr fun c _ => ?_))
    by_cases h : (x.stages.get c).state = .failed
    · rw [h, none c h]
    · rw [bne_iff_ne.mpr h, bne_iff_ne.mpr (kept c h)]
  · rintro ⟨c, failed, free⟩ same
    exact (mem x c).mp (fewer.eq_of_length same.symm ▸ (mem y c).mpr free) failed

/-- R118: THERMAL formed under a condition that holds. -/
theorem ThermalFormed.ofHolds {y x : Clc} {hs : List Instr} (h : ThermalFormed y True x hs) {formed : Prop} (holds : formed) :
    ThermalFormed y formed x hs := ⟨fun no => absurd holds no, fun _ => h.2 trivial⟩

theorem ThermalFormed.unchanged {y : Clc} {formed : Prop} (no : ¬formed) : ThermalFormed y formed y [] :=
  ⟨fun _ => ⟨rfl, rfl⟩, fun h => absurd h no⟩

theorem ThermalFormed.stages {y x : Clc} {hs : List Instr} (h : ThermalFormed y True x hs) : x.stages = y.stages := by
  obtain ⟨rfl, -⟩ := h.2 trivial
  rfl

/-- R115, R118: what a clear leaves: the named stages cleared, and THERMAL formed where one of them had FAILED. -/
theorem Device.clearCooling_cleared (d : Device) (which : List Stage) (exhaust : Bool) : ∃ x hs,
    ThermalFormed { d.clc with stages := x.stages, exhaustFault := if exhaust then false else d.clc.exhaustFault }
      (∃ c ∈ which, (d.stage c).state = .failed) x hs ∧
    (∀ c, x.stages.get c = if c ∈ which then (d.stage c).cleared else d.stage c) ∧
    d.clearCooling which exhaust = { d with clc := x, handoffs := d.handoffs ++ hs } := by
  obtain ⟨stages, gets, e⟩ := d.each_clearStage which
  have exhausted : d.clearedTo which exhaust =
      { d with clc := { d.clc with stages := stages, exhaustFault := if exhaust then false else d.clc.exhaustFault } } := by
    rw [Device.clearedTo, e]
    cases exhaust <;> rfl
  rw [d.clearCooling_eq, exhausted]
  generalize hy : ({ d.clc with
    stages := stages, exhaustFault := if exhaust then false else d.clc.exhaustFault } : Clc) = y
  dsimp only
  have state : ∀ c, (y.stages.get c).state = .failed ↔ c ∉ which ∧ (d.stage c).state = .failed := fun c => by
    subst hy
    change (stages.get c).state = _ ↔ _
    rw [gets]
    by_cases named : c ∈ which <;> by_cases failed : (d.stage c).state = .failed <;> simp [named, failed, CoolStage.cleared]
  have grown : y.available.length ≠ d.clc.available.length ↔ ∃ c ∈ which, (d.stage c).state = .failed := by
    rw [Clc.available_grows fun c free => mt (fun h => ((state c).mp h).2) free]
    exact exists_congr fun c => by rw [Ne, state]; change (d.stage c).state = _ ∧ _ ↔ _; tauto
  by_cases freed : ∃ c ∈ which, (d.stage c).state = .failed
  · obtain ⟨x, hs, formed, e⟩ := ({ d with clc := y } : Device).formThermal_formed
    have same : x.stages = stages := by rw [formed.stages, ← hy]
    refine ⟨x, hs, ?_, fun c => same ▸ gets c, ?_⟩
    · rw [same, hy]
      exact formed.ofHolds freed
    · rw [decide_eq_true (grown.mpr freed)]
      exact e
  · refine ⟨y, [], ?_, hy ▸ gets, ?_⟩
    · rw [show y.stages = stages by rw [← hy], hy]
      exact .unchanged freed
    · rw [decide_eq_false (mt grown.mp freed), List.append_nil]
      rfl

/-! ## The request -/

theorem linksApart_formThermal : LinksApart Device.formThermal := by
  intro d l
  obtain ⟨x, hs, formed, e⟩ := d.formThermal_formed
  obtain ⟨x', hs', formed', e'⟩ := ({ d with pif := l } : Device).formThermal_formed
  obtain ⟨rfl, rfl⟩ := formed.2 trivial
  obtain ⟨rfl, rfl⟩ := formed'.2 trivial
  rw [e, e']

theorem linksApart_clearCooling (which : List Stage) (exhaust : Bool) : LinksApart (·.clearCooling which exhaust) := by
  have stage : ∀ c, LinksApart (·.clearStage c) := fun c =>
    LinksApart.when (b := fun d => (d.stage c).state == .failed) (fun _ _ => rfl) fun _ _ => rfl
  have fan : LinksApart (·.when exhaust (·.modClc fun x => { x with exhaustFault := false })) := fun d l => by
    cases exhaust <;> rfl
  have ends : LinksApart (·.clearedTo which exhaust) := fan.comp (LinksApart.each stage which)
  intro d l
  have cleared : Device.clearedTo which exhaust { d with pif := l } = { d.clearedTo which exhaust with pif := l } := ends d l
  simp only [Device.clearCooling_eq, cleared, Device.when]
  split
  · exact linksApart_formThermal _ l
  · rfl

/-- R115: the stages that a number of the service names. -/
def stagesNamed (n : Nat) : List Stage := Stage.all.filter fun c => n == 0 || n == c.num

/-- R115: the rows of COOLING_FAULT_CLEAR at a port that is trusted. -/
theorem clcFaultClear_rows {p : Port} {d : Device} (port : p ≠ .converter) (trust : (d.standing p).trusted = true) (v : Word) :
    (3 < v.toNat → clcFaultClear p v d = (d, .no .range)) ∧
    (v.toNat ≤ 3 → clcFaultClear p v d = (d.clearCooling (stagesNamed v.toNat) (v.toNat == 0), .done)) := by
  unfold clcFaultClear
  rw [if_neg port, trust]
  refine ⟨fun high => if_pos high, fun low => ?_⟩
  rw [if_neg (by decide), if_neg (Nat.not_lt.mpr low)]
  generalize v.toNat = n at low
  interval_cases n <;> rfl

end Sys2Proof.Machine

section
open Sys2Proof Sys2Proof.Machine

/-- Settles O33: the rows of R115 in turn, and the clear as `clearCooling_cleared` has it. -/
theorem coolingFaultClearReturnsStages : Obligations.CoolingFaultClearReturnsStages := by
  intro p f s h
  obtain ⟨r, hr, hrun, hchk⟩ := h
  cases hr
  have trusted : (s.dev.standing p).trusted = true ↔ Trusted s.dev p := Standing.trusted_iff _
  refine ⟨_, rfl, fun hp => ?_, fun hp ht => ?_, fun hp ht high => ?_, fun hp ht low => ?_⟩
  · exact request_refuses hrun hchk .denied (by simp [clcFaultClear, hp])
  · have barred : ((s.dev.clockOut p).standing p).trusted = false := Bool.eq_false_iff.mpr (mt trusted.mp ht)
    exact request_refuses hrun hchk .noStanding (by simp [clcFaultClear, hp, barred])
  · exact request_refuses hrun hchk .range ((clcFaultClear_rows (d := s.dev.clockOut p) hp (trusted.mpr ht) f.value).1 high)
  · intro named freed
    have acts := (clcFaultClear_rows (d := s.dev.clockOut p) hp (trusted.mpr ht) f.value).2 low
    obtain ⟨x, hs, formed, stages, cleared⟩ := s.dev.clearCooling_cleared (stagesNamed f.value.toNat) (f.value.toNat == 0)
    have mem : ∀ c, c ∈ stagesNamed f.value.toNat ↔ named c = true := fun c => by
      have all : c ∈ Stage.all := by cases c <;> decide
      simp [stagesNamed, named, all]
    refine ⟨x, hs, ?_, fun c => ?_, ?_⟩
    · simp only [mem, beq_iff_eq] at formed
      exact formed
    · rw [stages c, if_congr (mem c) rfl rfl, CoolStage.cleared, ite_and]
    · rw [← cleared]
      exact request_applies (linksApart_clearCooling _ _) (clearCooling_only _ _ _ .pif (by decide)) hrun hchk acts

end

end

section
/-! SUPPORT. Feedback, flow and timer events of the cooling loop and its hand-offs (R114, R116 to R118, R120, R121). -/

namespace Sys2Proof.Machine

-- Bodies elaborated side by side would each hold a thread while a default argument waits for the kernel.
set_option Elab.async false

/-- A command that acts where a condition holds. -/
theorem exec_where {i : Instr} {s : State} {b : Device → Bool} {f : Device → Device}
    (run : exec i s = s.next fun d => d.when (b d) f) :
    (b s.dev = false → exec i s = .next s) ∧ (b s.dev = true → exec i s = .next ⟨s.pending, f s.dev⟩) := by
  refine ⟨fun idle => run.trans ?_, fun acts => run.trans ?_⟩
  · simp only [State.next, State.on, Device.when, idle]
    rfl
  · simp only [State.next, State.on, Device.when, acts]
    rfl

theorem next_congr {s : State} {d e : Device} (h : d = e) : (.next ⟨s.pending, d⟩ : Out) = .next ⟨s.pending, e⟩ := h ▸ rfl

/-! ## What the exhaust feedback timer follows from -/

theorem ThermalFormed.exhaust {y x : Clc} {hs : List Instr} (h : ThermalFormed y True x hs) :
    x.exhaust = y.exhaust ∧ x.exhaustTimer = y.exhaustTimer := by
  obtain ⟨rfl, -⟩ := h.2 trivial
  exact ⟨rfl, rfl⟩

/-- R116, R117: the pump want leaves everything but the pump, the flow and the stages. -/
theorem PumpFollows.keeps {d : Device} {y y' : Clc} {hs : List Instr} (h : PumpFollows d y y' hs) : y' = { y with
    pump := y'.pump, flow := y'.flow, phase := y'.phase, flowTimer := y'.flowTimer, stages := y'.stages } := by
  obtain ⟨faulty, sound⟩ := h
  by_cases flow : y.flow = .fault <;> by_cases wanted : PumpWanted y
  · obtain ⟨tries, stays, -⟩ := faulty flow
    by_cases held : y.phase = .held
    · rw [(tries wanted held).1]
    · rw [(stays wanted held).1]
  · rw [((faulty flow).2.2 wanted).1]
  · obtain ⟨stays, confirms, starts, -, -⟩ := sound flow
    cases pump : y.pump with
    | true => rw [(stays wanted pump).1]
    | false =>
      cases seen : d.pins.flow with
      | true => rw [(confirms wanted pump seen).1]
      | false => rw [(starts wanted pump seen).1]
  · obtain ⟨-, -, -, rests, stops⟩ := sound flow
    cases pump : y.pump with
    | true =>
      obtain ⟨stages, -, e⟩ := stops wanted pump
      rw [e]
    | false => rw [(rests wanted pump).1]

theorem PumpFollows.exhaust {d : Device} {y y' : Clc} {hs : List Instr} (h : PumpFollows d y y' hs) :
    y'.exhaust = y.exhaust ∧ y'.exhaustTimer = y.exhaustTimer := by
  rw [h.keeps]
  exact ⟨rfl, rfl⟩

/-- R121, R120: the outputs of record y derived over part m, at the end of an event that began at d. -/
theorem outputs_derived {d : Device} (m : Device) {y : Clc}
    (exhaust : y.exhaust = d.clc.exhaust ∧ y.exhaustTimer = d.clc.exhaustTimer) :
    let e := ({ m with clc := y } : Device).deriveOutputs
    e = { m with clc := y.withOutputs e.clc } ∧ OutputsFollow d e :=
  ⟨Device.deriveOutputs_eq _, Device.deriveOutputs_follow exhaust.1 exhaust.2⟩

/-! ## The events -/

/-- R114: the run-feedback timer of a running stage follows its feedback. -/
theorem runFeedbackChange_times (d : Device) (c : Stage) (running : Bool) :
    let m : Device := { d with pins := { d.pins with runFeedback := d.pins.runFeedback.set c running } }
    m.when ((m.stage c).state == .running) (·.modStage c fun r => { r with timer := if running then none else some 5000 }) =
      { m with clc := if (d.stage c).state = .running then
          { d.clc with stages := d.clc.stages.set c { d.stage c with timer := if running then none else some 5000 } }
        else d.clc } := by
  intro m
  have stage : m.stage c = d.stage c := rfl
  rw [stage]
  by_cases runs : (d.stage c).state = .running
  · rw [if_pos runs, beq_iff_eq.mpr runs]
    rfl
  · rw [if_neg runs, beq_eq_false_iff_ne.mpr runs]
    rfl

/-- R120: the exhaust feedback timer at a change of the feedback. -/
theorem exhaustTimerAfter_changed (on running : Bool) (t : Option Nat) :
    exhaustTimerAfter false on running t = if on = true ∧ running = false then some 5000 else none := by
  cases on <;> cases running <;> rfl

/-- R120: the exhaust fan's fault is raised once. -/
theorem exhaustFeedbackExpiry_flags (d : Device) :
    (d.modClc fun x => { x with exhaustTimer := none, exhaustFault := true }).when (!d.clc.exhaustFault)
      (·.raise .coolingFault (.table 8) (some 5)) =
    { d with
      clc := { d.clc with exhaustTimer := none, exhaustFault := true }
      handoffs := d.handoffs ++
        if d.clc.exhaustFault then [] else [.eventOccurrence ⟨.coolingFault, .table 8, some 5, false⟩] } := by
  cases d.clc.exhaustFault with
  | true => rw [if_pos rfl, List.append_nil]; rfl
  | false => rfl

/-- R114: a stage that shows no run feedback fails. -/
theorem runFeedbackExpiry_fails (d : Device) (c : Stage) : ∃ y hs,
    ThermalFormed { d.clc with stages := d.clc.stages.set c ⟨.failed, 0, none⟩ } True y hs ∧
    let e := ((((d.modStage c fun _ => ⟨.failed, 0, none⟩).raise .coolingStageChange (.stage c) (some 2)).raise .coolingFault
      (.stage c) (some 2)).formThermal).deriveOutputs
    OutputsFollow d e ∧ e = { d with
      clc := y.withOutputs e.clc
      handoffs := d.handoffs ++ (stageStopped c :: .eventOccurrence ⟨.coolingFault, .stage c, some 2, false⟩ :: hs) } := by
  obtain ⟨y, hs, formed, e⟩ := ((((d.modStage c fun _ => ⟨.failed, 0, none⟩).raise .coolingStageChange (.stage c)
    (some 2)).raise .coolingFault (.stage c) (some 2)).formThermal_formed)
  have told : d.handoffs ++ [stageStopped c] ++ [.eventOccurrence ⟨.coolingFault, .stage c, some 2, false⟩] ++ hs =
      d.handoffs ++ (stageStopped c :: .eventOccurrence ⟨.coolingFault, .stage c, some 2, false⟩ :: hs) := by simp
  obtain ⟨stands, follow⟩ := outputs_derived (d := d)
    { d with handoffs := d.handoffs ++ [stageStopped c] ++ [.eventOccurrence ⟨.coolingFault, .stage c, some 2, false⟩] ++ hs }
    formed.exhaust
  refine ⟨y, hs, formed, ?_⟩
  rw [e]
  rw [← told]
  exact ⟨follow, stands⟩

/-- R116, R117: CLC once the flow switch shows this level. -/
def Clc.flowSwitched (x : Clc) (flow : Bool) : Clc :=
  if flow = true then
    (if x.flow = .starting then { x with flow := .confirmed, flowTimer := none }
     else if x.flow = .confirmed then { x with flowTimer := none }
     else if x.flow = .fault ∧ x.phase = .trying then { x with pump := true, phase := .proving, flowTimer := some 10000 }
     else x)
  else if x.flow = .confirmed then { x with flowTimer := some 5000 }
  else if x.flow = .fault ∧ x.phase = .proving then { x with pump := false, phase := .waiting, flowTimer := some 60000 }
  else x

theorem Clc.flowSwitched_exhaust (x : Clc) (flow : Bool) :
    (x.flowSwitched flow).exhaust = x.exhaust ∧ (x.flowSwitched flow).exhaustTimer = x.exhaustTimer := by
  unfold Clc.flowSwitched
  constructor <;> split_ifs <;> rfl

theorem execFlowSwitchChange_eq (flow : Bool) (s : State) : execFlowSwitchChange flow s = s.next fun d =>
    d.when (d.pins.flow != flow) fun d =>
      Device.deriveOutputs { d with pins := { d.pins with flow := flow }, clc := d.clc.flowSwitched flow } := by
  unfold execFlowSwitchChange
  congr 1
  funext d
  refine congrArg (d.when (d.pins.flow != flow)) (funext fun d => congrArg Device.deriveOutputs ?_)
  obtain trying | trying := eq_or_ne d.clc.phase .trying <;> obtain proving | proving := eq_or_ne d.clc.phase .proving <;>
    cases flow <;> cases state : d.clc.flow <;>
    simp [state, trying, proving, Clc.flowSwitched, Device.modClc, Device.when, Device.tryFlow, Device.waitFlow]

/-- R117: the fault ends with the proof of the flow. -/
theorem provingExpiry_confirms (d : Device) : ∃ y hs,
    let e := ((d.modClc fun x => { x with flow := .confirmed, phase := .none, flowTimer := none }).formThermal).deriveOutputs
    OutputsFollow d e ∧
    ThermalFormed { d.clc with flow := .confirmed, phase := .none, flowTimer := none } True y hs ∧
    e = { d with clc := y.withOutputs e.clc, handoffs := d.handoffs ++ hs } := by
  obtain ⟨y, hs, formed, e⟩ :=
    (d.modClc fun x => { x with flow := .confirmed, phase := .none, flowTimer := none }).formThermal_formed
  obtain ⟨stands, follow⟩ := outputs_derived (d := d) { d with handoffs := d.handoffs ++ hs } formed.exhaust
  refine ⟨y, hs, ?_⟩
  rw [e]
  exact ⟨follow, formed, stands⟩

/-- R116, R121: the pump want of record y is acted on over part m, at the end of an event that began at d. -/
theorem pump_follows {d : Device} (m : Device) {y : Clc} (pins : m.pins = d.pins)
    (exhaust : y.exhaust = d.clc.exhaust ∧ y.exhaustTimer = d.clc.exhaustTimer) : ∃ y' hs,
    let e := ({ m with clc := y } : Device).formPump.deriveOutputs
    PumpFollows d y y' hs ∧ OutputsFollow d e ∧ e = { m with clc := y'.withOutputs e.clc, handoffs := m.handoffs ++ hs } := by
  obtain ⟨y', hs, follows, e⟩ := ({ m with clc := y } : Device).formPump_follows
  have kept : y'.exhaust = d.clc.exhaust ∧ y'.exhaustTimer = d.clc.exhaustTimer :=
    ⟨follows.exhaust.1.trans exhaust.1, follows.exhaust.2.trans exhaust.2⟩
  obtain ⟨stands, follow⟩ := outputs_derived (d := d) { m with handoffs := m.handoffs ++ hs } kept
  refine ⟨y', hs, ?_⟩
  rw [e]
  exact ⟨follows.congr pins.symm, follow, stands⟩

/-- R113, R116, R121: the zones' stages are taken: a battery zone that burns stops every stage. -/
theorem zoneStages_taken (d m : Device) (zs : PerZone ZoneShown) (pins : m.pins = d.pins) (clc : m.clc = d.clc) :
    let x := { d.clc with zones := zs }
    ∃ y y' stages stops hs,
      let h := m.modClc fun x => { x with zones := zs }
      let e := (h.when h.clc.batteryFire (·.stopStages)).formPump.deriveOutputs
      StagesStopped d stages stops ∧ y = (if x.batteryFire then { x with stages := stages } else x) ∧
      PumpFollows d y y' hs ∧ OutputsFollow d e ∧
      e = { m with
        clc := y'.withOutputs e.clc
        handoffs := m.handoffs ++ ((if x.batteryFire then stops else []) ++ hs) } := by
  intro x
  obtain ⟨stages, stops, stopped, e⟩ := ({ m with clc := x } : Device).stopStages_stopped
  have heard : m.modClc (fun x => { x with zones := zs }) = { m with clc := x } := by rw [Device.modClc, clc]
  have kept : ∀ stages, ({ x with stages := stages } : Clc).exhaust = d.clc.exhaust ∧
      ({ x with stages := stages } : Clc).exhaustTimer = d.clc.exhaustTimer := fun _ => ⟨rfl, rfl⟩
  simp only [heard]
  cases fire : x.batteryFire with
  | true =>
    obtain ⟨y', hs, follows, outputs, stands⟩ := pump_follows (d := d) { m with handoffs := m.handoffs ++ stops } pins (kept stages)
    refine ⟨_, y', stages, stops, hs, stopped, rfl, follows, ?_⟩
    simp only [Device.when, if_true, e]
    rw [List.append_assoc] at stands
    exact ⟨outputs, stands⟩
  | false =>
    obtain ⟨y', hs, follows⟩ := pump_follows (d := d) m pins (kept d.clc.stages)
    exact ⟨_, y', stages, stops, hs, stopped, rfl, follows⟩

end Sys2Proof.Machine

section
open Sys2Proof Sys2Proof.Machine

/-- Settles O53: each event acts where it finds its level changed, its timer running or its phase, and the hand-offs always. -/
theorem coolingEventsMoveTheLoop : Obligations.CoolingEventsMoveTheLoop := by
  intro s d x same pins stage
  refine ⟨fun c running => ?_, fun c => ?_, fun flow => ?_, fun i detail ready mem => ?_, fun i phase y mem => ?_, ?_,
    fun running => ?_, ?_, fun zs => ?_, fun n st => ?_⟩
  · obtain ⟨idle, acts⟩ := exec_where (i := .runFeedbackChange c running) (s := s) rfl
    refine ⟨fun level => idle (bne_eq_false_iff_eq.mpr level), fun level => (acts (bne_iff_ne.mpr level)).trans ?_⟩
    exact next_congr (runFeedbackChange_times d c running)
  · obtain ⟨idle, acts⟩ := exec_where (i := .runFeedbackExpiry c) (s := s) rfl
    refine ⟨fun off => idle (Option.isSome_eq_false_iff.mpr (Option.isNone_iff_eq_none.mpr off)), fun on => ?_⟩
    obtain ⟨y, hs, formed, outputs, stands⟩ := runFeedbackExpiry_fails d c
    exact ⟨_, y, hs, acts (Option.isSome_iff_ne_none.mpr on), formed, outputs, stands⟩
  · obtain ⟨idle, acts⟩ := exec_where (i := .flowSwitchChange flow) (execFlowSwitchChange_eq flow s)
    refine ⟨fun level => idle (bne_eq_false_iff_eq.mpr level), fun level => ⟨_, acts (bne_iff_ne.mpr level), ?_⟩⟩
    exact outputs_derived (d := pins { d.pins with flow := flow }) (pins { d.pins with flow := flow }) (x.flowSwitched_exhaust flow)
  · simp only [List.mem_cons, Prod.mk.injEq, List.not_mem_nil, or_false] at mem
    obtain ⟨rfl, rfl, rfl⟩ | ⟨rfl, rfl, rfl⟩ := mem
    · obtain ⟨idle, acts⟩ := exec_where (i := .flowConfirmExpiry) (s := s) rfl
      exact ⟨idle, fun ready => ⟨_, acts ready, d.flowFault_faulted 3⟩⟩
    · obtain ⟨idle, acts⟩ := exec_where (i := .flowLossExpiry) (s := s) rfl
      exact ⟨idle, fun ready => ⟨_, acts ready, d.flowFault_faulted 4⟩⟩
  · simp only [List.mem_cons, Prod.mk.injEq, List.not_mem_nil, or_false] at mem
    obtain ⟨rfl, rfl, rfl⟩ | ⟨rfl, rfl, rfl⟩ := mem
    · obtain ⟨idle, acts⟩ := exec_where (i := .retryExpiry) (s := s) rfl
      refine ⟨fun no => idle (beq_eq_false_iff_ne.mpr no), fun is => ⟨_, acts (beq_iff_eq.mpr is), ?_⟩⟩
      exact outputs_derived d ⟨rfl, rfl⟩
    · obtain ⟨idle, acts⟩ := exec_where (i := .tryExpiry) (s := s) rfl
      refine ⟨fun no => idle (beq_eq_false_iff_ne.mpr no), fun is => ⟨_, acts (beq_iff_eq.mpr is), ?_⟩⟩
      exact outputs_derived d ⟨rfl, rfl⟩
  · obtain ⟨idle, acts⟩ := exec_where (i := .provingExpiry) (s := s) rfl
    refine ⟨fun no => idle (beq_eq_false_iff_ne.mpr no), fun is => ?_⟩
    obtain ⟨y, hs, confirms⟩ := provingExpiry_confirms d
    exact ⟨_, y, hs, acts (beq_iff_eq.mpr is), confirms⟩
  · obtain ⟨idle, acts⟩ := exec_where (i := .exhaustFeedbackChange running) (s := s) rfl
    refine ⟨fun level => idle (bne_eq_false_iff_eq.mpr level), fun level => (acts (bne_iff_ne.mpr level)).trans ?_⟩
    exact next_congr (congrArg (fun t => { pins { d.pins with exhaustFeedback := running } with
      clc := { x with exhaustTimer := t } }) (exhaustTimerAfter_changed x.exhaust running x.exhaustTimer))
  · obtain ⟨idle, acts⟩ := exec_where (i := .exhaustFeedbackExpiry) (s := s) rfl
    refine ⟨fun off => idle (Option.isSome_eq_false_iff.mpr (Option.isNone_iff_eq_none.mpr off)), fun on =>
      (acts (Option.isSome_iff_ne_none.mpr on)).trans ?_⟩
    exact next_congr (exhaustFeedbackExpiry_flags d)
  · obtain ⟨y, y', stages, stops, hs, stopped, taken⟩ := zoneStages_taken d (d.took (.zoneStageHandoffClc zs)) zs rfl rfl
    obtain ⟨_, follows, outputs, stands⟩ := taken
    exact ⟨_, y, y', stages, stops, hs, rfl, stopped, ‹_›, follows, outputs, stands⟩
  · obtain ⟨y, hs, follows⟩ := pump_follows (d := d) (d.took (.stringStateReportClc n st))
      (y := { x with stringClosed := x.stringClosed.set n (st == .closed) }) rfl ⟨rfl, rfl⟩
    exact ⟨_, y, hs, rfl, follows⟩

end

end

section
/-! SUPPORT. The demand, the mode and what it asks for at a sample (R109 to R112, R119). -/

namespace Sys2Proof.Machine

-- Bodies elaborated side by side would each hold a thread while a default argument waits for the kernel.
set_option Elab.async false

/-! ## The demanded count (R112) -/

/-- R112: the count rises past each start point below Tmax, and no further. -/
theorem raiseCount_rises (base step tmax : Int) {fuel n : Nat} (enough : 3 ≤ n + fuel) (most : n ≤ 3) :
    let r := raiseCount base step tmax fuel n
    n ≤ r ∧ r ≤ 3 ∧ (∀ k, n ≤ k → k < r → base + k * step < tmax) ∧ (r < 3 → tmax ≤ base + r * step) := by
  induction fuel generalizing n with
  | zero => exact ⟨le_refl n, most, fun k above below => absurd above (Nat.not_le.mpr below), fun less => absurd less (Nat.not_lt.mpr enough)⟩
  | succ fuel ih =>
    intro r
    by_cases called : n < 3 ∧ base + n * step < tmax
    · have next : r = raiseCount base step tmax fuel (n + 1) := if_pos called
      obtain ⟨up, high, passed, stops⟩ := ih (n := n + 1) (by omega) called.1
      rw [next]
      refine ⟨by omega, high, fun k above below => ?_, stops⟩
      obtain rfl | more := eq_or_lt_of_le above
      · exact called.2
      · exact passed k more below
    · have same : r = n := if_neg called
      rw [same]
      exact ⟨le_refl n, most, fun k above below => absurd above (Nat.not_le.mpr below),
        fun less => not_lt.mp fun start => called ⟨less, start⟩⟩

/-- R112: the count falls past each stop point above Tmax, and no further. -/
theorem lowerCount_falls (base step hyst tmax : Int) (n : Nat) :
    let r := lowerCount base step hyst tmax n
    r ≤ n ∧ (∀ k, r ≤ k → k < n → tmax < base + k * step - hyst) ∧ (0 < r → base + (r - 1 : Nat) * step - hyst ≤ tmax) := by
  induction n with
  | zero => exact ⟨le_refl 0, fun k _ below => absurd below (Nat.not_lt_zero k), fun pos => absurd pos (lt_irrefl 0)⟩
  | succ n ih =>
    intro r
    by_cases released : tmax < base + n * step - hyst
    · have next : r = lowerCount base step hyst tmax n := if_pos released
      obtain ⟨down, passed, stops⟩ := ih
      rw [next]
      refine ⟨by omega, fun k above below => ?_, stops⟩
      obtain rfl | less := eq_or_lt_of_le (Nat.le_of_lt_succ below)
      · exact released
      · exact passed k above less
    · have same : r = n + 1 := if_neg released
      rw [same]
      exact ⟨le_refl _, fun k above below => absurd above (Nat.not_le.mpr below), fun _ => not_lt.mp released⟩

/-- R112: the demanded count against the start and the stop points of the stages. -/
theorem Device.demandFrom_between {d : Device} (hyst : 0 ≤ d.coolItem 6) {count : Nat} (most : count ≤ 3) (tmax : Int) :
    let first (m : Nat) := d.coolItem 4 + (m - 1 : Nat) * d.coolItem 5
    let n := d.demandFrom count tmax
    n ≤ 3 ∧ (count < n → first n < tmax) ∧ (count ≤ n → n < 3 → tmax ≤ first (n + 1)) ∧
      (n < count → tmax < first (n + 1) - d.coolItem 6) ∧ (0 < n → n ≤ count → first n - d.coolItem 6 ≤ tmax) := by
  intro first n
  obtain ⟨up, high, called, tops⟩ := raiseCount_rises (d.coolItem 4) (d.coolItem 5) tmax (fuel := 3) (n := count) (by omega) most
  obtain ⟨down, released, stops⟩ := lowerCount_falls (d.coolItem 4) (d.coolItem 5) (d.coolItem 6) tmax
    (raiseCount (d.coolItem 4) (d.coolItem 5) tmax 3 count)
  have is : lowerCount (d.coolItem 4) (d.coolItem 5) (d.coolItem 6) tmax
    (raiseCount (d.coolItem 4) (d.coolItem 5) tmax 3 count) = n := rfl
  rw [is] at down released stops
  generalize raiseCount (d.coolItem 4) (d.coolItem 5) tmax 3 count = r at *
  have point : first (n + 1) = d.coolItem 4 + n * d.coolItem 5 := by simp [first]
  refine ⟨by omega, fun more => called (n - 1) (by omega) (by omega), fun _ less => ?_, fun fewer => ?_, fun pos _ => stops pos⟩
  · rw [point]
    obtain same | lower := eq_or_lt_of_le down
    · exact same ▸ tops (by omega)
    · have := released n (le_refl n) lower
      omega
  · rw [point]
    exact released n (le_refl n) (by omega)

/-- R123: the hysteresis of a sound table 8 is not negative. -/
theorem Sound.hyst_nonneg {xs : List Int} (h : Sound .t8 xs) : 0 ≤ xs.getD 6 0 := by
  obtain ⟨length, ranges, -⟩ := h
  have range : (rangeOf .t8 6).has (xs.getD 6 0) = true := ranges 6 (length ▸ by decide) rfl
  have low : (1 : Int) ≤ xs.getD 6 0 := by
    simp only [Range.has, Bool.and_eq_true, decide_eq_true_eq] at range
    exact range.1
  omega

/-! ## The mode and what it asks for (R110, R111) -/

/-- R110: the rows below CHILL. -/
theorem Device.modeFrom_calm {d : Device} (prev : CoolMode) (tmax tmin : Int) (demand : d.clc.demanded = 0)
    (still : ∀ c, (d.stage c).state ≠ .running) :
    let warm := if prev = .cool ∨ prev = .chill then d.coolItem 2 ≤ tmax else d.coolItem 3 < tmax
    let cold := if prev = .heat then tmin ≤ d.coolItem 1 else tmin < d.coolItem 0
    (warm → d.modeFrom prev tmax tmin = .cool) ∧ (¬warm → cold → d.modeFrom prev tmax tmin = .heat) ∧
      (¬warm → ¬cold → d.modeFrom prev tmax tmin = .idle) := by
  have no : ¬(0 < d.clc.demanded ∨ Stage.all.any (fun c => (d.stage c).state == .running) = true) := by
    simp [demand, still]
  have rows : d.modeFrom prev tmax tmin = if (if prev = .cool ∨ prev = .chill then d.coolItem 2 ≤ tmax else d.coolItem 3 < tmax)
      then .cool else if (if prev = .heat then tmin ≤ d.coolItem 1 else tmin < d.coolItem 0) then .heat else .idle := by
    refine (if_neg no).trans ?_
    by_cases cooling : prev = .cool ∨ prev = .chill <;> by_cases heating : prev = .heat <;> simp [cooling, heating]
  intro warm cold
  exact ⟨fun hw => rows.trans (if_pos hw), fun hw hc => rows.trans ((if_neg hw).trans (if_pos hc)),
    fun hw hc => rows.trans ((if_neg hw).trans (if_neg hc))⟩

/-- R111: the heater stages asked for. -/
theorem Device.heaterFrom_heat {d : Device} (prev : CoolMode) (tmin : Int) (mode : d.clc.mode = .heat) : d.heaterFrom prev tmin =
    if tmin < d.coolItem 0 - 100 ∨ tmin ≤ d.coolItem 0 - 50 ∧ prev = .heat ∧ d.clc.heaterAsked = 2 then 2 else 1 := by
  unfold Device.heaterFrom
  rw [if_neg (not_not.mpr mode)]
  by_cases low : tmin < d.coolItem 0 - 100
  · rw [if_pos low, if_pos (.inl low)]
  · rw [if_neg low]
    by_cases high : d.coolItem 0 - 50 < tmin
    · rw [if_pos high, if_neg (by omega)]
    · rw [if_neg high]
      exact if_congr (by simp [low, not_lt.mp high]) rfl rfl

theorem Device.heaterFrom_other {d : Device} (prev : CoolMode) (tmin : Int) (mode : d.clc.mode ≠ .heat) : d.heaterFrom prev tmin = 0 :=
  if_pos mode

theorem Device.fanFrom_cooling {d : Device} (tmax : Int) (mode : d.clc.mode = .cool ∨ d.clc.mode = .chill) :
    d.fanFrom tmax = min 100 (max 20 ((tmax - d.coolItem 2) * 100 / (d.coolItem 4 - d.coolItem 2))) := by
  unfold Device.fanFrom
  obtain mode | mode := mode <;> rw [mode] <;> rfl

theorem Device.fanFrom_other {d : Device} (tmax : Int) (mode : d.clc.mode = .idle ∨ d.clc.mode = .heat) : d.fanFrom tmax = 0 := by
  unfold Device.fanFrom
  obtain mode | mode := mode <;> rw [mode]

/-! ## The thermal hold (R119) -/

/-- R119: the hold at Tmax. -/
def Device.holdAt (d : Device) (tmax : Int) : Bool :=
  if d.coolItem 11 ≤ tmax then true else if tmax ≤ d.coolItem 11 - 20 then false else d.clc.thermalHold

theorem Device.setHold_eq (d : Device) (tmax : Int) : d.setHold tmax = { d with
    clc := { d.clc with thermalHold := d.holdAt tmax }
    handoffs := d.handoffs ++ if d.holdAt tmax = d.clc.thermalHold then [] else [.thermalHoldHandoff (d.holdAt tmax)] } := by
  unfold Device.setHold Device.postIf
  change (if (d.holdAt tmax != d.clc.thermalHold) = true then _ else _) = _
  by_cases same : d.holdAt tmax = d.clc.thermalHold
  · rw [if_neg (by simp [same]), if_pos same, List.append_nil]
    rfl
  · rw [if_pos (bne_iff_ne.mpr same), if_neg same]
    rfl

end Sys2Proof.Machine
end

section
/-! SUPPORT. A cooling sample as a whole (R108, R109, R113, R116, R118). -/

namespace Sys2Proof.Machine

-- Bodies elaborated side by side would each hold a thread while a default argument waits for the kernel.
set_option Elab.async false

/-! ## The pump at a sample -/

/-- R116: where no stage runs without a pump want, the pump stops no stage. -/
theorem PumpFollows.calm {d : Device} {y y' : Clc} {hs : List Instr} (h : PumpFollows d y y' hs) (calm : ¬PumpWanted y → y.Still) :
    hs = [] ∧ y'.stages = y.stages := by
  obtain ⟨faulty, sound⟩ := h
  by_cases flow : y.flow = .fault
  · obtain ⟨tries, stays, holds⟩ := faulty flow
    by_cases wanted : PumpWanted y
    · by_cases held : y.phase = .held
      · obtain ⟨rfl, rfl⟩ := tries wanted held; exact ⟨rfl, rfl⟩
      · obtain ⟨rfl, rfl⟩ := stays wanted held; exact ⟨rfl, rfl⟩
    · obtain ⟨rfl, rfl⟩ := holds wanted; exact ⟨rfl, rfl⟩
  · obtain ⟨stays, confirms, starts, rests, stops⟩ := sound flow
    by_cases wanted : PumpWanted y <;> cases pump : y.pump
    · cases seen : d.pins.flow with
      | true => obtain ⟨rfl, rfl⟩ := confirms wanted pump seen; exact ⟨rfl, rfl⟩
      | false => obtain ⟨rfl, rfl⟩ := starts wanted pump seen; exact ⟨rfl, rfl⟩
    · obtain ⟨rfl, rfl⟩ := stays wanted pump; exact ⟨rfl, rfl⟩
    · obtain ⟨rfl, rfl⟩ := rests wanted pump; exact ⟨rfl, rfl⟩
    · obtain ⟨stages, ⟨gets, told⟩, rfl⟩ := stops wanted pump
      have still : ∀ c, (({ d with clc := y } : Device).stage c).state ≠ .running := calm wanted
      refine ⟨told.trans ?_, PerStage.ext_get fun c => (gets c).trans (if_neg (still c))⟩
      simp [still]

/-- R116: the pump want reads no output and touches none. -/
theorem PumpFollows.withOutputs {d : Device} {y y' : Clc} {hs : List Instr} (h : PumpFollows d y y' hs) (z : Clc) :
    PumpFollows d (y.withOutputs z) (y'.withOutputs z) hs := by
  obtain ⟨faulty, sound⟩ := h
  refine ⟨fun flow => ?_, fun flow => ?_⟩
  · obtain ⟨tries, stays, holds⟩ := faulty flow
    refine ⟨fun w p => ?_, fun w p => ?_, fun w => ?_⟩
    · obtain ⟨rfl, rfl⟩ := tries w p; exact ⟨rfl, rfl⟩
    · obtain ⟨rfl, rfl⟩ := stays w p; exact ⟨rfl, rfl⟩
    · obtain ⟨rfl, rfl⟩ := holds w; exact ⟨rfl, rfl⟩
  · obtain ⟨stays, confirms, starts, rests, stops⟩ := sound flow
    refine ⟨fun w p => ?_, fun w p f => ?_, fun w p f => ?_, fun w p => ?_, fun w p => ?_⟩
    · obtain ⟨rfl, rfl⟩ := stays w p; exact ⟨rfl, rfl⟩
    · obtain ⟨rfl, rfl⟩ := confirms w p f; exact ⟨rfl, rfl⟩
    · obtain ⟨rfl, rfl⟩ := starts w p f; exact ⟨rfl, rfl⟩
    · obtain ⟨rfl, rfl⟩ := rests w p; exact ⟨rfl, rfl⟩
    · obtain ⟨stages, stopped, rfl⟩ := stops w p; exact ⟨stages, stopped, rfl⟩

/-! ## The two kinds of sample -/

/-- R108: a sample once its inputs are taken, up to the thermal hold. -/
def Device.coolingSampled (d : Device) : Device :=
  match d.clc.tmax, d.clc.tmin with
  | some hi, some lo => ((d.sampleValid hi lo).formThermal).setHold hi
  | _, _ => d.sampleBlind.formThermal

theorem execCoolingSample_eq (supply ret ambient : Int) (s : State) : exec (.coolingSample supply ret ambient) s =
    .next ⟨s.pending, (s.dev.sampleInputs supply ret ambient).coolingSampled.formPump.deriveOutputs⟩ := rfl

theorem Device.coolingSampled_valid {d : Device} {hi lo : Int} (tmax : d.clc.tmax = some hi) (tmin : d.clc.tmin = some lo) :
    d.coolingSampled = ((d.sampleValid hi lo).formThermal).setHold hi := by
  unfold Device.coolingSampled
  rw [tmax, tmin]

theorem Device.coolingSampled_blind {d : Device} (h : d.clc.tmax = none ∨ d.clc.tmin = none) : d.coolingSampled = d.sampleBlind.formThermal := by
  unfold Device.coolingSampled
  split
  · next tmax tmin => simp [tmax, tmin] at h
  · rfl

theorem Device.coolingSampled_cases (d : Device) : (d.clc.tmax = none ∨ d.clc.tmin = none) ∨
    ∃ hi lo, d.clc.tmax = some hi ∧ d.clc.tmin = some lo := by
  cases d.clc.tmax <;> cases d.clc.tmin <;> simp

/-- The fields that a sample's work and the pump want leave as they are. -/
def Clc.held (x : Clc) :=
  (x.supply, x.coolantReturn, x.ambient, x.tmax, x.tmin, x.sampleIn, x.settings, x.zones, x.stringClosed, x.exhaustFault, x.exhaust,
    x.exhaustTimer)

/-- R109: what a sample without valid data leaves of CLC, y, and tells: at the entry into BLIND every stage is stopped, and the fault
raised. -/
def BlindSample (d : Device) (y : Clc) (told : List Instr) : Prop := ∃ stages stops hs,
  StagesStopped d stages stops ∧
  (d.clc.mode ≠ .blind → ThermalFormed { d.clc with
    mode := .blind, demanded := 0, fanAsked := 50, heaterAsked := 0, stages := stages } True y hs) ∧
  (¬d.clc.mode ≠ .blind → ThermalFormed d.clc True y hs) ∧
  told = (if d.clc.mode ≠ .blind then stops ++ [.eventOccurrence ⟨.coolingFault, .table 8, some 1, false⟩] else []) ++ hs

/-- R108, R113, R118, R119: what a sample with valid data leaves of CLC, y, and tells. -/
def ValidSample (d : Device) (hi lo : Int) (y : Clc) (told : List Instr) : Prop := ∃ stages sinceStart moves x hs,
  StagesRan (d.sampleSet hi lo) stages sinceStart moves ∧
  ThermalFormed { (d.sampleSet hi lo).clc with stages := stages, sinceStart := sinceStart } True x hs ∧
  y = { x with thermalHold := d.holdAt hi } ∧
  told = moves ++ hs ++ if d.holdAt hi = d.clc.thermalHold then [] else [.thermalHoldHandoff (d.holdAt hi)]

theorem Device.coolingSampled_blinds {d : Device} (none : d.clc.tmax = none ∨ d.clc.tmin = none) : ∃ y told,
    BlindSample d y told ∧ d.coolingSampled = { d with clc := y, handoffs := d.handoffs ++ told } := by
  obtain ⟨stages, stops, stopped, e⟩ := (d.modClc fun x =>
    { x with mode := .blind, demanded := 0, fanAsked := 50, heaterAsked := 0 }).stopStages_stopped
  rw [Device.coolingSampled_blind none]
  by_cases enters : d.clc.mode ≠ .blind
  · have blind : d.sampleBlind = { d with
        clc := { d.clc with mode := .blind, demanded := 0, fanAsked := 50, heaterAsked := 0, stages := stages }
        handoffs := d.handoffs ++ (stops ++ [.eventOccurrence ⟨.coolingFault, .table 8, some 1, false⟩]) } := by
      unfold Device.sampleBlind
      rw [bne_iff_ne.mpr enters, ← List.append_assoc]
      exact congrArg (·.raise .coolingFault (.table 8) (some 1)) e
    obtain ⟨y, hs, formed, e⟩ := d.sampleBlind.formThermal_formed
    rw [blind] at formed e
    refine ⟨y, _, ⟨stages, stops, hs, stopped, fun _ => formed, fun stays => absurd enters stays, rfl⟩, ?_⟩
    rw [blind, e, if_pos enters, List.append_assoc]
  · have same : d.sampleBlind = d := by
      unfold Device.sampleBlind
      rw [bne_eq_false_iff_eq.mpr (not_not.mp enters)]
      rfl
    obtain ⟨y, hs, formed, e⟩ := d.formThermal_formed
    refine ⟨y, _, ⟨stages, stops, hs, stopped, fun h => absurd h enters, fun _ => formed, rfl⟩, ?_⟩
    rw [same, e, if_neg enters, List.nil_append]

/-- R113, R118, R119: the stages move, THERMAL and the hold are formed. -/
theorem Device.stages_thermal_hold (m : Device) (hi : Int) : ∃ stages sinceStart moves y hs, StagesRan m stages sinceStart moves ∧
    ThermalFormed { m.clc with stages := stages, sinceStart := sinceStart } True y hs ∧
    (m.runStages.formThermal).setHold hi = { m with
      clc := { y with thermalHold := m.holdAt hi }
      handoffs := m.handoffs ++ (moves ++ hs ++
        if m.holdAt hi = m.clc.thermalHold then [] else [.thermalHoldHandoff (m.holdAt hi)]) } := by
  obtain ⟨stages, sinceStart, moves, ran, e⟩ := m.runStages_ran
  obtain ⟨y, hs, formed, e'⟩ := m.runStages.formThermal_formed
  rw [e] at formed e'
  refine ⟨stages, sinceStart, moves, y, hs, ran, formed, ?_⟩
  have held : ∀ hs, ({ m with clc := y, handoffs := hs } : Device).holdAt hi = m.holdAt hi ∧ y.thermalHold = m.clc.thermalHold := by
    obtain ⟨rfl, -⟩ := formed.2 trivial
    exact fun _ => ⟨rfl, rfl⟩
  rw [e, e', Device.setHold_eq, (held _).1]
  simp only [List.append_assoc, (held m.handoffs).2]

theorem Device.sampleSet_holdAt (d : Device) (hi lo : Int) : (d.sampleSet hi lo).holdAt hi = d.holdAt hi := by
  unfold Device.holdAt Device.coolItem
  rw [d.sampleSet_clc]

theorem Device.coolingSampled_runs {d : Device} {hi lo : Int} (tmax : d.clc.tmax = some hi) (tmin : d.clc.tmin = some lo) : ∃ y told,
    ValidSample d hi lo y told ∧ d.coolingSampled = { d with clc := y, handoffs := d.handoffs ++ told } := by
  obtain ⟨stages, sinceStart, moves, x, hs, ran, formed, e⟩ := (d.sampleSet hi lo).stages_thermal_hold hi
  have hold : (d.sampleSet hi lo).clc.thermalHold = d.clc.thermalHold := by rw [d.sampleSet_clc]
  rw [d.sampleSet_holdAt, hold] at e
  refine ⟨_, _, ⟨stages, sinceStart, moves, x, hs, ran, formed, rfl, rfl⟩, ?_⟩
  rw [Device.coolingSampled_valid tmax tmin, Device.sampleValid_eq, e, d.sampleSet_eq]

/-! ## What both kinds leave -/

theorem ThermalFormed.held {y x : Clc} {hs : List Instr} (h : ThermalFormed y True x hs) : x.held = y.held := by
  obtain ⟨rfl, -⟩ := h.2 trivial
  rfl

theorem ThermalFormed.mode {y x : Clc} {hs : List Instr} (h : ThermalFormed y True x hs) : x.mode = y.mode := by
  obtain ⟨rfl, -⟩ := h.2 trivial
  rfl

theorem BlindSample.blind {d : Device} {y : Clc} {told : List Instr} (h : BlindSample d y told) : y.mode = .blind := by
  obtain ⟨stages, stops, hs, -, enters, stays, -⟩ := h
  by_cases mode : d.clc.mode ≠ .blind
  · exact (enters mode).mode
  · exact (stays mode).mode.trans (not_not.mp mode)

theorem BlindSample.held {d : Device} {y : Clc} {told : List Instr} (h : BlindSample d y told) : y.held = d.clc.held := by
  obtain ⟨stages, stops, hs, -, enters, stays, -⟩ := h
  by_cases mode : d.clc.mode ≠ .blind
  · exact (enters mode).held
  · exact (stays mode).held

theorem ValidSample.held {d : Device} {hi lo : Int} {y : Clc} {told : List Instr} (h : ValidSample d hi lo y told) :
    y.held = d.clc.held := by
  obtain ⟨stages, sinceStart, moves, x, hs, -, formed, rfl, -⟩ := h
  rw [d.sampleSet_clc] at formed
  exact formed.held

/-- R110, R113: after a sample with valid data a stage runs in CHILL alone. -/
theorem ValidSample.chill {d : Device} {hi lo : Int} {y : Clc} {told : List Instr} (h : ValidSample d hi lo y told) {c : Stage}
    (runs : (y.stages.get c).state = .running) : y.mode = .chill := by
  obtain ⟨stages, sinceStart, moves, x, hs, ran, formed, rfl, -⟩ := h
  have same : x.stages = stages := formed.stages
  have runs : (x.stages.get c).state = .running := runs
  rw [same] at runs
  refine formed.mode.trans (Device.sampleSet_chill lo ?_)
  obtain ran | starts := ran.running runs
  · rw [d.sampleSet_eq, d.sampleSet_clc] at ran
    exact .inr ⟨c, ran⟩
  · exact .inl starts.demanded

/-- R108: what a sample leaves, with valid data or without; no stage runs without a pump want. -/
theorem Device.coolingSampled_leaves (d : Device) : ∃ y told,
    d.coolingSampled = { d with clc := y, handoffs := d.handoffs ++ told } ∧ y.held = d.clc.held ∧ (¬PumpWanted y → y.Still) ∧
    (d.clc.tmax = none → BlindSample d y told) ∧
    ∀ hi lo, d.clc.tmax = some hi → d.clc.tmin = some lo → ValidSample d hi lo y told := by
  obtain none | ⟨hi, lo, tmax, tmin⟩ := d.coolingSampled_cases
  · obtain ⟨y, told, sample, e⟩ := Device.coolingSampled_blinds none
    refine ⟨y, told, e, sample.held, fun no => absurd (.inl (by rw [sample.blind]; decide)) no, fun _ => sample, fun hi lo tmax tmin => ?_⟩
    simp [tmax, tmin] at none
  · obtain ⟨y, told, sample, e⟩ := Device.coolingSampled_runs tmax tmin
    refine ⟨y, told, e, sample.held, fun no c runs => no (.inl (by rw [sample.chill runs]; decide)), fun none => ?_, fun hi' lo' h h' => ?_⟩
    · rw [tmax] at none; cases none
    · cases tmax.symm.trans h
      cases tmin.symm.trans h'
      exact sample

/-- What follows from a pump want rests on the flow switch alone. -/
theorem PumpFollows.congr_flow {d e : Device} {y y' : Clc} {hs : List Instr} (h : PumpFollows d y y' hs)
    (flow : e.pins.flow = d.pins.flow) : PumpFollows e y y' hs := by
  unfold PumpFollows at *
  rw [flow]
  exact h

/-- R116, R121: the end of a sample that began at d and has left record y over part m: the pump want and the outputs. -/
theorem sample_ends {d : Device} (m : Device) {y : Clc} (flow : m.pins.flow = d.pins.flow)
    (exhaust : y.exhaust = d.clc.exhaust ∧ y.exhaustTimer = d.clc.exhaustTimer) (calm : ¬PumpWanted y → y.Still) :
    ∃ pump flow phase timer z,
      let y' : Clc := { y with pump := pump, flow := flow, phase := phase, flowTimer := timer }
      let e : Device := { m with clc := y'.withOutputs z }
      ({ m with clc := y } : Device).formPump.deriveOutputs = e ∧ PumpFollows d y y' [] ∧ OutputsFollow d e := by
  obtain ⟨y', hs, follows, e⟩ := ({ m with clc := y } : Device).formPump_follows
  obtain ⟨rfl, stages⟩ := follows.calm calm
  have kept : y'.exhaust = d.clc.exhaust ∧ y'.exhaustTimer = d.clc.exhaustTimer :=
    ⟨follows.exhaust.1.trans exhaust.1, follows.exhaust.2.trans exhaust.2⟩
  obtain ⟨stands, outputs⟩ := outputs_derived (d := d) m kept
  have same := follows.keeps
  rw [stages] at same
  refine ⟨y'.pump, y'.flow, y'.phase, y'.flowTimer, ({ m with clc := y' } : Device).deriveOutputs.clc, ?_⟩
  dsimp only
  rw [← same, ← stands, e, List.append_nil]
  exact ⟨rfl, follows.congr_flow flow.symm, outputs⟩

end Sys2Proof.Machine
end

section
/-! SUPPORT. What a cooling sample with valid data leaves, clause by clause (R108 to R113, R118, R119). -/

namespace Sys2Proof.Machine

-- Bodies elaborated side by side would each hold a thread while a default argument waits for the kernel.
set_option Elab.async false

/-! ## Demand, mode and what they ask for -/

theorem Device.modeFrom_sees (d : Device) (prev : CoolMode) (tmax tmin : Int) : d.modeFrom prev tmax tmin ≠ .blind := by
  simp only [Device.modeFrom, ne_eq, ite_eq_iff, reduceCtorEq, and_false, or_self, not_false_eq_true]

theorem Device.sampleSet_sees (d : Device) (hi lo : Int) : (d.sampleSet hi lo).clc.mode ≠ .blind :=
  Device.modeFrom_sees _ _ _ _

/-- R109, R112: a count within its range is within it once a sample has started from it. -/
theorem Clc.countBefore_le {x : Clc} (h : x.demanded ≤ 3) : x.countBefore ≤ 3 := by
  unfold Clc.countBefore
  split
  · exact Nat.zero_le 3
  · exact h

/-- R112: the demanded count of a sample against the start and the stop points of the stages. -/
theorem Device.sampleSet_demand {d : Device} (hyst : 0 ≤ d.coolItem 6) (most : d.clc.demanded ≤ 3) (hi lo : Int) :
    let count := d.clc.countBefore
    let first (m : Nat) := d.coolItem 4 + (m - 1 : Nat) * d.coolItem 5
    let n := (d.sampleSet hi lo).clc.demanded
    n ≤ 3 ∧ (count < n → first n < hi) ∧ (count ≤ n → n < 3 → hi ≤ first (n + 1)) ∧
      (n < count → hi < first (n + 1) - d.coolItem 6) ∧ (0 < n → n ≤ count → first n - d.coolItem 6 ≤ hi) :=
  Device.demandFrom_between hyst (Clc.countBefore_le most) hi

/-- R110: the rows below CHILL, at a sample. -/
theorem Device.sampleSet_calm {d : Device} {hi lo : Int} (demand : (d.sampleSet hi lo).clc.demanded = 0)
    (still : ∀ c, (d.stage c).state ≠ .running) :
    let warm := if d.clc.modeBefore = .cool ∨ d.clc.modeBefore = .chill then d.coolItem 2 ≤ hi else d.coolItem 3 < hi
    let cold := if d.clc.modeBefore = .heat then lo ≤ d.coolItem 1 else lo < d.coolItem 0
    (warm → (d.sampleSet hi lo).clc.mode = .cool) ∧ (¬warm → cold → (d.sampleSet hi lo).clc.mode = .heat) ∧
      (¬warm → ¬cold → (d.sampleSet hi lo).clc.mode = .idle) :=
  Device.modeFrom_calm (d := d.demandSet hi) d.clc.modeBefore hi lo demand still

/-- R111: what the mode of a sample asks for. -/
theorem Device.sampleSet_asks (d : Device) (hi lo : Int) :
    let x := (d.sampleSet hi lo).clc
    (x.mode = .cool ∨ x.mode = .chill →
      x.fanAsked = min 100 (max 20 ((hi - d.coolItem 2) * 100 / (d.coolItem 4 - d.coolItem 2))) ∧ x.heaterAsked = 0) ∧
    (x.mode = .idle → x.fanAsked = 0 ∧ x.heaterAsked = 0) ∧
    (x.mode = .heat → x.fanAsked = 0 ∧ x.heaterAsked =
      if lo < d.coolItem 0 - 100 ∨ lo ≤ d.coolItem 0 - 50 ∧ d.clc.modeBefore = .heat ∧ d.clc.heaterAsked = 2 then 2 else 1) := by
  intro x
  let m := (d.demandSet hi).modeSet d.clc.modeBefore hi lo
  have other : x.mode ≠ .heat → x.heaterAsked = 0 := m.heaterFrom_other d.clc.modeBefore lo
  refine ⟨fun mode => ⟨m.fanFrom_cooling hi mode, other ?_⟩, fun mode => ⟨m.fanFrom_other hi (.inl mode), other ?_⟩,
    fun mode => ⟨m.fanFrom_other hi (.inr mode), m.heaterFrom_heat d.clc.modeBefore lo mode⟩⟩
  · obtain mode | mode := mode <;> simp [mode]
  · simp [mode]

/-! ## Stages -/

/-- R113: the stages that a sample wants. -/
theorem Device.sampleSet_wanted (d : Device) (hi lo : Int) :
    (d.sampleSet hi lo).clc.wanted = d.clc.available.take (d.sampleSet hi lo).clc.demanded := by
  unfold Clc.wanted Clc.available
  rw [d.sampleSet_clc]

theorem Device.sampleSet_stage (d : Device) (hi lo : Int) (c : Stage) : (d.sampleSet hi lo).clc.stages.get c = d.stage c := by
  rw [d.sampleSet_clc]
  rfl

theorem Device.sampleSet_sinceStart (d : Device) (hi lo : Int) : (d.sampleSet hi lo).clc.sinceStart = d.clc.sinceStart := by
  rw [d.sampleSet_clc]

/-- R113: the stages that stop at a sample. -/
theorem Device.sampleSet_stops (d : Device) (hi lo : Int) (c : Stage) : (d.sampleSet hi lo).clc.stops c = true ↔
    (d.stage c).state = .running ∧ c ∉ d.clc.available.take (d.sampleSet hi lo).clc.demanded ∧ 120000 ≤ (d.stage c).since := by
  rw [Clc.stops_iff, d.sampleSet_wanted, d.sampleSet_stage]

/-- R113: the stage that starts at a sample; a sample with valid data is never BLIND. -/
theorem Device.sampleSet_starts (d : Device) (hi lo : Int) (c : Stage) :
    let wanted := d.clc.available.take (d.sampleSet hi lo).clc.demanded
    (d.sampleSet hi lo).clc.starts c ↔ c ∈ wanted ∧ (d.stage c).state = .off ∧
      (∀ b ∈ wanted, b.num < c.num → (d.stage b).state = .running) ∧ 180000 ≤ (d.stage c).since ∧
      30000 ≤ d.clc.sinceStart ∧ d.clc.flow = .confirmed ∧ d.clc.batteryFire = false := by
  have same : (d.sampleSet hi lo).clc.flow = d.clc.flow ∧ (d.sampleSet hi lo).clc.batteryFire = d.clc.batteryFire := by
    rw [d.sampleSet_clc]
    exact ⟨rfl, rfl⟩
  obtain ⟨flow, fire⟩ := same
  simp only [Clc.starts, Clc.eligible_iff, d.sampleSet_wanted, d.sampleSet_stage, d.sampleSet_sinceStart, flow, fire, ne_eq, d.sampleSet_sees hi lo,
    not_false_eq_true, and_true, and_assoc]

/-- R113: no stage fails or recovers at a sample. -/
theorem StagesRan.failed {d : Device} {stages : PerStage CoolStage} {sinceStart : Nat} {moves : List Instr}
    (ran : StagesRan d stages sinceStart moves) (c : Stage) : (stages.get c).state = .failed ↔ (d.stage c).state = .failed := by
  cases stops : d.clc.stops c with
  | true =>
    have runs : (d.stage c).state = .running := ((d.clc.stops_iff c).mp stops).1
    simp [ran.stopped c stops, runs]
  | false =>
    by_cases starts : d.clc.starts c
    · have off : (d.stage c).state = .off := starts.1.2.1
      simp [ran.started c starts, off]
    · rw [ran.others c stops starts]

theorem StagesRan.available {d : Device} {stages : PerStage CoolStage} {sinceStart : Nat} {moves : List Instr}
    (ran : StagesRan d stages sinceStart moves) :
    (Stage.all.filter fun c => (stages.get c).state != .failed) = Stage.all.filter fun c => (d.stage c).state != .failed :=
  List.filter_congr fun c _ => by
    rw [Bool.eq_iff_iff, bne_iff_ne, bne_iff_ne]
    exact not_congr (ran.failed c)

/-! ## The record -/

/-- R108, R113, R118, R119: CLC's record after a sample with valid data, and what is told. -/
theorem ValidSample.leaves {d : Device} {hi lo : Int} {y : Clc} {told : List Instr} (h : ValidSample d hi lo y told) :
    ∃ stages sinceStart moves, StagesRan (d.sampleSet hi lo) stages sinceStart moves ∧
      let x := (d.sampleSet hi lo).clc
      let temp := tempCapOf d.clc.settings hi
      let stage := if d.coolItem 4 < hi then d.coolItem 9 * d.clc.available.length / 3 else 9999
      let flow := if d.clc.flow = .fault then d.coolItem 10 else 9999
      let kw := min temp (min stage flow)
      y = { d.clc with
        lastTmax := some hi, demanded := x.demanded, mode := x.mode, fanAsked := x.fanAsked, heaterAsked := x.heaterAsked
        stages := stages, sinceStart := sinceStart
        tempCap := temp, stageCap := stage, flowCap := flow, thermal := kw, thermalHold := d.holdAt hi } ∧
      told = moves ++ (if kw = d.clc.thermal then [] else [.envelopeRecomputation (.thermal kw.toNat)]) ++
        if d.holdAt hi = d.clc.thermalHold then [] else [.thermalHoldHandoff (d.holdAt hi)] := by
  obtain ⟨stages, sinceStart, moves, x, hs, ran, formed, rfl, rfl⟩ := h
  have available : (Stage.all.filter fun c => (stages.get c).state != .failed) = d.clc.available := by
    rw [ran.available]
    exact List.filter_congr fun c _ => congrArg (·.state != .failed) (d.sampleSet_stage hi lo c)
  rw [d.sampleSet_clc] at formed
  obtain ⟨rfl, rfl⟩ := formed.2 trivial
  dsimp only
  rw [available]
  exact ⟨stages, sinceStart, moves, ran, rfl, rfl⟩

/-- R108, R116, R121: a sample from its inputs to its outputs. -/
theorem coolingSample_ends (supply ret ambient : Int) (s : State) :
    let d := s.dev.sampleInputs supply ret ambient
    ∃ y pump flow phase timer z told,
      let y' : Clc := { y with pump := pump, flow := flow, phase := phase, flowTimer := timer }
      let e : Device := { d with clc := y'.withOutputs z, handoffs := s.dev.handoffs ++ told }
      exec (.coolingSample supply ret ambient) s = .next ⟨s.pending, e⟩ ∧ y.held = d.clc.held ∧
      (d.clc.tmax = none → BlindSample d y told) ∧
      (∀ hi lo, d.clc.tmax = some hi → d.clc.tmin = some lo → ValidSample d hi lo y told) ∧
      PumpFollows s.dev y y' [] ∧ OutputsFollow s.dev e := by
  intro d
  obtain ⟨y, told, sampled, held, calm, blind, valid⟩ := d.coolingSampled_leaves
  have exhaust : y.exhaust = s.dev.clc.exhaust ∧ y.exhaustTimer = s.dev.clc.exhaustTimer := by
    simp only [Clc.held, Prod.mk.injEq] at held
    obtain ⟨-, -, -, -, -, -, -, -, -, -, exhaust, timer⟩ := held
    exact ⟨exhaust, timer⟩
  obtain ⟨pump, flow, phase, timer, z, ends, follows, outputs⟩ :=
    sample_ends (d := s.dev) { d with handoffs := s.dev.handoffs ++ told } rfl exhaust calm
  refine ⟨y, pump, flow, phase, timer, z, told, (execCoolingSample_eq supply ret ambient s).trans ?_, held, blind, valid, follows, outputs⟩
  exact next_congr ((congrArg (fun m : Device => m.formPump.deriveOutputs) sampled).trans ends)

end Sys2Proof.Machine

section
open Sys2Proof Sys2Proof.Machine

/-- Settles O52: the inputs are taken, the stages and THERMAL follow from them, and the pump want and the outputs end the sample. -/
theorem coolingSampleRunsTheLoop : Obligations.CoolingSampleRunsTheLoop := by
  intro supply ret ambient s law most
  obtain ⟨y, pump, flow, phase, timer, z, told, runs, held, blind, valid, follows, outputs⟩ := coolingSample_ends supply ret ambient s
  simp only [Clc.held, Prod.mk.injEq] at held
  obtain ⟨supplyIn, returnIn, ambientIn, tmax, tmin, sampleIn, settings, zones, strings, exhaustFault, -, -⟩ := held
  refine ⟨_, runs, ?_, rfl, supplyIn, returnIn, ambientIn, tmax, tmin, sampleIn, settings, zones, strings, exhaustFault,
    outputs, fun none => ?_, fun hi lo hiIn loIn => ?_⟩
  · obtain ⟨_, completes, only⟩ := event_completes (i := .coolingSample supply ret ambient) rfl s
    cases runs.symm.trans completes
    exact only
  · obtain ⟨stages, stops, hs, stopped, enters, stays, rfl⟩ := blind none
    exact ⟨stages, stops, y, _, hs, stopped, enters, stays, follows, rfl, rfl⟩
  · obtain ⟨stages, sinceStart, moves, ran, rfl, rfl⟩ := (valid hi lo hiIn loIn).leaves
    let d := s.dev.sampleInputs supply ret ambient
    have demand := Device.sampleSet_demand (d := d) (Sound.hyst_nonneg (law.1 .t8).1) most hi lo
    have chill := Device.sampleSet_chill (d := d) (tmax := hi) lo
    have calm := d.sampleSet_calm (hi := hi) (lo := lo)
    obtain ⟨cools, idles, heats⟩ := d.sampleSet_asks hi lo
    obtain ⟨stopped, started, others, spacing, spaced, tells⟩ := ran
    have kept := d.sampleSet_stage hi lo
    have since := d.sampleSet_sinceStart hi lo
    have stopping := d.sampleSet_stops hi lo
    have starting := d.sampleSet_starts hi lo
    unfold Device.stage at others
    -- From here on the record before the stages move is any record of which the facts above hold.
    generalize (Device.sampleSet hi lo (s.dev.sampleInputs supply ret ambient)).clc = x at *
    refine ⟨rfl, demand, chill, calm, cools, idles, heats, fun c => ⟨?_, ?_, ?_⟩, ?_, ?_,
      ⟨rfl, rfl, rfl, rfl⟩, rfl, ⟨moves, rfl, fun i => (tells i).trans (exists_congr fun c => ?_)⟩, follows.withOutputs z⟩
    · exact fun stops => stopped c ((stopping c).mpr stops)
    · exact fun starts => started c ((starting c).mpr starts)
    · exact fun stays waits => (others c (Bool.eq_false_iff.mpr (mt (stopping c).mp stays)) (mt (starting c).mp waits)).trans (kept c)
    · exact fun ⟨c, starts⟩ => spacing ⟨c, (starting c).mpr starts⟩
    · exact fun none => (spaced fun c starts => none c ((starting c).mp starts)).trans since
    · exact or_congr (and_congr_left' (stopping c)) (and_congr_left' (starting c))

end

end

section
/-! SUPPORT. A service of the Site Port, and the checks of a zone's service (R133 to R138, R140). -/

namespace Sys2Proof

theorem Zone.ofNum_of_lt {k : Nat} (h : 2 < k) : Zone.ofNum k = none := by
  obtain ⟨j, rfl⟩ := Nat.exists_eq_add_of_lt h
  rw [Nat.add_assoc, Nat.add_comm 2]
  rfl

/-- R169: the classes stand in the order of their numbers. -/
theorem EventClass.all_num (c : EventClass) : EventClass.all[c.num]? = some c := by cases c <;> rfl

end Sys2Proof

namespace Sys2Proof.Machine

-- Bodies elaborated side by side would each hold a thread while a default argument waits for the kernel.
set_option Elab.async false

/-! ## The Site Port's services -/

/-- What the owner k answers to a taken service is the next reply at port p, on the part that the owner leaves. -/
def OwnerReplies (s t : State) (p : Port) (k : Device → Device × Answer) : Prop :=
  ∀ d a, d.pif.ports = s.dev.pif.ports →
    k (s.dev.clockOut p) = ({ d with pif := { d.pif with ports := (s.dev.clockOut p).pif.ports } }, a) →
    Replies s t p 3 a.result a.value d

section
variable {s : State} {p : Port} {f : ServiceFrame} {n : Byte} {i : Instr} {act : Device → Device × Answer}

/-- A service of the Site Port, taken: its port and its standing are checked, and the rest is its owner's. -/
theorem siteService_serves {rest : Device → Device × Answer} {taken : State → Prop} (takes : Takes s i)
    (request : requestOf i = some ⟨p, f.frame n⟩) (run : exec i s = s.next (·.request p (f.frame n) act))
    (checks : ∀ d, act d = if p ≠ .site then (d, .no .denied)
      else if !(d.standing .site).trusted then (d, .no .noStanding) else rest d)
    (owner : ∀ t, OwnerReplies s t p rest → taken t) : ∃ t, exec i s = .next t ∧ SiteService s t p (taken t) := by
  obtain ⟨r, hr, hrun, hchk⟩ := takes
  cases request.symm.trans hr
  have trusted : (s.dev.standing p).trusted = true ↔ Trusted s.dev p := Standing.trusted_iff _
  refine ⟨_, run, fun other => ?_, fun site no => ?_, fun site trust => owner _ fun d a ports answers => ?_⟩
  · exact request_refuses hrun hchk .denied ((checks _).trans (if_pos other))
  all_goals subst site
  · have barred : (!((s.dev.clockOut .site).standing .site).trusted) = true := by
      rw [Bool.not_eq_true']
      exact Bool.eq_false_iff.mpr (mt trusted.mp no)
    exact request_refuses hrun hchk .noStanding ((checks _).trans ((if_neg (not_not.mpr rfl)).trans (if_pos barred)))
  · have passes : ¬(!((s.dev.clockOut .site).standing .site).trusted) = true := by
      rw [Bool.not_eq_true', Bool.not_eq_false]
      exact trusted.mpr trust
    exact request_replies hrun hchk d a ports
      ((checks _).trans ((if_neg (not_not.mpr rfl)).trans ((if_neg passes).trans answers)))

/-- A service of a zone, taken: RANGE where no zone has the number, else as the zone's owner answers. -/
theorem zoneService_serves {k : Zone → Device → Device × Answer} {taken : State → Zone → Prop} (takes : Takes s i)
    (request : requestOf i = some ⟨p, f.frame n⟩)
    (run : exec i s = s.next (·.request p (f.frame n) (zoneService k p f.value)))
    (owner : ∀ t z, OwnerReplies s t p (k z) → taken t z) :
    ∃ t, exec i s = .next t ∧ SiteService s t p (
      (2 < f.value.toNat → Refuses s t p 3 .range) ∧ ∀ z, z.num = f.value.toNat → taken t z) := by
  refine siteService_serves takes request run (fun _ => rfl) fun t replies =>
    ⟨fun high => ?_, fun z named => owner t z fun d a ports answers => ?_⟩
  · exact replies s.dev (.no .range) rfl (by rw [Zone.ofNum_of_lt high]; rfl)
  · refine replies d a ports ?_
    rw [← named, Zone.ofNum_num]
    exact answers

variable {t : State} {k : Device → Device × Answer}

/-- The owner answers and leaves the part as it is. -/
theorem OwnerReplies.same {a : Answer} (h : OwnerReplies s t p k) (answers : k (s.dev.clockOut p) = (s.dev.clockOut p, a)) :
    Replies s t p 3 a.result a.value s.dev :=
  h s.dev a rfl answers

/-- The owner answers OK to an event at FGU that moves one zone. -/
theorem OwnerReplies.moved {f : Device → Device} {z : Zone} {r : ZoneRec} {hs : List Instr} (h : OwnerReplies s t p k)
    (answers : k (s.dev.clockOut p) = ((s.dev.clockOut p).fguEvent f, .done))
    (leaves : f (s.dev.clockOut p) = { s.dev.clockOut p with
      fgu := s.dev.fgu.withZone z r, handoffs := s.dev.handoffs ++ hs }) :
    let g := (s.dev.fgu.withZone z r).settled
    Replies s t p 3 .ok none { s.dev with fgu := g, handoffs := s.dev.handoffs ++ (hs ++ fireHandoffs s.dev.fgu g) } := by
  intro g
  have moved : ZoneMoved (s.dev.clockOut p) (s.dev.clockOut p) ((s.dev.clockOut p).fguEvent f) z r hs := Device.fguEvent_moved leaves
  exact h _ .done rfl (answers.trans (congrArg (·, Answer.done) moved))

end

/-! ## The rows of the four services -/

theorem ZoneRec.inTest_iff (r : ZoneRec) : r.inTest = true ↔ r.testTimer ≠ none := Option.isSome_iff_ne_none

/-- R127: no kind of detection is present. -/
theorem Fgu.kinds_isEmpty (g : Fgu) (z : Zone) : (g.kinds z).isEmpty = true ↔
    (g.zones.get z).smoke.confirmed ≠ .active ∧ (g.zones.get z).heat.confirmed ≠ .active ∧ g.gasLow z = false := by
  simp [Fgu.kinds]

/-- R133: the rows of ZONE_RESET. -/
theorem Device.resetZone_rows (d : Device) (z : Zone) :
    let r := d.zone z
    let takes := (r.stage = .prealarm ∨ r.stage = .countdown ∨ r.stage = .held) ∧ r.testTimer = none
    let clear := r.smoke.confirmed ≠ .active ∧ r.heat.confirmed ≠ .active ∧ d.fgu.gasLow z = false ∧ d.fgu.callConfirmed = false
    (¬takes → d.resetZone z = (d, .state 1)) ∧ (takes → ¬clear → d.resetZone z = (d, .state 2)) ∧
    (takes → clear →
      d.resetZone z = (d.fguEvent (·.modZone z fun r => { r with stage := r.byFlag, releaseTimer := none }), .done)) := by
  intro r takes clear
  have stands : (¬(r.stage = .prealarm ∨ r.stage = .countdown ∨ r.stage = .held) ∨ r.inTest = true) ↔ ¬takes := by
    rw [r.inTest_iff, ← not_and_or]
  have present : (!(d.fgu.kinds z).isEmpty || d.fgu.callConfirmed) = true ↔ ¬clear := by
    rw [Bool.or_eq_true, Bool.not_eq_true', ← Bool.not_eq_true, Fgu.kinds_isEmpty, ← Bool.not_eq_false (b := d.fgu.callConfirmed),
      ← not_and_or, and_assoc, and_assoc]
    rfl
  refine ⟨fun no => if_pos (stands.mpr no), fun yes unclear => ?_, fun yes free => ?_⟩
  all_goals refine (if_neg (mt stands.mp (not_not.mpr yes))).trans ?_
  · exact if_pos (present.mpr unclear)
  · exact if_neg (mt present.mp (not_not.mpr free))

/-- R134: the rows of ZONE_REARM. -/
theorem Device.rearmZone_rows (d : Device) (z : Zone) :
    let r := d.zone z
    let clear := r.smoke.confirmed = .normal ∧ r.heat.confirmed = .normal ∧ d.fgu.gasLow z = false ∧ d.fgu.callConfirmed = false
    (r.stage ≠ .released → d.rearmZone z = (d, .state 1)) ∧ (r.stage = .released → ¬clear → d.rearmZone z = (d, .state 2)) ∧
    (r.stage = .released → clear →
      d.rearmZone z = (d.fguEvent (fun d => (d.modZone z fun r => { r with stage := .normal }).post .updateRequest), .done)) := by
  intro r clear
  have present : (r.smoke.confirmed ≠ .normal ∨ r.heat.confirmed ≠ .normal ∨ d.fgu.gasLow z = true ∨
      d.fgu.callConfirmed = true) ↔ ¬clear := by
    simp only [clear, not_and_or, Bool.not_eq_false, ne_eq]
  refine ⟨fun no => if_pos no, fun released unclear => ?_, fun released free => ?_⟩
  all_goals refine (if_neg (not_not.mpr released)).trans ?_
  · exact if_pos (present.mpr unclear)
  · exact if_neg (mt present.mp (not_not.mpr free))

/-- R136: the rows of ZONE_TEST_START. -/
theorem Device.startTest_rows (d : Device) (z : Zone) :
    let r := d.zone z
    let free := (r.stage = .normal ∨ r.stage = .fault) ∧ r.testTimer = none
    (¬free → d.startTest z = (d, .stateOpen)) ∧
    (free → d.startTest z = (d.fguEvent (·.modZone z fun r =>
      { r with testTimer := some 1800000, testGas := false, stage := r.byFlag }), .done)) := by
  intro r free
  have busy : (r.inTest = true ∨ ¬(r.stage = .normal ∨ r.stage = .fault)) ↔ ¬free := by
    rw [r.inTest_iff, or_comm, ← not_and_or]
  exact ⟨fun no => if_pos (busy.mpr no), fun yes => if_neg (mt busy.mp (not_not.mpr yes))⟩

/-- R136, R137: the rows of ZONE_TEST_END. -/
theorem Device.stopTest_rows (d : Device) (z : Zone) :
    ((d.zone z).testTimer = none → d.stopTest z = (d, .stateOpen)) ∧
    ((d.zone z).testTimer ≠ none → d.stopTest z = (d.fguEvent (Device.endTest z), .done)) := by
  have idle : (!(d.zone z).inTest) = true ↔ (d.zone z).testTimer = none := by
    rw [Bool.not_eq_true', ← Bool.not_eq_true, ZoneRec.inTest_iff, not_not]
  exact ⟨fun off => if_pos (idle.mpr off), fun on => if_neg (mt idle.mp on)⟩

end Sys2Proof.Machine

section
open Sys2Proof Sys2Proof.Machine

/-- Settles O29: the rows of each service in turn; a taken one is an event at FGU that moves its zone. -/
theorem zoneServicesMoveTheStage : Obligations.ZoneServicesMoveTheStage := by
  intro p f s
  refine ⟨fun takes => zoneService_serves takes rfl rfl fun t z owner => ?_,
    fun takes => zoneService_serves takes rfl rfl fun t z owner => ?_,
    fun takes => zoneService_serves takes rfl rfl fun t z owner => ?_,
    fun takes => zoneService_serves takes rfl rfl fun t z owner => ?_⟩
  · obtain ⟨stands, dirty, resets⟩ := (s.dev.clockOut p).resetZone_rows z
    exact ⟨fun no => owner.same (stands no), fun yes unclear => owner.same (dirty yes unclear),
      fun yes clear => owner.moved (hs := []) (resets yes clear) (by rw [List.append_nil]; rfl)⟩
  · obtain ⟨stands, dirty, rearms⟩ := (s.dev.clockOut p).rearmZone_rows z
    exact ⟨fun no => owner.same (stands no), fun yes unclear => owner.same (dirty yes unclear),
      fun yes clear => owner.moved (hs := [.updateRequest]) (rearms yes clear) rfl⟩
  · obtain ⟨busy, starts⟩ := (s.dev.clockOut p).startTest_rows z
    exact ⟨fun no => owner.same (busy no),
      fun free => owner.moved (hs := []) (starts free) (by rw [List.append_nil]; rfl)⟩
  · obtain ⟨idle, stops⟩ := (s.dev.clockOut p).stopTest_rows z
    obtain ⟨r, hs, ended, leaves⟩ := (s.dev.clockOut p).endTest_ended z
    exact ⟨fun off => owner.same (idle off), fun on => ⟨r, hs, ended.congr rfl rfl rfl rfl, owner.moved (stops on) leaves⟩⟩

/-- Settles O30: past the checks of the port and the standing, the number is a class or out of range. -/
theorem forceEventReachesTheRecorder : Obligations.ForceEventReachesTheRecorder := by
  intro p f s takes
  refine siteService_serves takes rfl rfl (fun _ => rfl) fun t owner => ⟨fun high => ?_, fun c named => ⟨rfl, ?_⟩⟩
  · have unknown : EventClass.all[f.value.toNat]? = none := List.getElem?_eq_none high
    exact owner.same (a := .no .range) (by rw [unknown])
  · refine owner { s.dev with handoffs := s.dev.handoffs ++ [.eventOccurrence ⟨c, .port .site, some 255, true⟩] } .done rfl ?_
    rw [← named, c.all_num]
    rfl

end

end

section
/-! SUPPORT. Detections, the call point, the hold button and the timers of the zones (R126 to R132, R136, R137). -/

namespace Sys2Proof.Machine

-- Bodies elaborated side by side would each hold a thread while a default argument waits for the kernel.
set_option Elab.async false

/-! ## Commands that act on a changed level or a running timer -/

section
variable {i : Instr} {s : State} {f : Device → Device}

/-- A timer's expiry acts where the timer runs. -/
theorem exec_running {timer : Device → Option Nat} (run : exec i s = s.next fun d => d.when (timer d).isSome f) :
    (timer s.dev = none → exec i s = .next s) ∧ (timer s.dev ≠ none → exec i s = .next ⟨s.pending, f s.dev⟩) := by
  obtain ⟨idle, acts⟩ := exec_where run
  exact ⟨fun off => idle (Option.isSome_eq_false_iff.mpr (Option.isNone_iff_eq_none.mpr off)),
    fun on => acts (Option.isSome_iff_ne_none.mpr on)⟩

/-- A change of a level acts where the level is another. -/
theorem exec_changed {α : Type} [BEq α] [LawfulBEq α] {level : Device → α} {new : α}
    (run : exec i s = s.next fun d => d.when (level d != new) f) :
    (level s.dev = new → exec i s = .next s) ∧ (level s.dev ≠ new → exec i s = .next ⟨s.pending, f s.dev⟩) := by
  obtain ⟨idle, acts⟩ := exec_where run
  exact ⟨fun same => idle (bne_eq_false_iff_eq.mpr same), fun changed => acts (bne_iff_ne.mpr changed)⟩

end

/-- One event, raised where a condition holds. -/
theorem Device.when_raise (d : Device) (b : Bool) (c : EventClass) (sub : Subject) (n : Option Nat) :
    d.when b (·.raise c sub n) =
      { d with handoffs := d.handoffs ++ if b then [.eventOccurrence ⟨c, sub, n, false⟩] else [] } := by
  cases b with
  | true => rfl
  | false => rw [if_neg Bool.false_ne_true, List.append_nil]; rfl

/-- R138: an event at FGU that changes FGU and raises events. -/
theorem Device.fguEvent_leaves {d : Device} {f : Device → Device} {g : Fgu} {hs : List Instr}
    (leaves : f d = { d with fgu := g, handoffs := d.handoffs ++ hs }) : d.fguEvent f =
      { d with fgu := g.settled, handoffs := d.handoffs ++ (hs ++ fireHandoffs d.fgu g.settled) } := by
  rw [d.fguEvent_eq f, leaves, ← List.append_assoc]

/-! ## Loops (R126, R128, R129, R136) -/

/-- R126: the confirmation time by the raw state. -/
theorem confirmTime_eq (raw : LoopState) : confirmTime raw = if raw = .normal ∨ raw = .active then 2000 else 10000 := by
  cases raw <;> rfl

/-- R136: a loop's confirmation under test. -/
theorem Device.testLoop_eq (d : Device) (z : Zone) (l : Loop) : d.testLoop z l = { d with
    fgu := d.fgu.withZone z { d.zone z with stage := (d.zone z).byFlag }
    handoffs := d.handoffs ++ if ((d.zone z).loop l).confirmed = .active then
      [.eventOccurrence ⟨.testDetection, .zone z, some (Loop.kind l), false⟩] else [] } := by
  rw [Device.testLoop, Device.when_raise, if_congr beq_iff_eq rfl rfl]
  rfl

/-- R126, R128: the part once a confirmation of loop l has set the loop's state and the zone's fault flag. -/
def Device.loopConfirmed (z : Zone) (l : Loop) (d : Device) : Device :=
  let c := (d.zone z).loop l
  (d.modZone z fun r => r.setLoop l ⟨c.raw, c.raw, none⟩).formFault z l c.confirmed

/-- R129, R136: a loop's confirmation as a whole: it is judged, or, under test, noted. -/
def Device.loopTaken (z : Zone) (l : Loop) (d : Device) : Device :=
  let e := d.loopConfirmed z l
  if (e.zone z).inTest then e.testLoop z l else e.judgeZone z

/-- What follows an event at FGU rests on what the event leaves alone. -/
theorem Device.fguEvent_congr {d : Device} {f g : Device → Device} (same : f d = g d) : d.fguEvent f = d.fguEvent g := by
  rw [d.fguEvent_eq f, d.fguEvent_eq g, same]

theorem execLoopConfirmation_eq (z : Zone) (l : Loop) (s : State) : execLoopConfirmation z l s =
    s.next fun d => d.when ((d.zone z).loop l).timer.isSome (·.fguEvent (Device.loopTaken z l)) := by
  refine congrArg s.next (funext fun d => ?_)
  exact if_congr Iff.rfl (Device.fguEvent_congr rfl) rfl

/-- R129, R136: the zone moves from the record r with which the confirmation leaves it, after the event of its fault. -/
theorem Device.loopTaken_moves {d : Device} {z : Zone} {l : Loop} {r : ZoneRec} {raised : List Instr}
    (confirms : d.loopConfirmed z l = { d with fgu := d.fgu.withZone z r, handoffs := d.handoffs ++ raised }) :
    let e := d.fguEvent (Device.loopTaken z l)
    (r.testTimer ≠ none → ZoneMoved d d e z { r with stage := r.byFlag } (raised ++ if (r.loop l).confirmed = .active then
      [.eventOccurrence ⟨.testDetection, .zone z, some (Loop.kind l), false⟩] else [])) ∧
    (r.testTimer = none → ∃ r' hs, Judged (d.withZone z r) z r' hs ∧ ZoneMoved d d e z r' (raised ++ hs)) := by
  intro e
  have zone : (d.loopConfirmed z l).zone z = r := by rw [confirms]; exact d.withZone_zone z r
  -- What follows the confirmation writes the zone's record again, and raises its events after that of the fault.
  have after : ∀ r' hs, ({ d.loopConfirmed z l with
      fgu := (d.loopConfirmed z l).fgu.withZone z r', handoffs := (d.loopConfirmed z l).handoffs ++ hs } : Device) =
      { d with fgu := d.fgu.withZone z r', handoffs := d.handoffs ++ (raised ++ hs) } := fun r' hs => by
    rw [confirms]
    dsimp only
    rw [Fgu.withZone_withZone, List.append_assoc]
  refine ⟨fun test => Device.fguEvent_moved ?_, fun free => ?_⟩
  · have noted : d.loopTaken z l = (d.loopConfirmed z l).testLoop z l := if_pos (by rwa [zone, r.inTest_iff])
    rw [noted, Device.testLoop_eq, after, zone]
  · have judges : d.loopTaken z l = (d.loopConfirmed z l).judgeZone z := if_neg (by rwa [zone, r.inTest_iff, not_not])
    obtain ⟨r', hs, judged, leaves⟩ := (d.loopConfirmed z l).judgeZone_judged z
    refine ⟨r', hs, judged.congr ?_ (by rw [confirms]; rfl) (by rw [confirms]; rfl) (by rw [confirms]; rfl),
      Device.fguEvent_moved (judges.trans (leaves.trans (after r' hs)))⟩
    rw [zone, d.withZone_zone]

theorem ZoneRec.setLoop_testTimer (r : ZoneRec) (l : Loop) (x : LoopRec) : (r.setLoop l x).testTimer = r.testTimer := by
  cases l <;> rfl

/-- The fault flag is apart from the loops. -/
theorem ZoneRec.setLoop_loop (r : ZoneRec) (l : Loop) (x : LoopRec) (fault : Bool) :
    ({ r.setLoop l x with faultFlag := fault } : ZoneRec).loop l = x := by
  cases l <;> rfl

/-! ## Gas samples (R127, R129, R136) -/

/-- R136: a gas sample under test. -/
theorem Device.testSample_eq (d : Device) (z : Zone) :
    (d.fgu.gasHigh z = true → d.testSample z = d.alarm z 2) ∧
    (d.fgu.gasHigh z = false → d.testSample z = { d with
      fgu := d.fgu.withZone z { d.zone z with testGas := d.fgu.gasLow z }
      handoffs := d.handoffs ++ if d.fgu.gasLow z = true ∧ (d.zone z).testGas = false then
        [.eventOccurrence ⟨.testDetection, .zone z, some 3, false⟩] else [] }) := by
  refine ⟨fun high => if_pos high, fun high => (if_neg (Bool.eq_false_iff.mp high)).trans ?_⟩
  rw [Device.when_raise, if_congr (by rw [Bool.and_eq_true, Bool.not_eq_true']) rfl rfl]
  rfl

/-- R127: what a sample leaves of its zone's judgments. -/
theorem Device.readGas_judges (d : Device) (b : BatteryZone) (ppm : Nat) :
    (d.readGas b ppm).fgu.gasLow b.zone = decide (d.item .t9 1 ≤ min 2000 ppm) ∧
    (d.readGas b ppm).fgu.gasHigh b.zone = decide (d.item .t9 2 ≤ min 2000 ppm) := by
  cases b <;> exact ⟨rfl, rfl⟩

/-- R127, R129, R136: a gas sample as a whole: it is judged, or, under test, noted. -/
def Device.gasTaken (b : BatteryZone) (ppm : Nat) (d : Device) : Device :=
  let e := d.readGas b ppm
  if (e.zone b.zone).inTest then e.testSample b.zone else e.judgeZone b.zone

/-! ## The call point and the hold button (R130, R132) -/

theorem ZoneRec.alarmed_congr {d e : Device} (held : e.fgu.holdPressed = d.fgu.holdPressed) (settings : e.settings = d.settings)
    (r : ZoneRec) : r.alarmed e = r.alarmed d := by
  simp only [ZoneRec.alarmed, held, Device.itemNat, Device.item, settings]

/-- The part with the record r for one zone and hs handed on. -/
def Device.zoneMoved (z : Zone) (r : ZoneRec) (hs : List Instr) (d : Device) : Device :=
  { d with fgu := d.fgu.withZone z r, handoffs := d.handoffs ++ hs }

/-- A change of each zone that rests on its own record, the hold button and the settings alone, taken at every zone in turn. -/
theorem Device.each_zone {d : Device} {f : Zone → Device → Device} {r : ZoneRec → ZoneRec} {told : Zone → ZoneRec → List Instr}
    (leaves : ∀ e : Device, e.fgu.holdPressed = d.fgu.holdPressed → e.settings = d.settings → ∀ z,
      f z e = e.zoneMoved z (r (e.zone z)) (told z (e.zone z))) :
    d.each Zone.all f = { d with
      fgu := { d.fgu with zones := d.fgu.zones.map r }
      handoffs := d.handoffs ++ Zone.all.flatMap fun z => told z (d.zone z) } := by
  have first := leaves d rfl rfl .z0
  have middle := leaves (f .z0 d) (by rw [first]; rfl) (by rw [first]; rfl) .z1
  have last := leaves (f .z1 (f .z0 d)) (by rw [middle, first]; rfl) (by rw [middle, first]; rfl) .z2
  have each : d.each Zone.all f = f .z2 (f .z1 (f .z0 d)) := rfl
  rw [each, last, middle, first]
  have toldInTurn : (Zone.all.flatMap fun z => told z (d.zone z)) =
      told .z0 (d.zone .z0) ++ (told .z1 (d.zone .z1) ++ told .z2 (d.zone .z2)) := by
    simp [Zone.all]
  rw [toldInTurn, ← List.append_assoc, ← List.append_assoc]
  rfl

/-- R130: the record of a zone once the call point is confirmed operated. -/
def ZoneRec.called (d : Device) (r : ZoneRec) : ZoneRec :=
  match r.stage with
  | .normal | .fault | .prealarm => r.alarmed d
  | .countdown | .held | .released => r

/-- R130: what the call point raises for a zone. -/
def calledEvents (z : Zone) (r : ZoneRec) : List Instr :=
  match r.stage with
  | .normal | .fault | .prealarm => [.eventOccurrence ⟨.fireAlarm, .zone z, some 3, false⟩]
  | .countdown | .held | .released => []

theorem Device.zoneMoved_self (d : Device) (z : Zone) : d.zoneMoved z (d.zone z) [] = d := by
  rw [Device.zoneMoved, Device.zone, Fgu.withZone_self, List.append_nil]

/-- R130: the call point at one zone. -/
theorem Device.callZone_eq (d : Device) (z : Zone) :
    d.callZone z = d.zoneMoved z ((d.zone z).called d) (calledEvents z (d.zone z)) := by
  unfold Device.callZone ZoneRec.called calledEvents
  cases (d.zone z).stage with
  | normal | fault | prealarm => exact d.alarm_eq z 3
  | countdown | held | released => exact (d.zoneMoved_self z).symm

/-- R130: the stages that a call point takes through ALARM. -/
def ZoneRec.Callable (r : ZoneRec) : Prop := r.stage = .normal ∨ r.stage = .fault ∨ r.stage = .prealarm

theorem ZoneRec.called_callable {r : ZoneRec} (h : r.Callable) (d : Device) : r.called d = r.alarmed d := by
  obtain h | h | h := h <;> simp only [ZoneRec.called, h]

theorem ZoneRec.called_beyond {r : ZoneRec} (h : ¬r.Callable) (d : Device) : r.called d = r := by
  unfold ZoneRec.Callable at h
  unfold ZoneRec.called
  cases stage : r.stage <;> simp [stage] at h ⊢

theorem mem_calledEvents (z : Zone) (r : ZoneRec) (i : Instr) :
    i ∈ calledEvents z r ↔ r.Callable ∧ i = .eventOccurrence ⟨.fireAlarm, .zone z, some 3, false⟩ := by
  unfold calledEvents ZoneRec.Callable
  cases r.stage <;> simp

theorem ZoneRec.called_congr {d e : Device} (held : e.fgu.holdPressed = d.fgu.holdPressed) (settings : e.settings = d.settings)
    (r : ZoneRec) : r.called e = r.called d := by
  unfold ZoneRec.called
  rw [r.alarmed_congr held settings]

/-- R130: the call point at every zone. -/
theorem Device.each_callZone (d : Device) : d.each Zone.all Device.callZone = { d with
    fgu := { d.fgu with zones := d.fgu.zones.map (ZoneRec.called d) }
    handoffs := d.handoffs ++ Zone.all.flatMap fun z => calledEvents z (d.zone z) } :=
  Device.each_zone fun e held settings z => by rw [e.callZone_eq z, ZoneRec.called_congr held settings]

/-- R132: the hold button at every zone. -/
theorem Device.each_holdZone (d : Device) : d.each Zone.all (Device.holdZone d.fgu.holdPressed) = { d with
    fgu := { d.fgu with zones := d.fgu.zones.map (ZoneRec.underButton d) } } := by
  have leaves := Device.each_zone (d := d) (f := Device.holdZone d.fgu.holdPressed) (r := ZoneRec.underButton d)
    (told := fun _ _ => []) fun e held settings z => by
      rw [← held, e.holdZone_eq z, ZoneRec.underButton_congr held settings, Device.zoneMoved, List.append_nil]
      rfl
  rw [leaves]
  simp

theorem Zone.mem_all (z : Zone) : z ∈ Zone.all := by cases z <;> decide

/-- R126, R130: the confirmation of the call point. -/
def Device.callTaken (d : Device) : Device :=
  let d := d.modFgu fun g => { g with callConfirmed := g.callRaw, callTimer := none }
  d.when d.fgu.callConfirmed (·.each Zone.all Device.callZone)

/-- R130: the zones once the call point is confirmed in its raw state, and what is raised for them. -/
theorem Device.callTaken_calls (d : Device) :
    let moves (z : Zone) := d.fgu.callRaw = true ∧ (d.zone z).Callable
    ∃ zones hs, (∀ z, (moves z → zones.get z = (d.zone z).alarmed d) ∧ (¬moves z → zones.get z = d.zone z)) ∧
      (∀ i, i ∈ hs ↔ ∃ z, moves z ∧ i = .eventOccurrence ⟨.fireAlarm, .zone z, some 3, false⟩) ∧
      d.callTaken = { d with
        fgu := { d.fgu with callConfirmed := d.fgu.callRaw, callTimer := none, zones := zones }
        handoffs := d.handoffs ++ hs } := by
  intro moves
  by_cases raw : d.fgu.callRaw = true
  · have calls : ∀ z, moves z ↔ (d.zone z).Callable := fun z => and_iff_right raw
    refine ⟨d.fgu.zones.map (ZoneRec.called d), Zone.all.flatMap fun z => calledEvents z (d.zone z), fun z => ?_, fun i => ?_, ?_⟩
    · rw [calls, PerZone.get_map]
      exact ⟨fun h => ZoneRec.called_callable h d, fun h => ZoneRec.called_beyond h d⟩
    · simp only [List.mem_flatMap, Zone.mem_all, true_and, mem_calledEvents, calls]
    · exact (if_pos raw : d.callTaken = _).trans (Device.each_callZone _)
  · have still : ∀ z, ¬moves z := fun z h => raw h.1
    refine ⟨d.fgu.zones, [], fun z => ⟨fun h => absurd h (still z), fun _ => rfl⟩, fun i => ?_, ?_⟩
    · exact ⟨fun h => absurd h List.not_mem_nil, fun ⟨z, h, _⟩ => absurd h (still z)⟩
    · rw [List.append_nil]
      exact if_neg raw

/-- R132: a zone under the hold button, just pressed or just released. -/
theorem ZoneRec.underButton_rows (d : Device) (r : ZoneRec) :
    (d.fgu.holdPressed = true → r.stage = .countdown → r.underButton d = { r with stage := .held, releaseTimer := none }) ∧
    (d.fgu.holdPressed = false → r.stage = .held →
      r.underButton d = { r with stage := .countdown, releaseTimer := some (1000 * d.itemNat .t9 0) }) ∧
    (¬(d.fgu.holdPressed = true ∧ r.stage = .countdown) → ¬(d.fgu.holdPressed = false ∧ r.stage = .held) →
      r.underButton d = r) := by
  unfold ZoneRec.underButton
  refine ⟨fun pressed stage => if_pos ⟨stage, pressed⟩, fun freed stage => ?_, fun noHold noFree => ?_⟩
  · rw [if_neg (by simp [stage]), if_pos ⟨stage, freed⟩]
  · exact (if_neg (mt And.symm noHold)).trans (if_neg (mt And.symm noFree))

end Sys2Proof.Machine

section
open Sys2Proof Sys2Proof.Machine

/-- Settles O54: a confirmation and a sample are events at FGU whose zone is judged, or, under test, noted. -/
theorem detectionsMoveTheZones : Obligations.DetectionsMoveTheZones := by
  intro s z d o event stage faulty
  refine ⟨fun l raw => ?_, fun l => ?_, fun b ppm same => ?_⟩
  · intro c
    obtain ⟨idle, acts⟩ := exec_changed (i := .loopChange z l raw) (s := s) (level := fun d => ((d.zone z).loop l).raw)
      (f := fun d => d.modZone z fun r => r.setLoop l { (d.zone z).loop l with
        raw := raw, timer := if raw = ((d.zone z).loop l).confirmed then none else some (confirmTime raw) }) rfl
    refine ⟨idle, fun changed => (acts changed).trans (next_congr ?_)⟩
    rw [Device.modZone_eq, confirmTime_eq, apply_ite some]
  · intro c smoke heat r fault raised
    obtain ⟨idle, acts⟩ := exec_running (i := .loopConfirmation z l) (execLoopConfirmation_eq z l s)
    obtain ⟨noted, judged⟩ := Device.loopTaken_moves (d := d) (z := z) (l := l) (r := r) (raised := raised) (d.confirmLoop_eq z l)
    have test : r.testTimer = o.testTimer := o.setLoop_testTimer l _
    have confirmed : (r.loop l).confirmed = c.raw := congrArg LoopRec.confirmed (o.setLoop_loop l _ _)
    have kind : Loop.kind l = if l = .smoke then 1 else 2 := by cases l <;> rfl
    rw [confirmed, kind] at noted
    exact ⟨idle, fun on => ⟨_, acts on, fun tested => noted (test.trans_ne tested), fun free => judged (test.trans free)⟩⟩
  · subst same
    refine ⟨d.fguEvent (Device.gasTaken b ppm), rfl, ?_⟩
    intro level low high m
    obtain ⟨isLow, isHigh⟩ := d.readGas_judges b ppm
    obtain ⟨alarms, notes⟩ := (d.readGas b ppm).testSample_eq b.zone
    rw [isHigh] at alarms notes
    rw [isLow] at notes
    have tested : o.testTimer ≠ none → d.gasTaken b ppm = (d.readGas b ppm).testSample b.zone := fun on => if_pos (o.inTest_iff.mpr on)
    refine ⟨fun on above => Device.fguEvent_moved ?_, fun on below => Device.fguEvent_moved ?_, fun off => ?_⟩
    · exact (tested on).trans ((alarms above).trans (Device.alarm_eq _ _ 2))
    · exact (tested on).trans (notes below)
    · have judges : d.gasTaken b ppm = (d.readGas b ppm).judgeZone b.zone := if_neg (mt o.inTest_iff.mp (not_not.mpr off))
      obtain ⟨r, hs, judged, leaves⟩ := (d.readGas b ppm).judgeZone_judged b.zone
      exact ⟨r, hs, judged, Device.fguEvent_moved (judges.trans leaves)⟩

/-- Settles O55: the call point and the hold button act at every zone in turn, a timer's expiry at its own. -/
theorem callHoldAndTimersMoveTheZones : Obligations.CallHoldAndTimersMoveTheZones := by
  intro s d g
  have call := exec_running (i := .callPointConfirmation) (s := s) (timer := fun d => d.fgu.callTimer) rfl
  refine ⟨fun operated => ?_, call.1, fun running => ?_, fun pressed => ?_, fun z => ?_⟩
  · exact exec_changed (i := .callPointChange operated) (level := fun d => d.fgu.callRaw) rfl
  · obtain ⟨zones, hs, moved, told, leaves⟩ := d.callTaken_calls
    exact ⟨zones, hs, moved, told, (call.2 running).trans (next_congr (Device.fguEvent_leaves (f := Device.callTaken) leaves))⟩
  · obtain ⟨idle, acts⟩ := exec_changed (i := .holdButtonChange pressed) (s := s) (level := fun d => d.fgu.holdPressed) rfl
    let m : Device := { d with fgu := { g with holdPressed := pressed } }
    refine ⟨idle, fun changed => ⟨g.zones.map (ZoneRec.underButton m), fun z => ?_, ?_⟩⟩
    · rw [PerZone.get_map]
      obtain ⟨holds, frees, stays⟩ := (d.zone z).underButton_rows m
      exact ⟨holds, frees, stays⟩
    · refine (acts changed).trans (next_congr (Device.fguEvent_leaves (hs := []) ?_))
      rw [List.append_nil]
      exact m.each_holdZone
  · obtain ⟨noRelease, releases⟩ := exec_running (i := .releaseTimerExpiry z) (s := s) (timer := fun d => (d.zone z).releaseTimer) rfl
    obtain ⟨noTest, ends⟩ := exec_running (i := .testTimerExpiry z) (s := s) (timer := fun d => (d.zone z).testTimer) rfl
    obtain ⟨noPulse, falls⟩ := exec_running (i := .pulseTimerExpiry z) (s := s) (timer := fun d => (d.zone z).pulseTimer) rfl
    obtain ⟨r, hs, ended, leaves⟩ := d.endTest_ended z
    refine ⟨noRelease, fun running => ⟨_, releases running, Device.fguEvent_moved ?_⟩, noPulse, falls, noTest,
      fun running => ⟨_, r, hs, ends running, ended, Device.fguEvent_moved leaves⟩⟩
    exact congrArg (fun hs => { d.withZone z _ with handoffs := hs }) (List.append_assoc d.handoffs [_] [_])

end
end

section
/-! SUPPORT. The law of the bleed set, operation by operation (R144, R148, R150, R153). -/

namespace Sys2Proof.Machine

-- Bodies elaborated side by side would each hold a thread while a default argument waits for the kernel.
set_option Elab.async false

/-! ## The suspend causes (R148) -/

/-- R148: a cause suspends a RUNNING run, and a SUSPEND_PENDING run without one runs again. -/
theorem Run.answerCauses_eq (r : Run) : r.answerCauses = { r with
    state := if r.state = .running ∧ r.held = true then .suspendPending
      else if r.state = .suspendPending ∧ r.held = false then .running else r.state } := by
  obtain ⟨state, string, target, most, time, owner, thermal, port, code, records⟩ := r
  unfold Run.answerCauses
  cases state with
  | running | suspendPending => cases thermal <;> cases port <;> rfl
  | idle | suspended | ended => rfl

/-! ## A record for the run (R146, R147) -/

/-- R146, R147: a record of the run's string is counted, and compared with the older commanded set. -/
def Device.recordCounted (bleed : BitVec 16) (d : Device) : Device :=
  (d.modRun fun r => { r with records := countUp 65535 r.records }).modBal fun b => { b with mismatch := d.bal.mismatchAfter bleed }

/-- R146: what a record of the live run's string does at BAL. -/
def Device.recordTaken (vmax : List Int) (bleed : BitVec 16) (d : Device) : Device :=
  let m := d.recordCounted bleed
  if 2 ≤ d.bal.mismatchAfter bleed then m.endRun 10
  else (m.bleedStep vmax).when (m.bleedStep vmax).runLive (·.modBal Bal.remember)

theorem execBalanceRecord_eq (n : StringId) (vmax : List Int) (bleed : BitVec 16) (s : State) :
    let m := s.dev.took (.balanceRecord n vmax bleed)
    execBalanceRecord n vmax bleed s = .next ⟨s.pending, m.when (m.runOn n) (·.recordTaken vmax bleed)⟩ := rfl

/-! ## What the law reads -/

theorem BleedLaw.congr {d e : Device} (h : BleedLaw d) (same : e.bal = d.bal) : BleedLaw e := by
  unfold BleedLaw
  rw [same]
  exact h

theorem BleedLaw.only {d e : Device} {bs : List Block} (h : BleedLaw d) (only : Only bs d e) (apart : .bal ∉ bs := by decide) :
    BleedLaw e := h.congr (only .bal apart)

/-- R144: without a live run and with no module commanded, whatever the fire stage. -/
theorem bleedLaw_still {d : Device} (rests : d.bal.run.state.live = false) (empty : d.bal.commanded = 0) : BleedLaw d :=
  ⟨fun _ _ => empty, fun live => by simp [rests] at live⟩

theorem BleedLaw.empty {d : Device} (h : BleedLaw d) (rests : d.bal.run.state.live = false) : d.bal.commanded = 0 :=
  h.1 (fun runs => by simp [runs, RunState.live] at rests) fun pends => by simp [pends, RunState.live] at rests

/-- A run that keeps its state keeps the law. -/
theorem BleedLaw.modRun {d : Device} (h : BleedLaw d) {f : Run → Run} (same : (f d.bal.run).state = d.bal.run.state) :
    BleedLaw (d.modRun f) := by
  unfold BleedLaw
  rw [Device.modRun_bal, same]
  exact h

/-! ## The law through the operations -/

/-- R150: an end empties the set. -/
theorem bleedLaw_endRun (d : Device) (code : Nat) : BleedLaw (d.endRun code) := bleedLaw_still rfl rfl

/-- R148: the causes move a run between RUNNING and SUSPEND_PENDING alone, in both of which the set may stand. -/
theorem BleedLaw.setCauses {d : Device} (h : BleedLaw d) {f : Run → Run} (same : (f d.bal.run).state = d.bal.run.state) :
    BleedLaw (d.setCauses f) := by
  have moves : (f d.bal.run).answerCauses.state = d.bal.run.state ∨
      d.bal.run.state.live = true ∧
        ((f d.bal.run).answerCauses.state = .running ∨ (f d.bal.run).answerCauses.state = .suspendPending) := by
    rw [Run.answerCauses_eq, same]
    dsimp only
    split
    · next runs => exact .inr ⟨by simp [runs.1, RunState.live], .inr rfl⟩
    · split
      · next pends => exact .inr ⟨by simp [pends.1, RunState.live], .inl rfl⟩
      · exact .inl rfl
  rcases moves with stays | ⟨live, runs | pends⟩
  · exact h.modRun stays
  · exact ⟨fun no => absurd runs no, fun _ => h.2 live⟩
  · exact ⟨fun _ no => absurd pends no, fun _ => h.2 live⟩

/-- R146: a set is formed in RUNNING, or the run ends. -/
theorem bleedLaw_formBleed {d : Device} (calm : d.bal.fireStage.grave = false) (vmax : List Int) : BleedLaw (d.formBleed vmax) := by
  unfold Device.formBleed
  dsimp only
  split
  · exact bleedLaw_endRun _ 1
  · exact ⟨fun no => absurd rfl no, fun _ => calm⟩

theorem BleedLaw.bleedStep {d : Device} (h : BleedLaw d) (vmax : List Int) : BleedLaw (d.bleedStep vmax) := by
  have calm {st : RunState} (state : d.bal.run.state = st) (live : st.live = true) : d.bal.fireStage.grave = false :=
    h.2 (state ▸ live)
  unfold Device.bleedStep
  split
  · next runs => exact bleedLaw_formBleed (calm runs rfl) vmax
  · next pends => exact ⟨fun _ _ => rfl, fun _ => calm pends rfl⟩
  · next waits => exact Device.when_keeps h fun _ => bleedLaw_formBleed (calm waits rfl) vmax
  all_goals exact h

/-- R145: a run starts with no module commanded, and BAL lets none start at a grave fire stage. -/
theorem bleedLaw_startRun {d : Device} (calm : d.bal.fireStage.grave = false) (p : Port) (n : StringId) (duration target : Nat) :
    BleedLaw (d.startRun p n duration target) := ⟨fun _ _ => rfl, fun _ => calm⟩

/-- R153: the run stands still once the part has restarted. -/
theorem restart_bleedLaw {d : Device} (h : BleedLaw d) : BleedLaw d.restart := by
  obtain ⟨run, commanded, -, -⟩ := (Device.startBlocks_keeps d.restart_ready.ready).bal
  rw [← Device.restart_eq] at run commanded
  cases live : d.bal.run.state.live with
  | true =>
    rw [d.restart_ready.live live] at run commanded
    exact bleedLaw_still (by rw [run]; rfl) commanded
  | false =>
    rw [d.restart_ready.idle live] at run commanded
    exact bleedLaw_still (by rw [run, live]) (commanded.trans (h.empty live))

theorem powerOn_bleedLaw (d : Device) : BleedLaw d.powerOn := by
  obtain ⟨run, commanded, -, -⟩ := (Device.startBlocks_keeps d.loaded_ready).bal
  rw [← Device.powerOn_eq] at run commanded
  exact bleedLaw_still (by rw [run]; rfl) commanded

theorem BleedLaw.settle {d : Device} (h : BleedLaw d) : BleedLaw d.settle := Device.when_keeps h restart_bleedLaw

/-! ## Every command -/

/-- R175, R177, R179: what settles comes of a part whose hand-offs and store alone have changed. -/
theorem settles_leaves {i : Instr} {s t : State} (settles : Settles i) (h : exec i s = .next t) :
    ∃ m, Only [.handoffs, .sto] s.dev m ∧ (t.dev = m ∨ t.dev = m.settle) := by
  have start := Only.refl [.handoffs, .sto] s.dev
  obtain rfl | ⟨ok, rfl⟩ | ⟨ok, rfl⟩ | ⟨upset, rfl⟩ := settles <;> cases h
  · exact ⟨_, start, .inr rfl⟩
  · dsimp only [State.on_dev]
    split
    · exact ⟨_, (start.storeEnds _ _).proceed, .inr rfl⟩
    · exact ⟨_, start, .inl rfl⟩
  · dsimp only [State.on_dev]
    split
    · exact ⟨_, (start.updateEnds _ _).proceed, .inr rfl⟩
    · exact ⟨_, start, .inl rfl⟩
  · exact ⟨_, (start.modSto _).when _ _ fun _ h => h.selfFailed _, .inr rfl⟩

theorem BleedLaw.settles {i : Instr} {s t : State} (law : BleedLaw s.dev) (settles : Settles i) (h : exec i s = .next t) :
    BleedLaw t.dev := by
  obtain ⟨m, only, stays | settled⟩ := settles_leaves settles h
  · exact stays ▸ law.only only
  · exact settled ▸ (law.only only).settle

/-- R149: a millisecond leaves the run's state, the set and the fire stage. -/
theorem BleedLaw.tick (d : Device) (h : BleedLaw d) : BleedLaw d.tick := h

/-- R146, R147: a record ends the run or makes its state step; what it counts the law does not read. -/
theorem BleedLaw.recordTaken {d : Device} (h : BleedLaw d) (vmax : List Int) (bleed : BitVec 16) :
    BleedLaw (d.recordTaken vmax bleed) := by
  unfold Device.recordTaken
  dsimp only
  split
  · exact bleedLaw_endRun _ 10
  · have counted : BleedLaw (d.recordCounted bleed) := h
    exact Device.when_keeps (counted.bleedStep vmax) fun law => law

/-- R150: a fire stage of PREALARM or higher ends a live run as it is handed on. -/
theorem BleedLaw.fireStage {d : Device} (h : BleedLaw d) (st : FireStage) :
    let m := d.modBal fun b => { b with fireStage := st }
    BleedLaw (m.when (st.grave && m.runLive) (·.endRun 3)) := by
  intro m
  unfold Device.when
  split
  · exact bleedLaw_endRun m 3
  · next calm =>
    refine ⟨h.1, fun live => Bool.eq_false_iff.mpr fun grave => calm ?_⟩
    exact Bool.and_eq_true_iff.mpr ⟨grave, live⟩

theorem bleedLaw_event {i : Instr} {s t : State} (event : requestOf i = none) (h : exec i s = .next t)
    (law : BleedLaw s.dev) : BleedLaw t.dev := by
  by_cases apart : .bal ∉ touches i
  · obtain ⟨d, e, only⟩ := event_completes event s
    cases h.symm.trans e
    exact law.only only apart
  · cases i with
    | powerOnReset => cases h; exact powerOn_bleedLaw _
    | warmRestart => exact law.settles (.inl rfl) h
    | programmingCompletion ok => exact law.settles (.inr (.inl ⟨ok, rfl⟩)) h
    | updateCompletion ok => exact law.settles (.inr (.inr (.inl ⟨ok, rfl⟩))) h
    | integrityCheck upset => exact law.settles (.inr (.inr (.inr ⟨upset, rfl⟩))) h
    | balanceRecord n vmax bleed =>
      cases h.symm.trans (execBalanceRecord_eq n vmax bleed s)
      exact Device.when_keeps (law.only (took_only _ _)) fun taken => taken.recordTaken vmax bleed
    | thermalHoldHandoff on =>
      cases h
      exact Device.when_keeps (d := Device.modBal _ _) law fun held => held.setCauses rfl
    | balFireStageHandoff st => cases h; exact (law.only (took_only _ (.balFireStageHandoff st))).fireStage st
    | balHealthHandoff n x =>
      cases h
      dsimp only [State.on_dev]
      split
      · exact Device.when_keeps (d := Device.modBal _ _) law fun _ => bleedLaw_endRun _ _
      · exact law
    | balMonitorLoss n => cases h; exact Device.when_keeps (law.only (took_only _ (.balMonitorLoss n))) fun _ => bleedLaw_endRun _ 6
    | balStandingHandoff p st => cases h; exact Device.when_keeps (d := Device.modBal _ _) law fun _ => bleedLaw_endRun _ 9
    | durationExpiry => cases h; exact Device.when_keeps law fun _ => bleedLaw_endRun _ 2
    | siteCapWrite p dir f => cases dir <;> cases event
    | deratingWrite p via j f => cases via <;> cases event
    | expectationRewrite p n e f => cases e <;> cases event
    | _ => simp [touches, requestOf] at apart event

/-! ## Every request -/

theorem BleedLaw.balStart {d : Device} (h : BleedLaw d) (p : Port) (v : Word) : BleedLaw (balStart p v d).1 := by
  refine row_keeps h (row_keeps h ?_)
  split
  · exact h
  · next n _ =>
    refine row_keeps h (row_keeps h (row_keeps h (row_keeps h (row_keeps h ?_))))
    split
    · exact h
    · next calm => exact bleedLaw_startRun (Bool.eq_false_iff.mpr calm) p n _ _

theorem BleedLaw.ownerService {d : Device} (h : BleedLaw d) {f : Device → Device} (taken : BleedLaw (f d)) (p : Port) :
    BleedLaw (ownerService f p d).1 := row_keeps h (row_keeps h (row_keeps h taken))

/-- R151: a cleared run is IDLE, and the set of an ENDED one is empty already. -/
theorem BleedLaw.balClear {d : Device} (h : BleedLaw d) (p : Port) : BleedLaw (balClear p d).1 := by
  refine row_keeps h (row_keeps h ?_)
  split
  · exact h
  · next ended =>
    have rests : d.bal.run.state.live = false := by rw [not_not.mp ended]; rfl
    exact bleedLaw_still (d := d.modRun _) rfl (h.empty rests)

/-- The requests that touch BAL: its five services and RESTART. -/
theorem request_bal {kind index : Nat} (h : .bal ∈ routeTouches kind index) :
    kind = 3 ∧ (index = 13 ∨ index = 14 ∨ index = 15 ∨ index = 16 ∨ index = 17 ∨ index = 19) := by
  unfold routeTouches at h
  split at h <;> simp at h ⊢
  unfold serviceTouches at h
  split at h <;> simp at h ⊢

theorem bleedLaw_route (p : Port) (f : Frame) (d : Device) (law : BleedLaw d) : BleedLaw (route p f d).1 := by
  by_cases bal : .bal ∈ routeTouches f.kind.toNat f.index.toNat
  · obtain ⟨kind, index⟩ := request_bal bal
    obtain index | index | index | index | index | index := index <;> simp only [route, kind, service, index]
    · exact law.balStart p f.value
    · exact law.ownerService (law.setCauses rfl) p
    · exact law.ownerService (law.setCauses rfl) p
    · exact law.ownerService (bleedLaw_endRun d 8) p
    · exact law.balClear p
    · exact row_keeps law (row_keeps law (law.only (modSto_only d _)).settle)
  · exact law.only (route_only d p f) bal

end Sys2Proof.Machine

section
open Sys2Proof Sys2Proof.Machine

/-- Settles O12: the causes, the records and the starts leave a set only where the run may bleed, an end empties it, and a fire stage that
is grave ends a live run or lets none start. -/
theorem bleedLawKept : Obligations.BleedLawKept := fun _ _ =>
  step_keeps BleedLaw.tick (fun _ _ _ => bleedLaw_event) (fun only law => law.only only) bleedLaw_route

end

end

section
/-! SUPPORT. The services of a balancing run, row by row (R145, R148, R150, R151). -/

namespace Sys2Proof.Machine

/-- A service, taken: its owner's answer is the next reply. -/
theorem service_serves {s : State} {p : Port} {f : ServiceFrame} {n : Byte} {i : Instr} {act : Device → Device × Answer}
    {taken : State → Prop} (takes : Takes s i) (request : requestOf i = some ⟨p, f.frame n⟩)
    (run : exec i s = s.next (·.request p (f.frame n) act)) (owner : ∀ t, OwnerReplies s t p act → taken t) :
    ∃ t, exec i s = .next t ∧ taken t := by
  obtain ⟨r, hr, hrun, hchk⟩ := takes
  cases request.symm.trans hr
  exact ⟨_, run, owner _ fun d a ports answers => request_replies hrun hchk d a ports answers⟩

/-- The owner answers OK to an event at BAL alone. -/
theorem OwnerReplies.bal {s t : State} {p : Port} {k : Device → Device × Answer} {b : Bal} (h : OwnerReplies s t p k)
    (answers : k (s.dev.clockOut p) = ({ s.dev.clockOut p with bal := b }, .done)) :
    Replies s t p 3 .ok none { s.dev with bal := b } := h _ .done rfl answers

theorem Device.notTrusted_iff (d : Device) (p : Port) : (!(d.standing p).trusted) = true ↔ ¬Trusted d p := by
  rw [Bool.not_eq_true', ← Bool.not_eq_true, not_congr (Standing.trusted_iff _)]

theorem Device.cannotWrite_iff (d : Device) (p : Port) (table : Nat) : (!d.canWrite p table) = true ↔ ¬MayWrite d p table := by
  rw [Bool.not_eq_true', ← Bool.not_eq_true, d.canWrite_iff]

/-! ## BALANCE_START (R145) -/

/-- R145: the three numbers that a value carries. -/
theorem StartValue.ofWord_eq {v : Word} {string duration target : Nat}
    (value : v.toNat = string * 268435456 + duration * 65536 + target) (short : duration < 4096) (low : target < 65536) :
    StartValue.ofWord v = ⟨string, duration, target⟩ := by
  simp only [StartValue.ofWord, value, StartValue.mk.injEq]
  omega

section
variable {d : Device} {p : Port}

/-- R145: what BALANCE_START does past the rows of the port: those of the value and of what BAL finds, and the start. -/
def startPast (p : Port) (x : StartValue) (d : Device) : Device × Answer :=
  match StringId.ofNum x.string with
  | none => (d, .no .range)
  | some n =>
    if 480 < x.duration ∨ x.target < 2500 ∨ 4300 < x.target then (d, .no .range)
    else if d.runLive then (d, .no .busy)
    else if d.bal.run.state = .ended then (d, .state 1)
    else if (d.monitor n).state ≠ .present then (d, .state 2)
    else if d.bal.health.get n = .tripped ∨ d.bal.health.get n = .lockedOut then (d, .state 3)
    else if d.bal.fireStage.grave then (d, .state 4)
    else (d.startRun p n x.duration x.target, .done)

/-- R145: the rows of the port. -/
theorem balStart_port (v : Word) :
    (¬MayWrite d p 2 → balStart p v d = (d, .no .denied)) ∧
    (MayWrite d p 2 → ¬Trusted d p → balStart p v d = (d, .no .noStanding)) ∧
    (MayWrite d p 2 → Trusted d p → balStart p v d = startPast p (.ofWord v) d) := by
  have denied := d.cannotWrite_iff p 2
  have barred := d.notTrusted_iff p
  refine ⟨fun no => if_pos (denied.mpr no), fun may no => ?_, fun may trust => ?_⟩
  all_goals refine (if_neg (mt denied.mp (not_not.mpr may))).trans ?_
  · exact if_pos (barred.mpr no)
  · exact if_neg (mt barred.mp (not_not.mpr trust))

variable {n : StringId} {string duration target : Nat}

/-- R145: a string above 3 and the two ranges. -/
theorem startPast_range (out : 3 < string ∨ 480 < duration ∨ target < 2500 ∨ 4300 < target) :
    startPast p ⟨string, duration, target⟩ d = (d, .no .range) := by
  unfold startPast
  dsimp only
  split
  · rfl
  · next n named =>
    refine if_pos (out.resolve_left fun high => ?_)
    rw [StringId.ofNum_of_le high] at named
    cases named

/-- R145: a value in range finds a run. -/
theorem startPast_stands (short : duration ≤ 480) (high : 2500 ≤ target) (low : target ≤ 4300) :
    (d.bal.run.state.live = true → startPast p ⟨n.num, duration, target⟩ d = (d, .no .busy)) ∧
    (d.bal.run.state = .ended → startPast p ⟨n.num, duration, target⟩ d = (d, .state 1)) := by
  have fits : ¬(480 < duration ∨ target < 2500 ∨ 4300 < target) := by omega
  unfold startPast
  rw [StringId.ofNum_num]
  refine ⟨fun live => ?_, fun ended => ?_⟩
  all_goals refine (if_neg fits).trans ?_
  · exact if_pos live
  · have rests : ¬d.runLive = true := by rw [Device.runLive, ended]; decide
    exact (if_neg rests).trans (if_pos ended)

/-- R145: a value in range finds BAL idle: the monitor, the health and the fire stage are judged in turn. -/
theorem startPast_idle (short : duration ≤ 480) (high : 2500 ≤ target) (low : target ≤ 4300) (idle : d.bal.run.state = .idle) :
    startPast p ⟨n.num, duration, target⟩ d =
      if (d.monitor n).state ≠ .present then (d, .state 2)
      else if d.bal.health.get n = .tripped ∨ d.bal.health.get n = .lockedOut then (d, .state 3)
      else if d.bal.fireStage.grave then (d, .state 4)
      else (d.startRun p n duration target, .done) := by
  have fits : ¬(480 < duration ∨ target < 2500 ∨ 4300 < target) := by omega
  have rests : ¬d.runLive = true := by rw [Device.runLive, idle]; decide
  have fresh : ¬d.bal.run.state = .ended := by rw [idle]; decide
  unfold startPast
  rw [StringId.ofNum_num]
  exact (if_neg fits).trans ((if_neg rests).trans (if_neg fresh))

/-- R148: a run that no port suspends answers the thermal hold alone. -/
theorem Run.answerCauses_start {r : Run} (runs : r.state = .running) (free : r.portCause = false) :
    r.answerCauses = { r with state := if r.thermalCause then .suspendPending else .running } := by
  rw [Run.answerCauses_eq]
  simp [Run.held, runs, free]

/-- R145, R148: a fresh run, at once SUSPEND_PENDING under a thermal hold. -/
theorem Device.startRun_eq (n : StringId) (duration target : Nat) : d.startRun p n duration target = { d with
    bal := { d.bal with
      run :=
        { state := if d.bal.thermalHold then .suspendPending else .running
          string := n
          target := target
          maxDuration := if duration = 0 then 120 else duration
          runningTime := 0
          owner := some p
          thermalCause := d.bal.thermalHold
          portCause := false
          endCode := 0
          records := 0 }
      commanded := 0
      history := []
      mismatch := 0 } } := by
  unfold Device.startRun
  dsimp only
  rw [Run.answerCauses_start rfl rfl]
  rfl

/-! ## The services of a run that stands (R148, R150, R151) -/

/-- R151: the rows of SUSPEND, RESUME and CANCEL. -/
theorem ownerService_rows (f : Device → Device) :
    (¬Trusted d p → ownerService f p d = (d, .no .noStanding)) ∧
    (Trusted d p → d.bal.run.state.live = false → ownerService f p d = (d, .stateOpen)) ∧
    (Trusted d p → d.bal.run.state.live = true → d.bal.run.owner ≠ some p → ownerService f p d = (d, .no .denied)) ∧
    (Trusted d p → d.bal.run.state.live = true → d.bal.run.owner = some p → ownerService f p d = (f d, .done)) := by
  have barred := d.notTrusted_iff p
  have idle : (!d.runLive) = true ↔ d.bal.run.state.live = false := by rw [Bool.not_eq_true']; rfl
  refine ⟨fun no => if_pos (barred.mpr no), fun trust rests => ?_, fun trust live other => ?_, fun trust live own => ?_⟩
  all_goals refine (if_neg (mt barred.mp (not_not.mpr trust))).trans ?_
  · exact if_pos (idle.mpr rests)
  all_goals refine (if_neg (mt idle.mp (by simp [live]))).trans ?_
  · exact if_pos other
  · exact if_neg (not_not.mpr own)

/-- R151: the rows of CLEAR. -/
theorem balClear_rows :
    (¬Trusted d p → balClear p d = (d, .no .noStanding)) ∧
    (Trusted d p → ¬MayWrite d p 2 → balClear p d = (d, .no .denied)) ∧
    (Trusted d p → MayWrite d p 2 → d.bal.run.state ≠ .ended → balClear p d = (d, .stateOpen)) ∧
    (Trusted d p → MayWrite d p 2 → d.bal.run.state = .ended → balClear p d = (d.modRun fun _ => .none, .done)) := by
  have barred := d.notTrusted_iff p
  have denied := d.cannotWrite_iff p 2
  refine ⟨fun no => if_pos (barred.mpr no), fun trust no => ?_, fun trust may stands => ?_, fun trust may ended => ?_⟩
  all_goals refine (if_neg (mt barred.mp (not_not.mpr trust))).trans ?_
  · exact if_pos (denied.mpr no)
  all_goals refine (if_neg (mt denied.mp (not_not.mpr may))).trans ?_
  · exact if_pos stands
  · exact if_neg (not_not.mpr ended)

end

/-- R148: the state of a run whose causes have changed. -/
theorem Device.setCauses_eq (d : Device) (f : Run → Run) : d.setCauses f = { d with bal := { d.bal with
    run := { f d.bal.run with
      state := if (f d.bal.run).state = .running ∧ (f d.bal.run).held = true then .suspendPending
        else if (f d.bal.run).state = .suspendPending ∧ (f d.bal.run).held = false then .running
        else (f d.bal.run).state } } } := by
  rw [← Run.answerCauses_eq]
  rfl

/-- R148: the causes of a run that stands change, and its state with them. -/
theorem OwnerReplies.causes {s t : State} {p : Port} {k : Device → Device × Answer} {f : Run → Run} {st : RunState}
    (h : OwnerReplies s t p k) (answers : k (s.dev.clockOut p) = ((s.dev.clockOut p).setCauses f, .done))
    (state : (f s.dev.bal.run).answerCauses.state = st) :
    Replies s t p 3 .ok none { s.dev with bal := { s.dev.bal with run := { f s.dev.bal.run with state := st } } } := by
  subst state
  refine h.bal (answers.trans (congrArg (·, Answer.done) ?_))
  rw [Device.setCauses_eq, Run.answerCauses_eq]
  rfl

end Sys2Proof.Machine

section
open Sys2Proof Sys2Proof.Machine

/-- Settles O31: the rows of the port, of the value and of what BAL finds, and then the fresh run. -/
theorem balanceStartBeginsARun : Obligations.BalanceStartBeginsARun := by
  intro p f s takes
  refine service_serves takes rfl rfl fun t owner => ?_
  obtain ⟨denied, barred, past⟩ := balStart_port (d := s.dev.clockOut p) (p := p) f.value
  refine ⟨fun no => owner.same (denied no), fun may no => owner.same (barred may no), ?_⟩
  intro may trust string duration target carries short low
  have starts := past may trust
  rw [StartValue.ofWord_eq carries short low] at starts
  refine ⟨fun out => owner.same (starts.trans (startPast_range out)), fun n named short high low => ?_⟩
  intro b m
  subst named
  obtain ⟨busy, ended⟩ := startPast_stands (d := s.dev.clockOut p) (p := p) (n := n) short high low
  have idles := fun idle => starts.trans (startPast_idle (d := s.dev.clockOut p) (p := p) (n := n) short high low idle)
  refine ⟨fun live => owner.same (starts.trans (busy live)), fun is => owner.same (starts.trans (ended is)),
    fun idle away => owner.same ((idles idle).trans (if_pos away)), fun idle present ill => ?_,
    fun idle present untripped free => ⟨fun grave => ?_, fun calm => ?_⟩⟩
  all_goals have judged := (idles idle).trans (if_neg (not_not.mpr present))
  · exact owner.same (judged.trans (if_pos ill))
  all_goals replace judged := judged.trans (if_neg (not_or.mpr ⟨untripped, free⟩))
  · exact owner.same (judged.trans (if_pos grave))
  · refine owner.bal (judged.trans ((if_neg (Bool.not_eq_true _ ▸ calm)).trans ?_))
    rw [Device.startRun_eq]
    rfl

/-- Settles O32: the rows that the owner's three services share, what each makes of the run, and the rows of CLEAR. -/
theorem balanceServicesActOnTheRun : Obligations.BalanceServicesActOnTheRun := by
  intro p f s b owned
  have rows {t : State} {g : Device → Device} {taken : Prop} (owner : OwnerReplies s t p (ownerService g p))
      (acts : ownerService g p (s.dev.clockOut p) = (g (s.dev.clockOut p), .done) → taken) : owned t taken := by
    obtain ⟨barred, idle, denied, takes⟩ := ownerService_rows (d := s.dev.clockOut p) (p := p) g
    exact ⟨fun no => owner.same (barred no), fun trust rests => owner.same (idle trust rests),
      fun trust live other => owner.same (denied trust live other), fun trust live own => acts (takes trust live own)⟩
  refine ⟨fun takes => service_serves takes rfl rfl fun t owner => rows owner fun acts => owner.causes acts ?_,
    fun takes => service_serves takes rfl rfl fun t owner => rows owner fun acts =>
      ⟨fun free => owner.causes acts ?_, fun held => owner.causes acts ?_⟩,
    fun takes => service_serves takes rfl rfl fun t owner => rows owner fun acts => owner _ .done rfl acts,
    fun takes => service_serves takes rfl rfl fun t owner => ?_⟩
  · simp [Run.answerCauses_eq, Run.held, b]
  · simp [Run.answerCauses_eq, Run.held, b, free]
  · simp [Run.answerCauses_eq, Run.held, b, held]
  · obtain ⟨barred, denied, stands, clears⟩ := balClear_rows (d := s.dev.clockOut p) (p := p)
    exact ⟨fun no => owner.same (barred no), fun trust no => owner.same (denied trust no),
      fun trust may runs => owner.same (stands trust may runs), fun trust may ended => owner.bal (clears trust may ended)⟩

end

end

section
/-! SUPPORT. The events of a balancing run: records, hand-offs and the duration (R146 to R150). -/

namespace Sys2Proof

theorem FireStage.grave_iff (st : FireStage) : st.grave = true ↔ st = .prealarm ∨ st = .alarm ∨ st = .released := by
  cases st <;> simp [FireStage.grave]

end Sys2Proof

namespace Sys2Proof.Machine

/-! ## The end of a run where an event finds one (R150) -/

theorem Device.runOn_iff (d : Device) (n : StringId) : d.runOn n = true ↔ d.bal.run.state.live = true ∧ d.bal.run.string = n := by
  rw [Device.runOn, Bool.and_eq_true, beq_iff_eq]
  rfl

/-- R150: an event ends a run where its condition holds, and changes nothing elsewhere. -/
theorem Device.when_ends {d : Device} {b : Bool} {ends : Prop} (reads : b = true ↔ ends) (code : Nat) :
    (ends → RunEnded d (d.when b (·.endRun code)) code) ∧ (¬ends → d.when b (·.endRun code) = d) :=
  ⟨fun yes => (if_pos (reads.mpr yes)).trans (d.endRun_ended code), fun no => if_neg (mt reads.mp no)⟩

theorem execBalHealthHandoff_eq (n : StringId) (x : Health) (s : State) :
    let m := (s.dev.took (.balHealthHandoff n x)).modBal fun b => { b with health := b.health.set n x }
    execBalHealthHandoff n x s = .next ⟨s.pending, (healthEnd x).elim m fun code => m.when (m.runOn n) (·.endRun code)⟩ := by
  cases x <;> rfl

/-- R150: an event that may have an end code ends the run on its string with the code. -/
theorem Device.elim_ends (d : Device) (n : StringId) (x : Option Nat) :
    let e := x.elim d fun code => d.when (d.runOn n) (·.endRun code)
    let on := d.bal.run.state.live = true ∧ d.bal.run.string = n
    (∀ code, on → x = some code → RunEnded d e code) ∧ (¬on ∨ x = none → e = d) := by
  cases x with
  | none => exact ⟨fun _ _ => nofun, fun _ => rfl⟩
  | some code =>
    obtain ⟨ends, stays⟩ := Device.when_ends (d.runOn_iff n) code
    exact ⟨fun _ on same => Option.some.inj same ▸ ends on, fun no => stays (no.resolve_right nofun)⟩

/-! ## The thermal hold (R148) -/

/-- R148: the hold is a cause of a live run. -/
theorem Device.thermalHold_eq (d : Device) (on : Bool) :
    let m := d.modBal fun b => { b with thermalHold := on }
    let r := d.bal.run
    m.when m.runLive (·.setCauses fun r => { r with thermalCause := on }) = { d with bal := { d.bal with
      thermalHold := on
      run := if r.state.live = true then { r with
          thermalCause := on
          state := if r.state = .running ∧ (on = true ∨ r.portCause = true) then .suspendPending
            else if r.state = .suspendPending ∧ on = false ∧ r.portCause = false then .running else r.state }
        else r } } := by
  intro m r
  by_cases live : r.state.live = true
  · refine (if_pos live).trans ((m.setCauses_eq _).trans ?_)
    simp only [Run.held, Bool.or_eq_true, Bool.or_eq_false_iff, if_pos live]
    rfl
  · rw [if_neg live]
    exact if_neg live

/-! ## The bleed set and the state step (R146) -/

/-- R146: a record forms the bleed set. -/
def Run.Forms (r : Run) : Prop := r.state = .running ∨ r.state = .suspended ∧ r.thermalCause = false ∧ r.portCause = false

theorem Run.not_held_iff (r : Run) : (!r.held) = true ↔ r.thermalCause = false ∧ r.portCause = false := by
  rw [Run.held, Bool.not_or, Bool.and_eq_true, Bool.not_eq_true', Bool.not_eq_true']

/-- R146: an empty set ends the run, another is commanded. -/
theorem Device.formBleed_rows (d : Device) (vmax : List Int) :
    let set := bleedFrom d.bal.run.target 0 vmax
    let running : Run := { d.bal.run with state := .running }
    (set = 0 → RunEnded { d with bal := { d.bal with run := running } } (d.formBleed vmax) 1) ∧
    (set ≠ 0 → d.formBleed vmax = { d with bal := { d.bal with run := running, commanded := set } }) :=
  ⟨fun empty => if_pos empty, fun some => if_neg some⟩

theorem Device.bleedStep_rows (d : Device) (vmax : List Int) :
    let r := d.bal.run
    (r.Forms → d.bleedStep vmax = d.formBleed vmax) ∧
    (r.state = .suspendPending →
      d.bleedStep vmax = { d with bal := { d.bal with run := { r with state := .suspended }, commanded := 0 } }) ∧
    (r.state = .suspended → ¬r.Forms → d.bleedStep vmax = d) := by
  intro r
  unfold Device.bleedStep
  refine ⟨fun forms => ?_, fun pends => ?_, fun waits not => ?_⟩
  · rcases forms with runs | ⟨waits, free⟩
    · rw [runs]
    · rw [waits]
      exact if_pos (r.not_held_iff.mpr free)
  · rw [pends]
    rfl
  · rw [waits]
    exact if_neg fun free => not (.inr ⟨waits, r.not_held_iff.mp free⟩)

/-! ## A record for the run (R146, R147) -/

section
variable {d e : Device} {vmax : List Int} {bleed : BitVec 16}

/-- R147: the second mismatch ends the run, and the record is handled no further. -/
theorem Device.recordTaken_mismatch (many : 2 ≤ d.bal.mismatchAfter bleed) : d.recordTaken vmax bleed = (d.recordCounted bleed).endRun 10 :=
  if_pos many

/-- R146: past the mismatch test, the state step; a run that is still live remembers its set. -/
theorem Device.recordTaken_steps (few : d.bal.mismatchAfter bleed < 2) (steps : (d.recordCounted bleed).bleedStep vmax = e) :
    (e.bal.run.state.live = true → d.recordTaken vmax bleed = e.modBal Bal.remember) ∧
    (e.bal.run.state.live = false → d.recordTaken vmax bleed = e) := by
  subst steps
  have past : ¬2 ≤ d.bal.mismatchAfter bleed := Nat.not_le.mpr few
  exact ⟨fun live => (if_neg past).trans (if_pos live), fun rests => (if_neg past).trans (if_neg (Bool.eq_false_iff.mp rests))⟩

end

end Sys2Proof.Machine

section
open Sys2Proof Sys2Proof.Machine

/-- Settles O56: a record by the mismatch test and the state step, the thermal hold as a cause, and each other event by where it finds a
live run that it ends. -/
theorem balanceEventsMoveTheRun : Obligations.BalanceEventsMoveTheRun := by
  intro s d b r live
  refine ⟨fun n vmax bleed => ⟨_, execBalanceRecord_eq n vmax bleed s, ?_⟩, fun on => ?_, fun st => ⟨_, rfl, ?_⟩,
    fun n h => ⟨_, execBalHealthHandoff_eq n h s, ?_⟩, fun n => ⟨_, rfl, ?_⟩, fun p st => ⟨_, rfl, ?_⟩, _, rfl, ?_⟩
  · intro m miss counted goes forms
    have found := m.runOn_iff n
    have taken (is : live) (same : r.string = n) : m.when (m.runOn n) (·.recordTaken vmax bleed) = m.recordTaken vmax bleed :=
      if_pos (found.mpr ⟨is, same⟩)
    obtain ⟨forming, pending, waiting⟩ := (m.recordCounted bleed).bleedStep_rows vmax
    refine ⟨fun no => if_neg (mt found.mp no), fun is same many => ?_, fun is same few => ⟨fun form => ?_, fun pends => ?_,
      fun waits not => ?_⟩⟩
    · exact (taken is same).trans (Device.recordTaken_mismatch (d := m) many)
    · obtain ⟨ends, commands⟩ := (m.recordCounted bleed).formBleed_rows vmax
      refine ⟨bleedFrom r.target 0 vmax, bleedFrom_set r.target vmax, fun empty => ?_, fun some => ?_⟩
      · have step := (forming form).trans (ends empty)
        exact (taken is same).trans ((Device.recordTaken_steps (d := m) few step).2 rfl)
      · have step := (forming form).trans (commands some)
        exact (taken is same).trans ((Device.recordTaken_steps (d := m) few step).1 rfl)
    · exact (taken is same).trans ((Device.recordTaken_steps (d := m) few (pending pends)).1 rfl)
    · exact (taken is same).trans ((Device.recordTaken_steps (d := m) few (waiting waits not)).1 is)
  · exact next_congr ((d.took (.thermalHoldHandoff on)).thermalHold_eq on)
  · refine Device.when_ends ?_ 3
    rw [Bool.and_eq_true, st.grave_iff, and_comm]
    rfl
  · intro m on
    obtain ⟨ended, stays⟩ := m.elim_ends n (healthEnd h)
    exact ⟨fun is same => ended 4 is (same ▸ rfl), fun is same => ended 5 is (same ▸ rfl), fun is same => ended 6 is (same ▸ rfl),
      fun is same => ended 7 is (same ▸ rfl), fun no => stays (no.imp_right fun same => by rcases same with rfl | rfl <;> rfl)⟩
  · obtain ⟨ends, stays⟩ := Device.when_ends ((d.took (.balMonitorLoss n)).runOn_iff n) 6
    exact ⟨fun is same => ends ⟨is, same⟩, fun no => stays (not_and_or.mpr no)⟩
  · refine Device.when_ends ?_ 9
    simp only [Bool.and_eq_true, Bool.or_eq_true, beq_iff_eq]
    rw [and_assoc, and_comm, and_assoc]
    rfl
  · exact ⟨fun runs => if_pos (beq_iff_eq.mpr runs), fun no => if_neg (mt beq_iff_eq.mp no)⟩

end

end

section
/-! SUPPORT. The forfeit counts through every command (R157, R159, R161). -/

namespace Sys2Proof.Machine

-- Bodies elaborated side by side would each hold a thread while a default argument waits for the kernel.
set_option Elab.async false

/-! ## One record -/

/-- R157: a standing record whose forfeit count is at most 3, and 3 exactly where the port is BARRED. -/
def PortStanding.Lawful (r : PortStanding) : Prop := r.forfeits ≤ 3 ∧ (r.forfeits = 3 ↔ r.standing = .barred)

theorem ForfeitLaw.lawful {d : Device} (h : ForfeitLaw d) (p : Port) : (d.port p).Lawful := h p

theorem PortStanding.Lawful.congr {r x : PortStanding} (h : r.Lawful) (forfeits : x.forfeits = r.forfeits)
    (bars : x.standing = .barred ↔ r.standing = .barred) : x.Lawful := by
  unfold PortStanding.Lawful
  rw [forfeits, bars]
  exact h

/-- R156: an answer bars no port and readmits no BARRED one. -/
theorem standingAfterAnswer_barred (st : Standing) : standingAfterAnswer st = .barred ↔ st = .barred := by
  cases st <;> decide

/-- R159, R161: nor does a reset of a link or of the part. -/
theorem standingAfterReset_barred (st : Standing) : (if st = .barred then Standing.barred else .unchecked) = .barred ↔ st = .barred := by
  split <;> simp [*]

/-! ## What the law reads -/

theorem ForfeitLaw.congr {d e : Device} (h : ForfeitLaw d) (same : e.sdm = d.sdm) : ForfeitLaw e := fun p => by
  rw [Device.port, same]
  exact h p

theorem ForfeitLaw.only {d e : Device} {bs : List Block} (h : ForfeitLaw d) (only : Only bs d e) (apart : .sdm ∉ bs := by decide) :
    ForfeitLaw e := h.congr (only .sdm apart)

theorem ForfeitLaw.modPort {d : Device} (h : ForfeitLaw d) (p : Port) {f : PortStanding → PortStanding} (lawful : (f (d.port p)).Lawful) :
    ForfeitLaw (d.modPort p f) := fun q => by
  rw [d.modPort_port]
  split
  · exact lawful
  · exact h q

/-! ## The law through the operations -/

/-- R158: a standing set at one port leaves the other ports' records. -/
theorem ForfeitLaw.set {d e : Device} {p : Port} {r : PortStanding} (h : ForfeitLaw d) (set : StandingSet d e p r) (lawful : r.Lawful) :
    ForfeitLaw e := fun q => by
  obtain ⟨here, others, -⟩ := set
  by_cases same : q = p
  · rw [same, here]; exact lawful
  · rw [others q same]; exact h q

/-- R157: a port that is LAPSED has fallen at most twice, so that its fall to FORFEIT or BARRED counts to at most 3. -/
theorem ForfeitLaw.missed {d e : Device} {p : Port} {kind : MissKind} (h : ForfeitLaw d) (missed : Missed d e p kind) : ForfeitLaw e := by
  refine h.set missed ?_
  obtain ⟨most, bars⟩ := h p
  cases standing : (d.port p).standing with
  | lapsed =>
    have few : (d.port p).forfeits ≠ 3 := fun full => by simp [bars.mp full] at standing
    have count : min 3 ((d.port p).forfeits + 1) = (d.port p).forfeits + 1 := by omega
    simp only [PortStanding.Lawful, count, reduceCtorEq, ↓reduceIte]
    refine ⟨by omega, ?_⟩
    split <;> simp [*]
  | _ => simpa [PortStanding.Lawful, standing] using And.intro most bars

theorem ForfeitLaw.miss {d : Device} (h : ForfeitLaw d) (p : Port) (kind : MissKind) : ForfeitLaw (d.miss p kind) :=
  h.missed (d.miss_missed p kind)

/-- R159: a link reset keeps the count, and BARRED with it. -/
theorem ForfeitLaw.readmit {d : Device} (h : ForfeitLaw d) (p : Port) : ForfeitLaw (d.readmit p) :=
  h.set (d.readmit_set p) ((h.lawful p).congr rfl (standingAfterReset_barred _))

/-- R156: what a right answer does at its port. -/
def Device.challengeAnswered (p : Port) (d : Device) : Device :=
  (d.modPort p fun r => { r with outstanding := false, deadline := none }).setStanding p (standingAfterAnswer (d.port p).standing)

theorem Device.challengeAnswered_set (d : Device) (p : Port) : StandingSet d (d.challengeAnswered p) p { d.port p with
    outstanding := false, deadline := none, standing := standingAfterAnswer (d.port p).standing } :=
  d.setStanding_set p (f := fun r => { r with outstanding := false, deadline := none }) (fun _ => rfl) _

theorem ForfeitLaw.sdmAnswer {d : Device} (h : ForfeitLaw d) (p : Port) (v : Word) : ForfeitLaw (sdmAnswer p v d).1 := by
  refine row_keeps h ?_
  dsimp only
  split
  · exact h.miss p _
  · split
    · exact h.miss p _
    · split
      · exact h.miss p _
      · exact h.set (d.challengeAnswered_set p) ((h.lawful p).congr rfl (standingAfterAnswer_barred _))

/-! ## The resets -/

/-- R161: a warm restart keeps the count, and BARRED with it. -/
theorem ForfeitLaw.restart {d : Device} (h : ForfeitLaw d) : ForfeitLaw d.restart := fun p => by
  have r := d.restart_ready
  have sdm : d.restart.sdm = d.restartedTo.sdm := by
    rw [d.restart_eq]
    exact (Device.startBlocks_keeps r.ready).sdm.trans (r.only .sdm (by decide))
  rw [Device.port, sdm, ← Device.port, d.restartedTo_port]
  exact (h.lawful p).congr rfl (standingAfterReset_barred _)

/-- R161: a power-on reset clears every count. -/
theorem powerOn_forfeitLaw (d : Device) : ForfeitLaw d.powerOn := fun p => by
  have cleared : (d.loaded.port p).forfeits = 0 ∧ (d.loaded.port p).standing = .unchecked := by cases p <;> exact ⟨rfl, rfl⟩
  rw [d.powerOn_eq, Device.port, (Device.startBlocks_keeps d.loaded_ready).sdm, ← Device.port, cleared.1, cleared.2]
  decide

theorem ForfeitLaw.settle {d : Device} (h : ForfeitLaw d) : ForfeitLaw d.settle := Device.when_keeps h ForfeitLaw.restart

theorem ForfeitLaw.settles {i : Instr} {s t : State} (law : ForfeitLaw s.dev) (settles : Settles i) (h : exec i s = .next t) :
    ForfeitLaw t.dev := by
  obtain ⟨m, only, stays | settled⟩ := settles_leaves settles h
  · exact stays ▸ law.only only
  · exact settled ▸ (law.only only).settle

/-! ## Every command -/

/-- A millisecond passes for the timers of each record alone. -/
theorem ForfeitLaw.tick (d : Device) (h : ForfeitLaw d) : ForfeitLaw d.tick := fun p => by
  have ticked : d.tick.port p = _ := PerPort.get_map _ d.sdm.ports p
  rw [ticked]
  exact h p

/-- The events that touch SDM: its own two, a port reset and the restarts. -/
theorem event_sdm {i : Instr} (h : .sdm ∈ touches i) (event : requestOf i = none) :
    i = .powerOnReset ∨ Settles i ∨ (∃ p, i = .portReset p) ∨ (∃ p, i = .periodExpiry p) ∨ ∃ p, i = .deadlineExpiry p := by
  cases i <;> simp [touches, restartTouches, requestOf, Settles] at h event ⊢

theorem forfeitLaw_event {i : Instr} {s t : State} (event : requestOf i = none) (h : exec i s = .next t)
    (law : ForfeitLaw s.dev) : ForfeitLaw t.dev := by
  by_cases sdm : .sdm ∈ touches i
  · obtain rfl | settles | ⟨p, rfl⟩ | ⟨p, rfl⟩ | ⟨p, rfl⟩ := event_sdm sdm event
    · cases h; exact powerOn_forfeitLaw _
    · exact law.settles settles h
    · cases h.symm.trans (execPortReset_eq p s)
      exact (law.congr rfl : ForfeitLaw (s.dev.portCleared p)).readmit p
    · cases h
      dsimp only [State.on_dev]
      have restarted := law.modPort p (f := fun r => { r with periodIn := s.dev.periodOf p }) ((law.lawful p).congr rfl Iff.rfl)
      refine Device.when_keeps restarted fun held => ?_
      exact Device.when_keeps (Device.when_keeps held fun late => late.miss p _) fun judged =>
        judged.modPort p ((judged.lawful p).congr rfl Iff.rfl)
    · cases h; exact Device.when_keeps law fun due => due.miss p _
  · obtain ⟨d, e, only⟩ := event_completes event s
    cases h.symm.trans e
    exact law.only only sdm

/-- The requests that touch SDM: ANSWER and RESTART. -/
theorem request_sdm {kind index : Nat} (h : .sdm ∈ routeTouches kind index) : kind = 4 ∨ kind = 3 ∧ index = 19 := by
  unfold routeTouches at h
  split at h <;> simp at h ⊢
  unfold serviceTouches at h
  split at h <;> simp at h ⊢

theorem forfeitLaw_route (p : Port) (f : Frame) (d : Device) (law : ForfeitLaw d) : ForfeitLaw (route p f d).1 := by
  by_cases sdm : .sdm ∈ routeTouches f.kind.toNat f.index.toNat
  · obtain kind | ⟨kind, index⟩ := request_sdm sdm
    · simp only [route, kind]
      exact law.sdmAnswer p f.value
    · simp only [route, kind, service, index]
      exact row_keeps law (row_keeps law (law.only (modSto_only d _)).settle)
  · exact law.only (route_only d p f) sdm

end Sys2Proof.Machine

section
open Sys2Proof Sys2Proof.Machine

/-- Settles O13: a miss counts a fall of a LAPSED port and bars it at the third, an answer and a reset keep the count and BARRED alike, and
a power-on reset clears both. -/
theorem forfeitLawKept : Obligations.ForfeitLawKept := fun _ _ =>
  step_keeps ForfeitLaw.tick (fun _ _ _ => forfeitLaw_event) (fun only law => law.only only) forfeitLaw_route

end

end

section
/-! SUPPORT. Challenges, deadlines and answers at SDM (R155 to R158). -/

namespace Sys2Proof.Machine

-- Bodies elaborated side by side would each hold a thread while a default argument waits for the kernel.
set_option Elab.async false

/-! ## Challenges (R155) -/

/-- R155: the tokens from a reset run 60, then five times the last and one more, mod 256. -/
theorem nextToken_eq (t : Option Byte) :
    nextToken t = match t with | none => 60 | some t => BitVec.ofNat 8 ((5 * t.toNat + 1) % 256) := by
  cases t with
  | none => rfl
  | some t => exact BitVec.eq_of_toNat_eq (by simp [nextToken]; omega)

/-- R155: a period starts afresh at its port. -/
def Device.periodRestarted (p : Port) (d : Device) : Device := d.modPort p fun r => { r with periodIn := d.periodOf p }

theorem execPeriodExpiry_eq (p : Port) (s : State) :
    let d := s.dev.periodRestarted p
    let m := d.when (d.port p).outstanding (·.miss p .late)
    exec (.periodExpiry p) s =
      .next ⟨s.pending, d.when (d.standing p != .barred) fun _ => m.when (m.standing p != .barred) (·.challenge p)⟩ := rfl

theorem execDeadlineExpiry_eq (p : Port) (s : State) : exec (.deadlineExpiry p) s =
    .next ⟨s.pending, s.dev.when ((s.dev.port p).outstanding && (s.dev.port p).deadline.isSome) (·.miss p .late)⟩ := rfl

theorem Device.periodRestarted_standing (d : Device) (p : Port) : (d.periodRestarted p).standing p = d.standing p :=
  congrFun (Device.modPort_standings rfl) p

theorem Device.periodRestarted_free {d : Device} {p : Port} (free : d.standing p ≠ .barred) :
    ((d.periodRestarted p).standing p != .barred) = true := bne_iff_ne.mpr (d.periodRestarted_standing p ▸ free)

theorem Device.periodRestarted_port (d : Device) (p : Port) :
    (d.periodRestarted p).port p = { d.port p with periodIn := d.periodOf p } := (d.modPort_port p p _).trans (if_pos rfl)

/-- R155: the record of a port whose period starts and that is issued its next challenge. -/
def Device.issued (d : Device) (p : Port) (r : PortStanding) : PortStanding := { r with
  periodIn := d.itemNat .t11 (2 * p.num)
  token := some (match r.token with | none => 60 | some t => BitVec.ofNat 8 ((5 * t.toNat + 1) % 256))
  outstanding := true
  issueGeneration := d.env.generation
  deadline := some (d.itemNat .t11 (2 * p.num + 1)) }

/-- R155: a challenge after the start of a period, under the settings and the generation of part d. -/
theorem Device.challenge_eq {d m : Device} {p : Port} (env : m.env = d.env) (settings : m.settings = d.settings)
    (period : (m.port p).periodIn = d.periodOf p) :
    m.challenge p = { m with sdm := ⟨m.sdm.ports.set p (d.issued p (m.port p))⟩ } := by
  have item : m.itemNat = d.itemNat := by funext t i; rw [Device.itemNat, Device.item, settings]; rfl
  have same : d.issued p (m.port p) = { m.port p with
      token := some (nextToken (m.port p).token), outstanding := true, issueGeneration := m.env.generation
      deadline := some (m.windowOf p) } := by
    unfold Device.issued Device.windowOf
    rw [nextToken_eq, env, item, ← Device.periodOf, ← period]
  rw [same]
  rfl

/-- R155: with nothing outstanding, the period and the challenge alone change the part. -/
theorem Device.periodRestarted_challenge (d : Device) (p : Port) :
    (d.periodRestarted p).challenge p = { d with sdm := ⟨d.sdm.ports.set p (d.issued p (d.port p))⟩ } := by
  rw [Device.challenge_eq (d := d) (m := d.periodRestarted p) rfl rfl (by rw [d.periodRestarted_port]), d.periodRestarted_port]
  cases p <;> rfl

/-- R155, R157: a late miss leaves the period that has just started, and what a challenge is issued under. -/
theorem Device.late_challenge (d : Device) (p : Port) :
    let m := (d.periodRestarted p).miss p .late
    m.challenge p = { m with sdm := ⟨m.sdm.ports.set p (d.issued p (m.port p))⟩ } := by
  intro m
  have only := miss_only (d.periodRestarted p) p .late
  obtain ⟨record, -⟩ := (d.periodRestarted p).miss_missed p .late
  refine Device.challenge_eq (only .env (by decide)) (only .settings (by decide)) ?_
  rw [record, d.periodRestarted_port]

section
variable {s : State} {p : Port}

theorem execPeriodExpiry_barred (barred : (s.dev.port p).standing = .barred) : exec (.periodExpiry p) s =
    .next ⟨s.pending, { s.dev with sdm :=
      ⟨s.dev.sdm.ports.set p { s.dev.port p with periodIn := s.dev.itemNat .t11 (2 * p.num) }⟩ }⟩ := by
  have rests : ((s.dev.periodRestarted p).standing p != .barred) = false := by
    rw [Device.periodRestarted_standing]
    exact bne_eq_false_iff_eq.mpr barred
  rw [execPeriodExpiry_eq, rests]
  rfl

/-- R155: at a port that is not BARRED a late miss comes first, and the challenge after it where the port is not BARRED by then. -/
theorem execPeriodExpiry_free (free : (s.dev.port p).standing ≠ .barred) :
    let d := s.dev.periodRestarted p
    let m := d.when (s.dev.port p).outstanding (·.miss p .late)
    exec (.periodExpiry p) s = .next ⟨s.pending, m.when (m.standing p != .barred) (·.challenge p)⟩ := by
  rw [execPeriodExpiry_eq, Device.periodRestarted_free free, Device.periodRestarted_port]
  rfl

theorem execPeriodExpiry_idle (free : (s.dev.port p).standing ≠ .barred) (idle : (s.dev.port p).outstanding = false) :
    exec (.periodExpiry p) s =
      .next ⟨s.pending, { s.dev with sdm := ⟨s.dev.sdm.ports.set p (s.dev.issued p (s.dev.port p))⟩ }⟩ := by
  rw [execPeriodExpiry_free free, idle, ← Device.periodRestarted_challenge]
  exact next_congr (if_pos (Device.periodRestarted_free free))

theorem execPeriodExpiry_late (free : (s.dev.port p).standing ≠ .barred) (due : (s.dev.port p).outstanding = true) :
    let m := (s.dev.periodRestarted p).miss p .late
    exec (.periodExpiry p) s = .next ⟨s.pending,
      if m.standing p = .barred then m else { m with sdm := ⟨m.sdm.ports.set p (s.dev.issued p (m.port p))⟩ }⟩ := by
  intro m
  rw [execPeriodExpiry_free free, due, ← Device.late_challenge]
  refine next_congr ?_
  change m.when (m.standing p != .barred) (·.challenge p) = _
  unfold Device.when
  simp only [bne_iff_ne, ne_eq, ite_not]
  rfl

theorem execDeadlineExpiry_idle (idle : (s.dev.port p).outstanding = false ∨ (s.dev.port p).deadline = none) :
    exec (.deadlineExpiry p) s = .next s := by
  rw [execDeadlineExpiry_eq]
  refine next_congr (e := s.dev) (if_neg ?_)
  rw [Bool.and_eq_true, Option.isSome_iff_ne_none]
  exact fun ⟨due, runs⟩ => idle.elim (fun idle => by cases due.symm.trans idle) runs

theorem execDeadlineExpiry_late (due : (s.dev.port p).outstanding = true) (runs : (s.dev.port p).deadline ≠ none) :
    exec (.deadlineExpiry p) s = .next ⟨s.pending, s.dev.miss p .late⟩ :=
  next_congr (if_pos (Bool.and_eq_true_iff.mpr ⟨due, Option.isSome_iff_ne_none.mpr runs⟩))

end

/-! ## Answers (R156) -/

/-- R156: the value carries the answer byte of port p's token. -/
def AnswersRight (d : Device) (p : Port) (v : Word) : Prop :=
  v.toNat / 65536 = (255 + 256 - ((d.port p).token.getD 0).toNat + p.num) % 256

/-- R156: the value acknowledges a generation no older than port p's at issue, counted back from the one at ENV. -/
def AnswersInStep (d : Device) (p : Port) (v : Word) : Prop :=
  ((d.env.generation.toNat : Int) - (v.toNat : Int) % 65536) % 65536 ≤
    ((d.env.generation.toNat : Int) - (d.port p).issueGeneration.toNat) % 65536

theorem answersRight_iff (d : Device) (p : Port) {v : Word} (low : v.toNat ≤ 0xFFFFFF) :
    v.extractLsb' 16 8 = answerByte p ((d.port p).token.getD 0) ↔ AnswersRight d p v := by
  have byte : (v.extractLsb' 16 8).toNat = v.toNat / 65536 := by
    simp [BitVec.extractLsb'_toNat, Nat.shiftRight_eq_div_pow]
    omega
  have right (token : Byte) : (answerByte p token).toNat = (255 + 256 - token.toNat + p.num) % 256 := by
    have := token.isLt
    cases p <;> simp [answerByte, portByte, Port.num] <;> omega
  rw [← BitVec.toNat_inj, byte, right, AnswersRight]

theorem answersInStep_iff (d : Device) (p : Port) (v : Word) :
    inStep d.env.generation (d.port p).issueGeneration (v.extractLsb' 0 16) = true ↔ AnswersInStep d p v := by
  have back (a b : BitVec 16) : ((a - b).toNat : Int) = ((a.toNat : Int) - b.toNat) % 65536 := by
    have := a.isLt
    have := b.isLt
    rw [BitVec.toNat_sub]
    omega
  have acknowledged : ((v.extractLsb' 0 16).toNat : Int) = (v.toNat : Int) % 65536 := by simp [BitVec.extractLsb'_toNat]
  rw [inStep, decide_eq_true_iff, AnswersInStep, ← acknowledged, ← back, ← back, Int.ofNat_le]

section
variable {d : Device} {p : Port} {v : Word}

theorem sdmAnswer_range (high : 0xFFFFFF < v.toNat) : sdmAnswer p v d = (d, .no .range) := if_pos high

theorem sdmAnswer_low (low : v.toNat ≤ 0xFFFFFF) : sdmAnswer p v d =
    if (d.port p).outstanding = false then (d.miss p .unasked, .state 3)
    else if v.extractLsb' 16 8 ≠ answerByte p ((d.port p).token.getD 0) then (d.miss p .wrong, .state 1)
    else if inStep d.env.generation (d.port p).issueGeneration (v.extractLsb' 0 16) = false then (d.miss p .stale, .state 2)
    else (d.challengeAnswered p, .ok (standingAfterAnswer (d.port p).standing).code) := by
  simp only [sdmAnswer, Nat.not_lt.mpr low, Bool.not_eq_true', if_false]
  rfl

variable (low : v.toNat ≤ 0xFFFFFF)
include low

theorem sdmAnswer_unasked (idle : (d.port p).outstanding = false) : sdmAnswer p v d = (d.miss p .unasked, .state 3) :=
  (sdmAnswer_low low).trans (if_pos idle)

variable (due : (d.port p).outstanding = true)
include due

theorem sdmAnswer_wrong (wrong : ¬AnswersRight d p v) : sdmAnswer p v d = (d.miss p .wrong, .state 1) := by
  rw [sdmAnswer_low low, if_neg (by rw [due]; decide), if_pos (mt (answersRight_iff d p low).mp wrong)]

variable (right : AnswersRight d p v)
include right

theorem sdmAnswer_right : sdmAnswer p v d =
    if inStep d.env.generation (d.port p).issueGeneration (v.extractLsb' 0 16) = false then (d.miss p .stale, .state 2)
    else (d.challengeAnswered p, .ok (standingAfterAnswer (d.port p).standing).code) := by
  rw [sdmAnswer_low low, if_neg (by rw [due]; decide), if_neg (not_not.mpr ((answersRight_iff d p low).mpr right))]

theorem sdmAnswer_stale (stale : ¬AnswersInStep d p v) : sdmAnswer p v d = (d.miss p .stale, .state 2) :=
  (sdmAnswer_right low due right).trans (if_pos (Bool.eq_false_iff.mpr (mt (answersInStep_iff d p v).mp stale)))

theorem sdmAnswer_inStep (fresh : AnswersInStep d p v) :
    sdmAnswer p v d = (d.challengeAnswered p, .ok (standingAfterAnswer (d.port p).standing).code) :=
  (sdmAnswer_right low due right).trans (if_neg (Bool.not_eq_false _ ▸ (answersInStep_iff d p v).mpr fresh))

end

/-- R156: BARRED and FORFEIT outlast a right answer. -/
theorem standingAfterAnswer_eq (st : Standing) :
    standingAfterAnswer st = if st = .forfeit ∨ st = .barred then st else .inStanding := by cases st <;> rfl

/-! ## SDM reads no link -/

theorem linksApart_swcStandingChanged (p : Port) : LinksApart (·.swcStandingChanged p) := by
  have drops : LinksApart (·.dropSelections p) :=
    LinksApart.each (fun n => LinksApart.when (f := (·.dropSelection n)) (fun _ _ => rfl) fun _ _ => rfl) _
  exact linksApart_swcEnd.comp (drops.when (b := fun d => d.standing p != .inStanding) fun _ _ => rfl)

theorem linksApart_duRefresh : LinksApart Device.duRefresh := fun d l => by
  rw [Device.duRefresh_eq, Device.duRefresh_eq]
  rfl

theorem linksApart_setStanding (p : Port) (st : Standing) : LinksApart (·.setStanding p st) := by
  have hears : LinksApart fun d => (d.restanding p st).swcStandingChanged p :=
    (linksApart_swcStandingChanged p).comp (g := (·.restanding p st)) fun _ _ => rfl
  have follows : LinksApart fun d => ((d.restanding p st).swcStandingChanged p).when (p == .converter) (·.duRefresh) :=
    (linksApart_duRefresh.when (b := fun _ => p == .converter) fun _ _ => rfl).comp hears
  have told : LinksApart fun d : Device =>
      ((d.post (.envelopeRecomputation (.standing p st))).post (.balStandingHandoff p st)).postIf (p == .site) (.siteStandingHandoff st) :=
    fun _ _ => by cases p <;> rfl
  exact (told.comp follows).when (b := fun d => d.standing p != st) fun _ _ => rfl

/-- What a judgment leaves of one record and makes of its standing does not rest on the links. -/
theorem linksApart_judgment (p : Port) (f : PortStanding → PortStanding) (st : PortStanding → Standing) :
    LinksApart fun d => (d.modPort p f).setStanding p (st (d.port p)) :=
  fun d l => linksApart_setStanding p (st (d.port p)) (d.modPort p f) l

theorem linksApart_miss (p : Port) (kind : MissKind) : LinksApart (·.miss p kind) :=
  linksApart_judgment p _ fun r => standingAfterMiss r.standing r.forfeits

theorem challengeAnswered_only (d : Device) (p : Port) : Only [.handoffs, .du, .swc, .sdm] d (d.challengeAnswered p) :=
  ((Only.refl _ d).modPort p _).setStanding p _

theorem linksApart_challengeAnswered (p : Port) : LinksApart (·.challengeAnswered p) :=
  linksApart_judgment p _ fun r => standingAfterAnswer r.standing

/-! ## The request -/

/-- A standing that is set is set so whatever stands at the ports after. -/
theorem StandingSet.links {d e : Device} {p : Port} {r : PortStanding} (h : StandingSet d e p r) (l : Pif) :
    StandingSet d { e with pif := l } p r := by
  obtain ⟨here, others, only, rest⟩ := h
  exact ⟨here, others, only.trans ((withPif_only e l).mono (by decide)), rest⟩

section
variable {s : State} {p : Port} {f : Frame} {act : Device → Device × Answer}
  (hrun : (s.dev.link p).running = true) (hchk : f.check = crc8 f.body)
include hrun hchk

/-- R156: an answer that is judged: its result and value pend at the port, and the port's record is set. -/
theorem answer_judged {g : Device → Device} {result : Result} {value : Word} {r : PortStanding} (apart : LinksApart g)
    (keeps : (g s.dev).pif = s.dev.pif) (set : StandingSet s.dev (g s.dev) p r)
    (acts : act (s.dev.clockOut p) = (g (s.dev.clockOut p), ⟨result, some value⟩)) :
    let t := s.on (·.request p f act)
    (∃ q, (t.dev.link p).pending = some q ∧ q = ⟨f.kind, result, value⟩) ∧ StandingSet s.dev t.dev p r := by
  have replies := request_applies apart keeps hrun hchk acts
  obtain ⟨x, pends, same⟩ := replies.pending
  obtain ⟨-, y, n, -, stands⟩ := replies
  exact ⟨⟨_, pends, by rw [same value rfl]⟩, stands ▸ set.links _⟩

theorem answer_missed {kind : MissKind} {code : Int} (acts : act (s.dev.clockOut p) = ((s.dev.clockOut p).miss p kind, .state code)) :
    let t := s.on (·.request p f act)
    (∃ q, (t.dev.link p).pending = some q ∧ q = ⟨f.kind, .state, word code⟩) ∧ Missed s.dev t.dev p kind :=
  answer_judged hrun hchk (linksApart_miss p kind) (miss_only _ p kind .pif (by decide)) (s.dev.miss_missed p kind) acts

theorem answer_right {st : Standing}
    (acts : act (s.dev.clockOut p) = ((s.dev.clockOut p).challengeAnswered p, .ok (standingAfterAnswer (s.dev.port p).standing).code))
    (stands : standingAfterAnswer (s.dev.port p).standing = st) :
    let t := s.on (·.request p f act)
    (∃ q, (t.dev.link p).pending = some q ∧ q = ⟨f.kind, .ok, word st.code⟩) ∧
      StandingSet s.dev t.dev p { s.dev.port p with outstanding := false, deadline := none, standing := st } := by
  subst stands
  exact answer_judged hrun hchk (linksApart_challengeAnswered p) (challengeAnswered_only _ p .pif (by decide))
    (s.dev.challengeAnswered_set p) acts

end

end Sys2Proof.Machine

section
open Sys2Proof Sys2Proof.Machine

/-- Settles O57: a period and a deadline by the record they find, and an answer by the rows of R156; each miss is `Device.miss_missed`, and
a right answer sets the standing as `Device.challengeAnswered_set` has it. -/
theorem challengesAndAnswersSetTheStanding : Obligations.ChallengesAndAnswersSetTheStanding := by
  refine ⟨fun p s => ⟨execPeriodExpiry_barred, execPeriodExpiry_idle, fun free due => ?_, execDeadlineExpiry_idle,
    fun due runs => ?_⟩, fun p f s takes => ?_⟩
  · exact ⟨_, (s.dev.periodRestarted p).miss_missed p .late, execPeriodExpiry_late free due⟩
  · exact ⟨_, execDeadlineExpiry_late due runs, s.dev.miss_missed p .late⟩
  · obtain ⟨r, hr, hrun, hchk⟩ := takes
    cases hr
    refine ⟨_, rfl, fun high => ?_, fun low => ⟨fun idle => ?_, fun due wrong => ?_, fun due right stale => ?_,
      fun due right fresh => ?_⟩⟩
    · exact request_refuses hrun hchk .range (sdmAnswer_range high)
    · exact answer_missed hrun hchk (sdmAnswer_unasked low idle)
    · exact answer_missed hrun hchk (sdmAnswer_wrong low due wrong)
    · exact answer_missed hrun hchk (sdmAnswer_stale low due right stale)
    · exact answer_right hrun hchk (sdmAnswer_inStep low due right fresh) (standingAfterAnswer_eq _)

end

end
